-- ==== Sys2Proof/Word.lean ====
section
/-! DEFINITION. The words, names and packet shapes of OFC-256 (00_scope.md, 03_packets_and_addresses.md). -/

namespace Sys2Proof

/-- A register or packet dword (R5, R6). -/
abbrev Word := BitVec 32
/-- One byte of a memory or a frame. -/
abbrev Byte := BitVec 8

/-- The two planes of the mesh (R18). -/
inductive Plane where
  | A | B
  deriving DecidableEq, Repr

/-- The four control masters (R10, R380). Control Port A acts for one host partition (R385). -/
inductive Master where
  | portA (hpart : Fin 30)
  | portB
  | wellhead
  | debug
  deriving DecidableEq, Repr

/-- STATUS codes of Table 3-3 (R79). -/
inductive Status where
  | ok | pathLost | targetAsleep | guardFault | poisoned | timeout | unsupported
  | targetAbort | retired | reservationLost | locked | busy
  deriving DecidableEq, Repr

/-- The code of a status in a response header (Table 3-3). -/
def Status.code : Status → Nat
  | .ok => 0 | .pathLost => 1 | .targetAsleep => 2 | .guardFault => 3 | .poisoned => 4
  | .timeout => 5 | .unsupported => 6 | .targetAbort => 7 | .retired => 8
  | .reservationLost => 9 | .locked => 10 | .busy => 11

/-- One field of a register: the register's block-window offset, its lowest bit and its width. -/
structure Fld where
  off : Nat
  lo  : Nat
  w   : Nat
  deriving DecidableEq, Repr

/-- The encapsulation of a PCI Express TLP (R92): class, host partition, the TLP header dwords in
link order, and the fields of that header that the block itself reads. -/
structure Tlp where
  /-- CLASS of R92: 0 posted, 1 non-posted, 2 completion. -/
  cls    : Nat
  /-- PART of R92: the host partition. -/
  part   : Nat
  /-- HLEN of R92: header length in dwords with prefixes, 3 to 15. -/
  hlen   : Nat
  /-- What the TLP is: the type the block steers on. -/
  typ    : Nat
  /-- PCI Express traffic class 0 to 7. -/
  ptc    : Nat
  /-- The TLP address (memory requests) or the configuration register number. -/
  addr   : Nat
  /-- Requester ID of a request or completion. -/
  rid    : Nat
  /-- Completer or target ID: bus, device and function. -/
  cid    : Nat
  /-- The PCI Express tag. -/
  tag    : Nat
  /-- First and last dword byte enables. -/
  fbe    : Nat
  lbe    : Nat
  /-- Completion status of a completion TLP, 0 Successful Completion. -/
  cplst  : Nat
  /-- Byte count remaining, of a completion TLP. -/
  bytes  : Nat
  /-- The PASID it carries, if any. -/
  pasid  : Option Nat
  /-- The EP (poisoned) bit. -/
  ep     : Bool
  /-- Bits 0 to 2: No Snoop, relaxed ordering and ID-based ordering; bit 3: the address is translated; bit 4: it carries an
  ECRC. -/
  attr   : Nat
  /-- The message code of a Message TLP, and whether it is the block's BARRIER VDM. -/
  msg    : Nat
  deriving DecidableEq, Repr

/-- A packet: the header of Table 3-1 field by field, then its payload dwords (R68). -/
structure Pkt where
  kind   : Nat
  tc     : Nat
  vn     : Nat
  plane  : Nat
  twin   : Nat
  len    : Nat
  hops   : Nat
  rsv0   : Nat
  dest   : Nat
  repoch : Nat
  priv   : Nat
  status : Nat
  rsv1   : Nat
  src    : Nat
  gen    : Nat
  tag    : Nat
  seq    : Nat
  addr   : Nat
  pasid  : Nat
  basin  : Nat
  rsv6   : Nat
  stamp  : Nat
  chk    : Nat
  data   : List Word
  tlp    : Option Tlp
  deriving DecidableEq, Repr

/-- A STREAM_ADD reservation record (Table 6-5). -/
structure StreamRec where
  stream : Nat
  role   : Nat
  path   : Nat
  pl     : Nat
  inp    : Nat
  outPort : Nat
  outTile : Nat
  open_  : Nat
  close  : Nat
  budget : Nat
  maxlen : Nat
  lat    : Nat
  dest   : Nat
  base   : Nat
  size   : Nat
  xlat   : Nat
  elim   : Nat
  deriving DecidableEq, Repr

end Sys2Proof
end

