-- ==== Sys2Proof/Syntax.lean ====
section
/-! DEFINITION. The commands of the block: one constructor for each row of spec/opcode_table.json, with its operands. -/

namespace Sys2Proof

/-- The commands and events of OFC-256. Each constructor is one row of the table of operations and events. -/
inductive Instr where
  /-- R8: A control master writes a register that has no row of its own, with the effect given by the field's access type and any refusing rule. -/
  | registerWrite (m : Master) (off : Nat) (w : Word)
  /-- R445: A read of the low word of a 48-bit pair returns it and latches the high word for the reading master. -/
  | counterSnapshotRead (m : Master) (off : Nat)
  /-- R8: A write to the low word of an RS counter clears the whole counter and its SAT bit. -/
  | counterClear (m : Master) (off : Nat)
  /-- R12: A write to the low word of a 64-bit RW or RWL register is staged for the writing master. -/
  | stageLowWord (m : Master) (off : Nat) (w : Word)
  /-- R12: A write to the high word of a 64-bit register commits both halves at once. -/
  | commitHighWord (m : Master) (off : Nat) (w : Word)
  /-- R35: A read of TM_NOW_NS latches the seconds words of fabric time for the reading master. -/
  | tmNowRead (m : Master)
  /-- R38: A parent port's sync interval expires and the port sends a SYNC with a one-step t1 timestamp. -/
  | syncIntervalExpiry (p : Nat)
  /-- R38: A child port receives a SYNC and answers it with a DREQ. -/
  | sync (p : Nat)
  /-- R38: A parent port receives a DREQ and answers it with a DRESP that carries t4. -/
  | dreq (p : Nat)
  /-- R39: A child receives a DRESP, computes link delay and offset, and the servo slews or steps fabric time. -/
  | dresp (p : Nat)
  /-- R43: Every 16 sync intervals the node floods ANNOUNCE packets on all fabric ports. -/
  | announceIntervalExpiry
  /-- R43: A received ANNOUNCE is compared by the keys of Table 2-5, and the node updates its grandmaster, parent and alternates. -/
  | announce (p : Nat)
  /-- R45: Three sync intervals pass without a SYNC, or the parent port leaves service, and the node changes to its best alternate or holds over. -/
  | parentLoss
  /-- R51: TM_HOLD_ERR grows past TM_HOLD_LIMIT and the node sets OUT_OF_BOUND. -/
  | holdLimitExceeded
  /-- R48: A rising edge on TM_PPS_IN is timestamped by both timebase tiles and disciplines the servo. -/
  | ppsInEdge
  /-- R48: No PPS edge arrives for more than 1.5 s, and the node advertises CLASS 1 and enters holdover. -/
  | ppsLoss
  /-- R49: At each whole second of fabric time plus offset the node drives TM_PPS_OUT high. -/
  | ppsOutStart
  /-- R49: TM_PPSO_WIDTH after its rise, TM_PPS_OUT returns low. -/
  | ppsOutEnd
  /-- R48: The command supplies the TAI seconds of the last PPS edge and sets fabric time. -/
  | timeSetTod (mb sec : Nat)
  /-- R50: The command steps fabric time by a signed offset or writes TM_RATE.ADJ. -/
  | timeAdjust (mb : Nat) (rate : Bool) (v : Int)
  /-- R58: The command runs admission against the new period and arms a frame switch. -/
  | frameSet (mb per ph frame : Nat)
  /-- R50: The command reads a port's PTP timestamp queue. -/
  | timePtpTs (mb p : Nat)
  /-- R63: The command reloads a retired timebase tile between two ticks as the standby. -/
  | timeTbResync (mb : Nat)
  /-- R53: Fabric time reaches a frame boundary and the node fires a tick, acting in the order of Table 2-6. -/
  | tick
  /-- R57: A write to TM_FRAME_SWITCH_HI arms a frame switch, or refuses it and sets SWITCH_BAD. -/
  | frameSwitchArm (m : Master) (v : Word)
  /-- R438: A write to TM_FRAME_PERIOD or TM_FRAME_PHASE while EN is clear resets the frame anchor, and while EN is set is dropped with BUSY. -/
  | framePeriodWrite (m : Master) (phase : Bool) (v : Word)
  /-- R62: The active timebase tile's checker fires and the block fails over to the other tile. -/
  | tbCheckerFire (both : Bool)
  /-- R62: The active tile's heartbeat stops for 8 TCLK cycles and the block fails over. -/
  | tbHeartbeatLoss
  /-- R63: The two tiles differ with neither checker firing, and the block counts it and reloads the standby tile. -/
  | tbDiverge
  /-- R64: A window of 2^25 AREF cycles ends and TM_AREF_TRIM is updated. -/
  | arefTrimWindow (len : Nat)
  /-- R88: A native master issues an access, which the NI looks up, splits, guards and injects as packets. -/
  | masterAccess (kind a len pasid : Nat) (data : List Word)
  /-- R116: A held packet is injected once retention storage, credit or a hold frees, and is retained until a receipt covers it. -/
  | packetInject (t : Nat)
  /-- R232: A target NI receives a READ and returns CPL_D with the data, or CPL on failure. -/
  | read (t : Nat)
  /-- R241: A READ with LEN 0 is answered by the tile NI once every earlier posted packet of its flow has been delivered. -/
  | flushingRead (t : Nat)
  /-- R252: A target NI receives a posted write and performs it, or refuses it under its own rules. -/
  | writeP (t : Nat)
  /-- R232: A target NI receives a non-posted write, performs it and answers CPL. -/
  | writeNp (t : Nat)
  /-- R216: A cistern bank executes an ATOMIC indivisibly and answers CPL_D with the old value. -/
  | atomic (t : Nat)
  /-- R247: A bank returns the data and records a reservation on the granule for the owner key. -/
  | reserveRead (t : Nat)
  /-- R249: A bank performs the write if the owner key still holds the reservation, or answers RESERVATION_LOST. -/
  | condWrite (t : Nat)
  /-- R78: A receiving unit acts on a message by its code. -/
  | msg (t : Nat)
  /-- R97: A response reaches its requester NI, matches TAG and GEN, and completes the reorder entry. -/
  | cpl (t : Nat)
  /-- R413: A reorder entry's completion timeout fires, and the entry completes with TIMEOUT or PATH_LOST and GEN advances. -/
  | completionTimeout (t tag : Nat)
  /-- R98: One timeout period after its retirement without a response, the entry becomes allocatable. -/
  | quarantineEnd (t tag : Nat)
  /-- R117: A packet's tail reaches its egress NI, which delivers it and sends a cumulative receipt. -/
  | packetDelivery (src dt p vc : Nat)
  /-- R146: 512 FCLK cycles after insertion a key leaves the transit filter. -/
  | transitKeyAgeOut (t tag seq : Nat)
  /-- R117: A source NI receives a receipt word and frees every retained packet up to CSEQ. -/
  | receipt (t : Nat)
  /-- R118: Receipts reach a moved flow's fence mark and its held packets go out on the new plane. -/
  | flowFenceRelease (t d : Nat)
  /-- R108: A router output receives a returned credit for a VC. -/
  | creditReturn (p t d vc : Nat)
  /-- R120: A write of 0 to a plane's REQ bit starts fencing or is refused with BUSY. -/
  | planeReqClear (m : Master) (p : Nat)
  /-- R120: A write of 1 to an OUT plane's REQ bit starts its return, or is refused while FENCING. -/
  | planeReqSet (m : Master) (p : Nat)
  /-- R120: No NI retains anything for a FENCING plane, which goes OUT. -/
  | planeFenceDone (p : Nat)
  /-- R122: A hard fault of Table 4-6 freezes a plane, and NIs discard, send final receipts and END words and resend. -/
  | planeHardFault (p cause t port vc : Nat)
  /-- R122: A source NI receives END from a DTILE and resends its retained packets on the surviving plane. -/
  | endWord (t d : Nat)
  /-- R120: Every NI has finished its resends and the FAILED plane goes OUT with FAULT set. -/
  | planeResendDone (p : Nat)
  /-- R120: A returning plane's buffer self-test ends, and the plane enters IN_SERVICE or goes OUT with CAUSE 7. -/
  | planeSelftestDone (p : Nat) (pass : Bool)
  /-- R121: A router corrects a SECDED error, counts it and raises an event when enabled. -/
  | routerCe (p t d vc : Nat)
  /-- R125: A write to RTPt_FENCE fences router inputs, or is refused with BUSY. -/
  | routerFenceSet (m : Master) (p t v : Nat)
  /-- R125: A fenced input's buffers empty and its DONE bit sets. -/
  | routerInputDrained (p t d : Nat)
  /-- R124: A write to RTPt_CTL changes HI_WEIGHT only while the router is fenced or its plane is OUT. -/
  | hiWeightWrite (m : Master) (p t v : Nat)
  /-- R133: The command sets the node ID, tier and spine set. -/
  | routeSetNode (mb node tier set : Nat)
  /-- R149: The command returns the neighbour record of every fabric port. -/
  | routeNeighbours (mb : Nat)
  /-- R149: The command writes entries and groups of the FREE bank. -/
  | routeLoad (mb bank : Nat) (ents : List (Nat × Word)) (grps : List (Nat × List Nat))
  /-- R142: The command checks the FREE bank under R142 and commits it to READY, setting ELIG. -/
  | routeCommit (mb bank : Nat)
  /-- R150: The command makes the READY bank ACTIVE, sets EPOCH and starts the quiet switch. -/
  | routeFlip (mb bank : Nat)
  /-- R152: The command returns SWITCHED and the per-epoch resident and entry counts. -/
  | routeDrainStat (mb : Nat)
  /-- R149: The command frees the DRAINING bank once it has switched and drained. -/
  | routeFree (mb bank : Nat)
  /-- R150: RTE_QUIET passes after an NI's last old-epoch remote packet and the NI stamps the new epoch. -/
  | quietSwitchEnd (t : Nat)
  /-- R134: A fabric port's Hello interval expires and it sends a Hello. -/
  | helloIntervalExpiry (p : Nat)
  /-- R136: A received Hello is recorded and moves the port's routing state, or marks it REFUSED. -/
  | hello (p : Nat)
  /-- R147: No copy has been accepted for RTE_ELIM_AGE and the elimination entry returns to its initial state. -/
  | elimAgeExpiry (t n : Nat)
  /-- R147: A write of an elimination entry's STREAM or EN field resets the entry. -/
  | elimEntryWrite (m : Master) (t n v : Nat)
  /-- R159: At a packet boundary a port starts the head packet of the first eligible class queue. -/
  | packetStart (p : Nat)
  /-- R161: The time since the tick reaches the next entry's OFFSET and that entry comes into force. -/
  | gclEntryChange (p : Nat)
  /-- R162: A write to GCL_SWAP_HI arms a gate list swap, or refuses it and sets SWAP_BAD. -/
  | gclSwapArm (m : Master) (p : Nat) (v : Word)
  /-- R167: Every REFILL ns a shaper loads staged values and adds QUANT to its tokens up to BURST. -/
  | shaperRefill (p q : Nat)
  /-- R170: The time since the tick reaches a window's OPEN and held stream packets are forwarded. -/
  | streamHoldRelease (c w : Nat)
  /-- R174: The command runs the admission checks of Table 6-6 and programs the stream; `r` is the record of its body. -/
  | streamAdd (mb : Nat) (r : StreamRec)
  /-- R173: The command disables the stream's window, binding or elimination entry. -/
  | streamDel (mb stream role path : Nat)
  /-- R173: The command returns a stream's record and OVER count. -/
  | streamQuery (mb stream role path : Nat)
  /-- R175: The command writes a port's shadow bank and checks it. -/
  | gclLoad (mb p : Nat) (ents : List (Nat × Nat × Bool))
  /-- R175: The command checks and arms a gate list swap on a set of ports. -/
  | gclSwap (mb : Nat) (ports : List Nat) (frame : Nat)
  /-- R167: The command stages shaper values of one queue. -/
  | shaperSet (mb p q cfg quant burst : Nat)
  /-- R168: The command writes the bulk weights of one port. -/
  | fqSet (mb p w0 w1 : Nat)
  /-- R180: The command configures queue sampling and trace rings. -/
  | telSet (mb p cfg offset : Nat) (rings : List (Nat × Nat × Nat))
  /-- R180: At a sampling instant a PT samples every queue of a port and sends a record to the TL NI. -/
  | telemetrySample (p : Nat)
  /-- R181: The TL NI appends a received record to its trace ring, wrapping or discarding when full. -/
  | traceRecord
  /-- R187: A bank scrubs its next row and corrects single-bit errors. -/
  | scrub (b : Nat)
  /-- R189: A bank's checkers detect a fault and the bank is RETIRED. -/
  | bankFault (b : Nat)
  /-- R199: A write of the commit dword of a HOST-mode object reaches CX and marks it for publication. -/
  | snapshotCommit (n : Nat)
  /-- R225: At a weir instant CX decides the publication of each PROGRAM-mode object and writes its header. -/
  | publicationDecision (n : Nat)
  /-- R205: A KT NI accepts a job descriptor into a queue slot, or discards it. -/
  | cascadeJob (e : Nat)
  /-- R204: The dispatcher starts the next job from queue 0 or by deficit round-robin. -/
  | jobStart (e : Nat)
  /-- R208: A job ends and the engine writes its completion record and raises its vector when asked. -/
  | jobComplete (e : Nat)
  /-- R209: The datapath checker or an LS uncorrectable word faults the engine, which enters FAULTED. -/
  | engineFault (e code : Nat)
  /-- R219: At tick plus START an enabled frame program enters queue 0. -/
  | fpStart (e p : Nat)
  /-- R220: A program's closing LOCAL barrier completes and the engine reports status and signature to CX. -/
  | fpComplete (e : Nat)
  /-- R221: At the weir instant a job of the program not yet complete is aborted with OVERRUN. -/
  | fpWeirAbort (e p : Nat)
  /-- R217: An NI receiving a plume packet creates one copy per child of its group entry. -/
  | plumePacket (t : Nat)
  /-- R204: The command configures queue q of engine e. -/
  | ktQueueSet (mb e q cfg basin : Nat)
  /-- R223: The command checks and writes a frame program into a free slot. -/
  | fpLoad (mb e p pl ctl start weir est : Nat) (descs : List (List Word))
  /-- R224: The command arms enabling and disabling of program slots at frame S. -/
  | fpSwap (mb : Nat) (on_ off_ : List Nat) (frame : Nat)
  /-- R196: The command configures a snapshot object. -/
  | snapSet (mb n base ctl : Nat)
  /-- R209: The command returns an engine to IDLE and clears its local store. -/
  | ktReset (mb e : Nat)
  /-- R218: The command checks a plume tree and loads it into every NI of the tree. -/
  | plumeSet (mb g : Nat) (body : List (Nat × Nat × Nat × List Nat))
  /-- R190: The command writes a cistern partition after overlap, range and mirror checks. -/
  | partSet (mb n base units ctl : Nat)
  /-- R194: The command seals a partition until cold reset. -/
  | partSeal (mb n : Nat)
  /-- R192: The command copies the surviving copy onto the lost one and clears DEGRADED. -/
  | partResync (mb n : Nat)
  /-- R229: The command returns an engine's status, errors, queue levels and program outcomes. -/
  | ktQuery (mb e : Nat)
  /-- R242: A Wellhead write to CX_WHBAR issues a barrier of the named scope. -/
  | whBarrierWrite (scope : Nat)
  /-- R240: Every earlier request of the agent has completed and every posted packet has a receipt, and later accesses are released. -/
  | localBarrierComplete (t : Nat)
  /-- R244: A CX or requester NI receives a BARRIER and queues a die flush or performs a flush order. -/
  | barrier (t : Nat)
  /-- R244: The CX die flush engine takes the next queued barrier and sends flush orders to every requester NI. -/
  | dieFlushStart
  /-- R243: A BARRIER_ACK reaches its sender and advances or completes the barrier. -/
  | barrierAck (t : Nat)
  /-- R246: A remote CX does not answer within CX_BAR_CFG.TMO and counts as PATH_LOST. -/
  | barrierTimeout (n : Nat)
  /-- R253: Posted data in NIs drains or the 10 µs limit passes and the rest is discarded. -/
  | warmDrainEnd
  /-- R267: A Runnel receiver classes a flit, given as the parts of Table 9-2, and accepts, discards or NAKs it. -/
  | flitReceive (p : Nat) (header payload crc par0 par1 par2 : List Nat)
  /-- R268: A received ACK word frees every kept flit up to ACKSEQ. -/
  | ack (p a : Nat)
  /-- R268: A received NAK frees flits up to ACKSEQ and replays the rest. -/
  | nak (p a : Nat)
  /-- R268: The oldest kept flit goes T_ACK without an ACK and the sender replays every kept flit. -/
  | ackTimerExpiry (p : Nat)
  /-- R267: NAK_PENDING stays set for T_ACK without progress and the receiver sends the NAK again. -/
  | nakResendExpiry (p : Nat)
  /-- R271: A received CREDIT word updates the sender's available credit for a VN. -/
  | credit (p vn cum : Nat)
  /-- R272: A packet leaves ingress storage, frees its credit units and a CREDIT word follows within 64 ns. -/
  | ingressRelease (p vn : Nat)
  /-- R287: A received map change request is accepted or refused, with crosses resolved by node ID. -/
  | mapReq (p rid kind lane m node : Nat)
  /-- R287: A received response lets the initiator proceed with or abandon its planned change. -/
  | mapRsp (p rid : Nat) (accept : Bool)
  /-- R287: The partner reports the added lanes locked and deskewed. -/
  | lanesReady (p rid : Nat)
  /-- R287: Added lanes are not ready within 1 ms and the change is abandoned. -/
  | lanesReadyTimeout (p : Nat)
  /-- R287: At a packet boundary, or at once for a fault, the sender places a map marker and switches maps. -/
  | mapMarkerSend (p : Nat)
  /-- R286: A receiver reads a map marker and follows the new map from the next byte. -/
  | mapMarkerReceive (p : Nat) (bytes : List Nat)
  /-- R287: Lanes leaving the map go to electrical idle 1 µs after the marker. -/
  | laneIdleAfterMarker (p : Nat)
  /-- R289: A received LANE_FAIL makes the partner remove the lane from its own direction. -/
  | laneFail (p l : Nat)
  /-- R289: A lane loses symbol lock or exceeds its corrected-symbol limit, is marked failed and removed by a fault marker. -/
  | laneLockLoss (p l : Nat)
  /-- R277: No good flit arrives for T_LOCK_EFF after a lock loss and the link-down criterion is met. -/
  | lockCriterionExpiry (p : Nat)
  /-- R285: A received STOP word takes the link to electrical idle. -/
  | stop (p : Nat)
  /-- R285: A received RETRAIN_REQ takes the link to RETRAIN. -/
  | retrainReq (p : Nat)
  /-- R285: Setting LNK_CTL.EN takes a configured Runnel port from DISABLED to DETECT. -/
  | linkEnSet (m : Master) (p : Nat)
  /-- R285: Clearing LNK_CTL.EN, or reconfiguring the port, flushes it without grace and disables it. -/
  | linkEnClear (m : Master) (p : Nat)
  /-- R285: A write of 1 to LNK_CTL.RETRAIN starts a retrain. -/
  | lnkRetrainWrite (m : Master) (p : Nat)
  /-- R285: The PHY reports signal on an allowed width and the port starts TRAIN_TMO and enters LOCK. -/
  | signalDetect (p lanes : Nat)
  /-- R285: Symbol, FEC and deskew lock on an allowed width and the port sends CONFIG training blocks. -/
  | symbolLock (p lanes : Nat)
  /-- R285: TRAIN_TMO expires in LOCK or CONFIG and the port returns to DETECT. -/
  | trainTmoExpiry (p : Nat)
  /-- R278: A received training block, given as the parts of Table 9-8, on lane `l` advances the exchange, which completes as a
  resume or fresh start. -/
  | trainingBlock (p l magic ctl node port nonce pnonce nextRx offers lanes tstamp echoed age : Nat) (rsv : List Nat) (crc : Nat)
  /-- R285: RETRAIN_TMO expires and the link goes down with grace starting. -/
  | retrainTmoExpiry (p : Nat)
  /-- R282: A held port's grace timer expires and the port flushes and becomes UNROUTABLE. -/
  | graceExpiry (p : Nat)
  /-- R285: The idle order is released or training blocks arrive and the link retrains. -/
  | eidleRelease (p : Nat)
  /-- R290: LNK_RECAL.PERIOD passes and the next lane is recalibrated. -/
  | recalPeriodExpiry (p : Nat)
  /-- R451: The PHY reports a passing pattern check and the lane returns by a planned change. -/
  | recalAck (p l : Nat)
  /-- R290: The lane has not passed within TMO_MS and is marked failed with cause 3. -/
  | recalTimeout (p : Nat)
  /-- R276: The command checks and writes a port's link configuration. -/
  | linkSet (mb p ctl : Nat) (crit : List Nat) (mem : Option (List Nat)) (rttEst : Nat) (en : Bool)
  /-- R293: The command sets LNK_CTL.RETRAIN. -/
  | linkRetrain (mb p : Nat)
  /-- R287: The command requests a planned width change and answers at its outcome. -/
  | linkWidth (mb p w : Nat)
  /-- R290: The command recalibrates one lane. -/
  | linkRecal (mb p l : Nat)
  /-- R289: The command clears a lane's failed mark. -/
  | linkLaneReturn (mb p l : Nat)
  /-- R293: The command returns the link's state, partner, nonces, RTT and counters. -/
  | linkQuery (mb p : Nat)
  /-- R303: A host port receives a TLP and steers it by Table 10-2. -/
  | hostTlp (p : Nat) (x : Tlp) (data : List Word)
  /-- R304: A downstream port finds the partition of a received TLP and steers it. -/
  | downstreamTlp (p : Nat) (x : Tlp) (data : List Word)
  /-- R305: A device tag's completion does not arrive within PCTO and the request is answered TARGET_ABORT. -/
  | pctoExpiry (p tag : Nat)
  /-- R301: A configuration request is answered from the virtual switch shadow or forwarded. -/
  | configRequest (p : Nat) (x : Tlp) (data : List Word)
  /-- R307: A block BARRIER VDM runs a barrier and holds later TLPs until BARRIER_DONE is sent. -/
  | vdmBarrier (p rid sub scope token : Nat)
  /-- R311: A surprise down or uncorrectable error contains a downstream port. -/
  | dpcTrigger (p cause : Nat)
  /-- R312: A downstream port answers a PTM Request with fabric time. -/
  | ptmRequest (p : Nat)
  /-- R319: A Secondary Bus Reset resets the port or the partition's functions. -/
  | secondaryBusReset (h dev : Nat)
  /-- R319: An FLR retires the function's outstanding requests. -/
  | functionLevelReset (p rid : Nat)
  /-- R314: CFG.EN set enables a slot sequencer, and cleared disables it. -/
  | slotCfgEn (m : Master) (n : Nat) (en : Bool)
  /-- R314: The filtered PRSNT input changes and moves the sequencer. -/
  | slotPrsntChange (n : Nat) (lvl : Bool)
  /-- R314: In OFF, POWER or AUTO_ON with PRSNT and the off timer elapsed asserts EN. -/
  | slotPowerOn (n : Nat)
  /-- R314: PGOOD asserts in RAMP, or falls in a powered state and faults the slot. -/
  | slotPgood (n : Nat) (lvl : Bool)
  /-- R314: PG_TMO expires in RAMP and the slot faults with cause 2. -/
  | slotPgTimeout (n : Nat)
  /-- R314: 100 ms after PGOOD the sequencer releases PERST and enables the link. -/
  | slotPerstTimer (n : Nat)
  /-- R314: The link reaches DL_Active and the slot is UP. -/
  | slotDlActive (n width rate : Nat) (flit ten : Bool) (en : Nat)
  /-- R314: LINK_TMO expires and a LINK_FAIL event is raised. -/
  | slotLinkTimeout (n : Nat)
  /-- R314: DL_Active is lost or PRSNT deasserts in UP and the slot enters SETTLE. -/
  | slotSurpriseDown (n : Nat) (gone : Bool)
  /-- R314: FLT held for FT_MS cuts power and faults the slot with cause 1. -/
  | slotFlt (n lvl : Nat)
  /-- R314: The settle timer expires and the slot goes OFF or EMPTY. -/
  | slotSettleExpiry (n : Nat)
  /-- R314: A card returns inside SETTLE and the off timer restarts. -/
  | slotReinsert (n : Nat)
  /-- R314: COOL_S after a fault with retries left, the slot powers again. -/
  | slotRetry (n : Nat)
  /-- R314: A write of CLR_FAULT clears a latched slot fault. -/
  | slotClrFault (m : Master) (n : Nat)
  /-- R314: POWER cleared in UP disables the link and powers the slot off. -/
  | slotPowerOff (m : Master) (n : Nat)
  /-- R315: An attention press raises ATTN to every bound partition and may clear the sequencer's request. -/
  | attentionButton (n : Nat)
  /-- R317: Every POLL_MS the block reads the slot controller's voltages, current and power. -/
  | pmbusPoll (n : Nat) (vin vout iout pin vmode : Option Nat)
  /-- R299: The command writes a port's kind, width and PCI Express configuration. -/
  | portSet (mb p cfg pcfg tcmap : Nat)
  /-- R302: The command writes a host partition and builds its virtual switch shadow. -/
  | hpartSet (mb n ctl hostA hostB : Nat) (vs : List (Nat × Nat))
  /-- R300: The command writes function map entries of a SHARED port. -/
  | fnBind (mb p : Nat) (ents : List (Nat × Nat))
  /-- R321: The command writes a slot's configuration, timers and PMBus settings. -/
  | slotSet (mb n cfg timers timers2 pmb : Nat)
  /-- R315: The command sets or clears a slot's power request, or writes CLR_FAULT. -/
  | slotPower (mb n act : Nat)
  /-- R311: The command releases a port's containment and it retrains. -/
  | portDpcRelease (mb p : Nat)
  /-- R321: The command returns link, tag and slot status and counters. -/
  | portQuery (mb p : Nat)
  /-- R324: A 64 B write to a PUSH binding of a doorbell page becomes a CASCADE_JOB. -/
  | doorbellPushWrite (p h rid : Nat) (pasid : Option Nat) (ptc a : Nat) (desc : List Word)
  /-- R324: A 4 B write to a RING binding becomes a ring doorbell MSG to the engine. -/
  | doorbellRingWrite (p h rid : Nat) (pasid : Option Nat) (ptc a : Nat) (tail : Word)
  /-- R325: The engine records TAIL and fetches descriptors from the host ring. -/
  | ringDoorbellMsg (e : Nat)
  /-- R328: Within 1 µs of a consumed-counter increase the engine writes the counters to CONS_ADDR. -/
  | consWriteback (b : Nat)
  /-- R329: Clearing a vector's MASK sends its pending write. -/
  | vectorUnmask (m : Master) (b v : Nat)
  /-- R334: A CT NI receives a dirty-mark MSG and sets the bit indivisibly. -/
  | dirtyMark (b : Nat)
  /-- R331: The command checks and creates a basin. -/
  | basinCreate (mb b h pasid qbase qsize cons : Nat) (binds vecs : List (Nat × Nat))
  /-- R332: The command closes the doorbell, advances GEN, drops jobs and flushes. -/
  | basinReset (mb b : Nat)
  /-- R332: Every flushing read completes, CONS is zeroed and the basin is ACTIVE. -/
  | basinResetDone (b : Nat)
  /-- R333: The command resets the basin and releases its resources. -/
  | basinDestroy (mb b : Nat)
  /-- R323: The command adds lookup entries. -/
  | basinMapAdd (mb b : Nat) (ents : List (Nat × Nat × Nat × Bool))
  /-- R336: The command removes lookup entries. -/
  | basinMapDel (mb b : Nat) (ents : List (Nat × Nat × Nat × Bool))
  /-- R334: The command sets the dirty log and its enable. -/
  | basinLogSet (mb b base size buf0 buf1 : Nat) (en : Bool)
  /-- R335: The command clears and toggles log buffers, flushes and returns the harvested buffer. -/
  | basinHarvest (mb b : Nat)
  /-- R336: The command returns a basin's block, lookup entries and pool levels. -/
  | basinQuery (mb b : Nat)
  /-- R344: A write of 1 to GDn_SWAP.GO makes the inactive rule set active. -/
  | guardSwapGo (m : Master) (n : Nat)
  /-- R346: A write of 1 to an SC_LOCK bit locks its group until cold reset. -/
  | lockBitWrite (m : Master) (g : Nat)
  /-- R194: A write of 1 to CT_PARTn_CTL.SEAL seals the partition until cold reset. -/
  | sealBitWrite (m : Master) (n : Nat)
  /-- R352: The command writes the whole inactive set of a guard. -/
  | guardLoad (mb n ctl : Nat) (rgns : List (Nat × Nat × Nat))
  /-- R352: The command swaps a mask of guards, optionally waiting for DONE. -/
  | guardSwap (mb mask limit : Nat)
  /-- R352: The command returns a guard's status, fence, first record and counters. -/
  | guardQuery (mb n : Nat)
  /-- R347: The command sets the named SC_LOCK bits. -/
  | lockSet (mb bits_ : Nat)
  /-- R352: The command returns lifecycle, locks and debug denial records. -/
  | scQuery (mb : Nat)
  /-- R349: At DBG_UPDATE with GO the debug master issues one access settled in the order of R349. -/
  | debugAccess (off : Nat) (w : Option Word)
  /-- R349: A debug access not complete 2 µs after grant completes with TIMEOUT. -/
  | debugAccessTimeout
  /-- R360: Votes stay at 0 for HYST_US and the domain begins entry or is refused. -/
  | hysteresisExpiry (d : Nat)
  /-- R360: RETRY_MS after a refusal the controller tries entry again. -/
  | entryRetry (d : Nat)
  /-- R360: Every ingress NI has closed the domain and it moves to DRAINING. -/
  | domainClosed (d : Nat)
  /-- R360: INFLIGHT is 0 and the domain's NIs are empty, and isolation clamps set. -/
  | domainDrained (d : Nat)
  /-- R360: DRAIN_TMO_US passes and the entry aborts. -/
  | drainTimeout (d : Nat)
  /-- R360: The 6-cycle retention save completes and the domain is RETAINED. -/
  | retentionSaveDone (d : Nat)
  /-- R360: 1 µs after the save, with TARGET OFF, the retention supply is removed. -/
  | retentionToOff (d : Nat)
  /-- R360: A vote or a latched edge wake starts the wake of a sleeping domain. -/
  | domainWake (d : Nat)
  /-- R360: A packet, vote or edge wake during entry reopens ingress and records an abort. -/
  | entryAbort (d : Nat)
  /-- R360: Restore or initialisation completes and the domain is ON with held packets released. -/
  | wakeComplete (d : Nat)
  /-- R362: A write of PW_DOMd_WAKE.PULSE is latched, aborts entry, or is lost during the save. -/
  | edgeWake (m : Master) (d : Nat)
  /-- R365: A stalled access does not see its domain ON within 25 µs and completes TARGET_ASLEEP. -/
  | wakeOnAccessTimeout (i : Nat)
  /-- R359: ACCESS_HOLD_US after an access completes, its ACCESS vote is released. -/
  | accessHoldExpiry (d : Nat)
  /-- R359: The command sets or clears the issuer's vote on a bitmap of domains. -/
  | powerVote (mb mask : Nat) (set : Bool)
  /-- R360: The command writes TARGET, NO_WAKE and WAKE_ON_ACCESS of domains. -/
  | powerDomainSet (mb mask cfg : Nat)
  /-- R370: The command requests a performance level, refusing slower levels that break admissions. -/
  | powerLevel (mb pl : Nat)
  /-- R369: The controller changes level by switching clocks and VID in the order of R369. -/
  | levelChange
  /-- R371: The host acknowledges a VID code and the level change proceeds. -/
  | vidAck
  /-- R371: No VID acknowledgement arrives within TMO_US and VID_FAULT sets. -/
  | vidTimeout
  /-- R366: The command puts the block into full retention, or refuses with BUSY. -/
  | powerFullRet (mb : Nat)
  /-- R367: The wake input ends full retention, running on the FIO until the PLLs lock. -/
  | wakeIn
  /-- R356: A PLL reports lock and its clocks switch back from the FIO. -/
  | pllLock (i arefs : Nat)
  /-- R356: A PLL in use loses lock and its clocks switch to the FIO. -/
  | pllLockLoss (i : Nat)
  /-- R406: TCLK loses lock, both timebase tiles stop and the time ledger runs. -/
  | tclkLockLoss
  /-- R372: SAG1 asserts and the sag limit PL2 applies. -/
  | sag1
  /-- R372: SAG2 asserts, bulk gates close and banks without DEP are retained. -/
  | sag2
  /-- R372: SAG3 asserts and ports without admitted streams enter electrical idle. -/
  | sag3
  /-- R373: SAG3 held for T_SAG3_US or VDD_FAB low asserts safe-state and stops every clock in place. -/
  | forcedRetention (low : Bool)
  /-- R374: A sag stage releases after RECOVER_MS without its inputs and STEP_US after the previous one. -/
  | sagRelease (arefs : Nat)
  /-- R375: The monitor reads the sensors and acts on the hottest valid reading. -/
  | thermalSample (vals : List (Option Int))
  /-- R375: Each 1 ms above T_HOT the limit slows a level, and each 10 ms below T_HOT − 5 °C it speeds one. -/
  | thermalLimitStep
  /-- R375: A sensor gives no valid reading for 1 ms and is ignored with SENSOR_ERR. -/
  | sensorTimeout (n : Nat)
  /-- R376: The command returns the refusal ledger and its counters. -/
  | powerLedger (mb : Nat)
  /-- R378: The command returns power status, clocks, VID, thermal readings and domains. -/
  | powerQuery (mb : Nat)
  /-- R375: The command writes the thermal thresholds. -/
  | thermalSet (mb w : Nat)
  /-- R374: The command clears the safe-state output once its cause has passed. -/
  | safeClear (mb : Nat)
  /-- R407: A domain's supply good falls while ON and the domain is clamped with PFAIL. -/
  | supplyLoss (d : Nat)
  /-- R450: PSW_GOOD has not risen 10 µs after PSW_ON and the domain sets PFAIL. -/
  | supplyGoodTimeout (d : Nat)
  /-- R384: A write to CX_HOLDm arms a burst hold for the master's next accesses. -/
  | burstHoldArm (m : Master) (n : Nat)
  /-- R384: 2 µs after its first grant a burst hold ends. -/
  | burstHoldExpire (i : Nat)
  /-- R386: A Control Port B write frame performs up to 16 dword writes. -/
  | pbWriteFrame (body : List Nat)
  /-- R386: A read setup frame names the dwords for the next read. -/
  | pbReadSetup (body : List Nat)
  /-- R386: A status setup frame selects the last write's status for the next read. -/
  | pbStatusSetup (body : List Nat)
  /-- R386: A read frame returns the set-up dwords or status. -/
  | pbReadFrame (n : Nat)
  /-- R387: A read of SEMn by a control master acquires the semaphore or returns its owner. -/
  | semAcquire (m : Master) (n : Nat)
  /-- R387: A write of the owner's ID frees the semaphore. -/
  | semRelease (m : Master) (n v : Nat)
  /-- R387: The lease passes without a read by the owner and the semaphore is freed. -/
  | semLeaseExpiry (n : Nat)
  /-- R392: A write of RING moves an IDLE mailbox to PENDING. -/
  | mailboxDoorbell (m : Master) (mb : Nat)
  /-- R393: The Wellhead takes a pending command, checks it in the order of R390 and runs it. -/
  | commandTake
  /-- R392: A write of STAT.ACK returns a DONE mailbox to IDLE. -/
  | mailboxAck (m : Master) (mb : Nat)
  /-- R395: The command returns the identity registers and journal format. -/
  | identify (mb : Nat)
  /-- R395: The command returns the instance figures. -/
  | caps (mb : Nat)
  /-- R395: The command returns its body, the dwords `body`. -/
  | echo (mb : Nat) (body : List Nat)
  /-- R395: The command reads the firmware log ring. -/
  | fwLog (mb : Nat)
  /-- R398: The boot ROM checks and loads an image, and the firmware replays the journal. -/
  | whBoot
  /-- R398: A write of READY makes the Wellhead UP and sets WH_UP. -/
  | whReady
  /-- R399: A write of HB restarts the watchdog. -/
  | whHeartbeat
  /-- R399: The watchdog expires and CX restarts the Wellhead. -/
  | watchdogExpiry
  /-- R399: The Wellhead's lockstep checker fires and CX restarts it. -/
  | whLockstepFault
  /-- R399: A write of RESTART restarts the Wellhead. -/
  | whRestart (m : Master)
  /-- R400: The command opens an update into the inactive slot. -/
  | updateBegin (mb : Nat)
  /-- R400: The command writes image bytes at an offset of the target slot. -/
  | updateWrite (mb offset : Nat) (data : List Nat)
  /-- R397: The command checks the target image by Table 14-8. -/
  | updateVerify (mb : Nat)
  /-- R400: The command arms the handover at frame S. -/
  | updateActivate (mb frame : Nat)
  /-- R400: The command disarms the update. -/
  | updateCancel (mb : Nat)
  /-- R400: The command returns the update state. -/
  | updateStatus (mb : Nat)
  /-- R400: Every open command is answered and the journal is flushed and the target slot boots. -/
  | handoverBoot
  /-- R400: Commands still open 10 ms after S cancel the handover. -/
  | handoverCancelTimeout
  /-- R400: The target fails its checks or no READY comes 50 ms after S and the old slot boots. -/
  | handoverFallback
  /-- R408: The command returns the error summary and unread fault records. -/
  | errRead (mb : Nat)
  /-- R409: The command clears GLB_ERR_SUM bits and optionally the ring. -/
  | errClear (mb mask : Nat)
  /-- R410: The command writes the event routing and saturation enables. -/
  | eventMap (mb : Nat) (maps : List (Nat × Nat)) (sat : Nat)
  /-- R445: The command snapshot-reads up to 128 named counters. -/
  | counters (mb : Nat) (offs : List Nat)
  /-- R424: The command injects a fault which the block handles as real, in OPEN only. -/
  | errInject (mb cls u kind place : Nat)
  /-- R408: A write of GLB_FLT_RD advances the oldest unread record and recomputes UNREAD. -/
  | fltRdWrite (m : Master) (v : Nat)
  /-- R419: A write of CTb_RETURN.GO takes a retired bank through OFF to ON and self-test. -/
  | bankReturn (m : Master) (b : Nat)
  /-- R419: The bank's self-test ends and the bank returns to service or stays RETIRED. -/
  | bankSelftestDone (b : Nat) (pass : Bool)
  /-- R458: Release of COLD_RST_N runs the cold reset sequence. -/
  | coldReset (fuses : List (Option Nat)) (vidAck : Bool) (unlocked : Nat)
  /-- R461: A filtered falling edge of WARM_RST_N runs the warm reset sequence. -/
  | warmReset
  /-- R454: The boot loader writes a 64-bit word of the image store. -/
  | imageLoadWrite (slot addr lo hi : Nat)
  /-- R454: IMG_DONE sets the boot slot and starts the Wellhead boot. -/
  | imageLoadDone (slot : Nat)
  /-- R78: A unit receives a MGMT packet and acts on its management code. -/
  | mgmtPacket (t : Nat)
  /-- R460: A fall of COLD_RST_N at any moment starts cold reset at once and raises SAFE_OUT. -/
  | coldResetAssert
  /-- R302: A host port's link goes down, so partition traffic moves to HOST_B and semaphores of a partition with no host link left are freed. -/
  | hostLinkDown (p : Nat)
  /-- R302: A host port's link reaches DL_Active, so partition traffic returns to HOST_A. -/
  | hostLinkUp (p width rate : Nat) (flit ten : Bool) (en : Nat)
  /-- R210: Tick plus a list entry's TIME is reached and the held SCATTER record is sent. -/
  | scatterRecordTime (e : Nat)
  /-- R333: The zeroing of quota and log buffers and the removal of lookup entries end and the basin becomes FREE. -/
  | basinReleaseComplete (b : Nat)
  /-- R352: The body's limit of a GUARD_SWAP with WAIT passes before every guard shows DONE, and the command answers TIMEOUT. -/
  | guardSwapLimitExpiry (mb : Nat)
  /-- R383: A control master's access to an aperture window is remapped and performed as a single-dword READ or WRITE_NP through CX's NI. -/
  | cisternApertureAccess (m : Master) (off : Nat) (w : Option Word)
  /-- R365: A control master reads a register in a gated domain, answering TARGET_ASLEEP or casting the ACCESS vote and stalling. -/
  | registerRead (m : Master) (off : Nat)
  /-- R372: A PCI Express port's partner has not entered L1 within 10 µs of SAG3, and the port stays in L0 and counts in PW_SHED_MISS. -/
  | shedMissTimeout (p : Nat)
  /-- R285: T_ACK passes after STOP is sent without the awaited ACKs, and the lanes go to electrical idle. -/
  | eidleAckWaitExpiry (p : Nat)
  /-- R149: Every NI replica holds the route table writes and RTE_STAT.SYNC_BUSY clears, allowing ROUTE_COMMIT. -/
  | routeReplicaSync
  /-- R297: The PCI Express partner advertises flow-control credit and egress head packets regain link credit. -/
  | pcieCreditUpdate (p cls hdr data : Nat)
  deriving DecidableEq, Repr

end Sys2Proof
end

