-- ==== Sys2Proof/Config.lean ====
section
/-! DEFINITION. What the manual leaves open: free values that nothing in Lean can evaluate.

The machine applies `Config.free` to the counter `State.fv`, which every use advances, and reduces the result
to the width of the value that is open (assumption log 1). -/

namespace Sys2Proof

/-- The free values, one for each number of the counter `State.fv` (assumption log 1). -/
opaque Config.free : Nat → Nat

/-- Does MIN or MAX of two zeros of different sign keep the first operand? R212 compares values, and the two
zeros are equal (assumption log 10). -/
opaque Config.zeroFirst : Bool → Bool → Bool

/-- SHA-384 of bytes, as bytes: the manual names the standard and does not define it (assumption log 24). -/
opaque Config.sha384 : List Nat → List Nat

/-- ECDSA over P-384 with SHA-384: does a signature (r, s) of a message verify under a public key (x, y)? The manual
names the standard and does not define it (assumption log 24). -/
opaque Config.ecdsaOk : List Nat → List Nat → List Nat → Bool

end Sys2Proof
end

