-- ==== Sys2Proof/Machine/RegMap.lean ====
section
/-! DEFINITION. The register map of OFC-256: the block-window offset of every register and field, the access
masks and reset value of every register, and the decode of an offset (17_register_map.md R434 to R447 and
the field maps that Table 17-1 names). -/

namespace Sys2Proof.Machine

/-- What a register row is: plain, a 48-bit counter pair (R445), one half of the two split counters, or a
semaphore (R387). -/
inductive RegKind where
  | plain | pair | cntLo | cntHi | sem
  deriving DecidableEq, Repr

/-- A row of a register table: offset in its block, stride and count of the array, kind, reset word and the
bits with each write effect of Table 0-2. -/
structure RegRow where
  off    : Nat
  stride : Nat
  count  : Nat
  kind   : RegKind
  rst    : Nat
  rw     : Nat
  w1c    : Nat
  w1s    : Nat
  wo     : Nat
  deriving DecidableEq, Repr

/-! ### block `glb` (17_register_map Table 17-2) -/
def R_GLB_ID : Nat := 0x0
def GLB_ID_INSTANCE : Fld := ⟨R_GLB_ID, 0, 8⟩
def GLB_ID_FAMILY : Fld := ⟨R_GLB_ID, 8, 24⟩
def R_GLB_STEP : Nat := 0x4
def GLB_STEP_NUMBER : Fld := ⟨R_GLB_STEP, 0, 8⟩
def GLB_STEP_LETTER : Fld := ⟨R_GLB_STEP, 8, 8⟩
def R_GLB_NODE : Nat := 0x8
def GLB_NODE_ID : Fld := ⟨R_GLB_NODE, 0, 12⟩
def R_GLB_PLANE_CTL : Nat := 0x10
def GLB_PLANE_CTL_A_REQ : Fld := ⟨R_GLB_PLANE_CTL, 0, 1⟩
def GLB_PLANE_CTL_B_REQ : Fld := ⟨R_GLB_PLANE_CTL, 1, 1⟩
def R_GLB_PLANE_STAT : Nat := 0x14
def GLB_PLANE_STAT_A_STATE : Fld := ⟨R_GLB_PLANE_STAT, 0, 3⟩
def GLB_PLANE_STAT_B_STATE : Fld := ⟨R_GLB_PLANE_STAT, 3, 3⟩
def GLB_PLANE_STAT_A_FAULT : Fld := ⟨R_GLB_PLANE_STAT, 8, 1⟩
def GLB_PLANE_STAT_B_FAULT : Fld := ⟨R_GLB_PLANE_STAT, 9, 1⟩
def GLB_PLANE_STAT_A_CAUSE : Fld := ⟨R_GLB_PLANE_STAT, 12, 4⟩
def GLB_PLANE_STAT_B_CAUSE : Fld := ⟨R_GLB_PLANE_STAT, 16, 4⟩
def C_GLB_CFG_BUSY : Nat := 0x20
def C_GLB_SM_IGNORED : Nat := 0x28
def R_GLB_VENDOR : Nat := 0x40
def GLB_VENDOR_VID : Fld := ⟨R_GLB_VENDOR, 0, 16⟩
def R_GLB_WH_CTL : Nat := 0x100
def GLB_WH_CTL_HB : Fld := ⟨R_GLB_WH_CTL, 0, 1⟩
def GLB_WH_CTL_READY : Fld := ⟨R_GLB_WH_CTL, 1, 1⟩
def GLB_WH_CTL_RESTART : Fld := ⟨R_GLB_WH_CTL, 2, 1⟩
def GLB_WH_CTL_BOOT_SLOT : Fld := ⟨R_GLB_WH_CTL, 3, 1⟩
def R_GLB_BOOT : Nat := 0x104
def GLB_BOOT_ACTIVE : Fld := ⟨R_GLB_BOOT, 0, 1⟩
def R_GLB_WH_WDT : Nat := 0x108
def GLB_WH_WDT_MS : Fld := ⟨R_GLB_WH_WDT, 0, 10⟩
def R_GLB_WH_STAT : Nat := 0x10c
def GLB_WH_STAT_STATE : Fld := ⟨R_GLB_WH_STAT, 0, 3⟩
def GLB_WH_STAT_FALLBACK : Fld := ⟨R_GLB_WH_STAT, 3, 1⟩
def GLB_WH_STAT_UNSIGNED : Fld := ⟨R_GLB_WH_STAT, 4, 1⟩
def GLB_WH_STAT_UPD : Fld := ⟨R_GLB_WH_STAT, 5, 3⟩
def GLB_WH_STAT_BOOT_ERR : Fld := ⟨R_GLB_WH_STAT, 8, 4⟩
def GLB_WH_STAT_CANCELLED : Fld := ⟨R_GLB_WH_STAT, 12, 1⟩
def R_GLB_FW_VER_A : Nat := 0x110
def GLB_FW_VER_A_VERSION : Fld := ⟨R_GLB_FW_VER_A, 0, 32⟩
def R_GLB_FW_VER_B : Nat := 0x114
def GLB_FW_VER_B_VERSION : Fld := ⟨R_GLB_FW_VER_B, 0, 32⟩
def C_GLB_WH_RESTARTS : Nat := 0x118
def C_GLB_RST_DISCARD : Nat := 0x180
def R_GLB_RST_STAT : Nat := 0x188
def GLB_RST_STAT_DRAIN_NS : Fld := ⟨R_GLB_RST_STAT, 0, 14⟩
def GLB_RST_STAT_TRUNC : Fld := ⟨R_GLB_RST_STAT, 14, 1⟩
def R_GLB_ERR_SUM : Nat := 0x400
def GLB_ERR_SUM_CLASS : Fld := ⟨R_GLB_ERR_SUM, 1, 14⟩
def R_GLB_CTO_FLOOR : Nat := 0x410
def GLB_CTO_FLOOR_US : Fld := ⟨R_GLB_CTO_FLOOR, 0, 23⟩
def R_GLB_FAULT_GEN : Nat := 0x414
def GLB_FAULT_GEN_GEN : Fld := ⟨R_GLB_FAULT_GEN, 0, 8⟩
def R_GLB_EVT_PEND : Nat := 0x418
def GLB_EVT_PEND_LEVEL : Fld := ⟨R_GLB_EVT_PEND, 0, 16⟩
def R_GLB_EVT_LATCH : Nat := 0x41c
def GLB_EVT_LATCH_STREAM : Fld := ⟨R_GLB_EVT_LATCH, 0, 1⟩
def GLB_EVT_LATCH_QUEUE : Fld := ⟨R_GLB_EVT_LATCH, 1, 1⟩
def GLB_EVT_LATCH_WH_RESTART : Fld := ⟨R_GLB_EVT_LATCH, 2, 1⟩
def R_GLB_EVMAP (i : Nat) : Nat := 0x440 + i * 4
def GLB_EVMAP_VEC (i : Nat) : Fld := ⟨R_GLB_EVMAP i, 0, 6⟩
def GLB_EVMAP_HPART (i : Nat) : Fld := ⟨R_GLB_EVMAP i, 6, 5⟩
def GLB_EVMAP_LINE0 (i : Nat) : Fld := ⟨R_GLB_EVMAP i, 11, 1⟩
def GLB_EVMAP_LINE1 (i : Nat) : Fld := ⟨R_GLB_EVMAP i, 12, 1⟩
def R_GLB_SAT_EVT : Nat := 0x480
def GLB_SAT_EVT_GROUP : Fld := ⟨R_GLB_SAT_EVT, 0, 14⟩
def R_GLB_SAT_EN : Nat := 0x484
def GLB_SAT_EN_GROUP : Fld := ⟨R_GLB_SAT_EN, 0, 14⟩
def R_GLB_FLT_WR : Nat := 0x490
def GLB_FLT_WR_NEXT : Fld := ⟨R_GLB_FLT_WR, 0, 6⟩
def GLB_FLT_WR_UNREAD : Fld := ⟨R_GLB_FLT_WR, 8, 7⟩
def R_GLB_FLT_RD : Nat := 0x494
def GLB_FLT_RD_OLDEST : Fld := ⟨R_GLB_FLT_RD, 0, 6⟩
def C_GLB_FLT_OVF : Nat := 0x498
def R_GLB_FLT0 (i : Nat) : Nat := 0x800 + i * 16
def GLB_FLT0_CLASS (i : Nat) : Fld := ⟨R_GLB_FLT0 i, 0, 8⟩
def GLB_FLT0_UNIT (i : Nat) : Fld := ⟨R_GLB_FLT0 i, 8, 8⟩
def GLB_FLT0_COUNT (i : Nat) : Fld := ⟨R_GLB_FLT0 i, 16, 8⟩
def GLB_FLT0_PARTNER_LOST (i : Nat) : Fld := ⟨R_GLB_FLT0 i, 24, 1⟩
def GLB_FLT0_INJECTED (i : Nat) : Fld := ⟨R_GLB_FLT0 i, 25, 1⟩
def GLB_FLT0_SECOND (i : Nat) : Fld := ⟨R_GLB_FLT0 i, 26, 1⟩
def R_GLB_FLT1 (i : Nat) : Nat := 0x804 + i * 16
def GLB_FLT1_NS (i : Nat) : Fld := ⟨R_GLB_FLT1 i, 0, 30⟩
def R_GLB_FLT2 (i : Nat) : Nat := 0x808 + i * 16
def GLB_FLT2_SEC (i : Nat) : Fld := ⟨R_GLB_FLT2 i, 0, 32⟩
def R_GLB_FLT3 (i : Nat) : Nat := 0x80c + i * 16
def GLB_FLT3_DETAIL (i : Nat) : Fld := ⟨R_GLB_FLT3 i, 0, 32⟩
def C_GLB_SLOT_EVT_IGNORED : Nat := 0x3000

/-! ### block `hpart` (10_pcie Table 10-10) -/
def R_GLB_HPART_CTL (n : Nat) : Nat := 0x1000 + n * 0x10
def GLB_HPART_CTL_EN (n : Nat) : Fld := ⟨R_GLB_HPART_CTL n, 0, 1⟩
def GLB_HPART_CTL_PRIV (n : Nat) : Fld := ⟨R_GLB_HPART_CTL n, 1, 1⟩
def R_GLB_HPART_HOST_A (n : Nat) : Nat := 0x1000 + n * 0x10 + 0x4
def GLB_HPART_HOST_A_EID (n : Nat) : Fld := ⟨R_GLB_HPART_HOST_A n, 0, 24⟩
def R_GLB_HPART_HOST_B (n : Nat) : Nat := 0x1000 + n * 0x10 + 0x8
def GLB_HPART_HOST_B_EID (n : Nat) : Fld := ⟨R_GLB_HPART_HOST_B n, 0, 24⟩
def GLB_HPART_HOST_B_B_EN (n : Nat) : Fld := ⟨R_GLB_HPART_HOST_B n, 24, 1⟩
def R_GLB_HPART_STAT (n : Nat) : Nat := 0x1000 + n * 0x10 + 0xc
def GLB_HPART_STAT_ON_B (n : Nat) : Fld := ⟨R_GLB_HPART_STAT n, 0, 1⟩

/-! ### block `slot` (10_pcie Table 10-11) -/
def R_SLOT_CFG (s : Nat) : Nat := 0x2000 + s * 0x40
def SLOT_CFG_PORT (s : Nat) : Fld := ⟨R_SLOT_CFG s, 0, 7⟩
def SLOT_CFG_EN (s : Nat) : Fld := ⟨R_SLOT_CFG s, 7, 1⟩
def SLOT_CFG_AUTO_ON (s : Nat) : Fld := ⟨R_SLOT_CFG s, 8, 1⟩
def SLOT_CFG_ATTN_OFF (s : Nat) : Fld := ⟨R_SLOT_CFG s, 9, 1⟩
def R_SLOT_TIMERS (s : Nat) : Nat := 0x2000 + s * 0x40 + 0x4
def SLOT_TIMERS_FT_MS (s : Nat) : Fld := ⟨R_SLOT_TIMERS s, 0, 6⟩
def SLOT_TIMERS_RETRY (s : Nat) : Fld := ⟨R_SLOT_TIMERS s, 6, 3⟩
def SLOT_TIMERS_COOL_S (s : Nat) : Fld := ⟨R_SLOT_TIMERS s, 16, 8⟩
def SLOT_TIMERS_OFF_10MS (s : Nat) : Fld := ⟨R_SLOT_TIMERS s, 24, 8⟩
def R_SLOT_TIMERS2 (s : Nat) : Nat := 0x2000 + s * 0x40 + 0x8
def SLOT_TIMERS2_SETTLE_MS (s : Nat) : Fld := ⟨R_SLOT_TIMERS2 s, 0, 12⟩
def SLOT_TIMERS2_PG_TMO_MS (s : Nat) : Fld := ⟨R_SLOT_TIMERS2 s, 16, 8⟩
def SLOT_TIMERS2_LINK_TMO (s : Nat) : Fld := ⟨R_SLOT_TIMERS2 s, 24, 8⟩
def R_SLOT_CTL (s : Nat) : Nat := 0x2000 + s * 0x40 + 0xc
def SLOT_CTL_POWER (s : Nat) : Fld := ⟨R_SLOT_CTL s, 0, 1⟩
def SLOT_CTL_CLR_FAULT (s : Nat) : Fld := ⟨R_SLOT_CTL s, 1, 1⟩
def R_SLOT_STAT (s : Nat) : Nat := 0x2000 + s * 0x40 + 0x10
def SLOT_STAT_STATE (s : Nat) : Fld := ⟨R_SLOT_STAT s, 0, 4⟩
def SLOT_STAT_PRSNT (s : Nat) : Fld := ⟨R_SLOT_STAT s, 4, 1⟩
def SLOT_STAT_PGOOD (s : Nat) : Fld := ⟨R_SLOT_STAT s, 5, 1⟩
def SLOT_STAT_FLT (s : Nat) : Fld := ⟨R_SLOT_STAT s, 6, 1⟩
def SLOT_STAT_EN_OUT (s : Nat) : Fld := ⟨R_SLOT_STAT s, 7, 1⟩
def SLOT_STAT_PERST_OUT (s : Nat) : Fld := ⟨R_SLOT_STAT s, 8, 1⟩
def SLOT_STAT_SLOT_FAULT (s : Nat) : Fld := ⟨R_SLOT_STAT s, 9, 1⟩
def SLOT_STAT_CAUSE (s : Nat) : Fld := ⟨R_SLOT_STAT s, 10, 2⟩
def SLOT_STAT_RETRIES_LEFT (s : Nat) : Fld := ⟨R_SLOT_STAT s, 13, 3⟩
def SLOT_STAT_INCARNATION (s : Nat) : Fld := ⟨R_SLOT_STAT s, 16, 8⟩
def R_SLOT_EVT (s : Nat) : Nat := 0x2000 + s * 0x40 + 0x14
def SLOT_EVT_ATTN (s : Nat) : Fld := ⟨R_SLOT_EVT s, 0, 1⟩
def SLOT_EVT_PRSNT_CHG (s : Nat) : Fld := ⟨R_SLOT_EVT s, 1, 1⟩
def SLOT_EVT_FAULT (s : Nat) : Fld := ⟨R_SLOT_EVT s, 2, 1⟩
def SLOT_EVT_LINK_UP (s : Nat) : Fld := ⟨R_SLOT_EVT s, 3, 1⟩
def SLOT_EVT_LINK_FAIL (s : Nat) : Fld := ⟨R_SLOT_EVT s, 4, 1⟩
def SLOT_EVT_SURPRISE (s : Nat) : Fld := ⟨R_SLOT_EVT s, 5, 1⟩
def SLOT_EVT_REINSERT (s : Nat) : Fld := ⟨R_SLOT_EVT s, 6, 1⟩
def SLOT_EVT_RETRY (s : Nat) : Fld := ⟨R_SLOT_EVT s, 7, 1⟩
def SLOT_EVT_PMB_ERR (s : Nat) : Fld := ⟨R_SLOT_EVT s, 8, 1⟩
def R_SLOT_INT_EN (s : Nat) : Nat := 0x2000 + s * 0x40 + 0x18
def SLOT_INT_EN_EN (s : Nat) : Fld := ⟨R_SLOT_INT_EN s, 0, 9⟩
def R_SLOT_PMB (s : Nat) : Nat := 0x2000 + s * 0x40 + 0x1c
def SLOT_PMB_ADDR (s : Nat) : Fld := ⟨R_SLOT_PMB s, 0, 7⟩
def SLOT_PMB_EN (s : Nat) : Fld := ⟨R_SLOT_PMB s, 7, 1⟩
def SLOT_PMB_POLL_MS (s : Nat) : Fld := ⟨R_SLOT_PMB s, 8, 8⟩
def R_SLOT_V (s : Nat) : Nat := 0x2000 + s * 0x40 + 0x20
def SLOT_V_VIN_MV (s : Nat) : Fld := ⟨R_SLOT_V s, 0, 16⟩
def SLOT_V_VOUT_MV (s : Nat) : Fld := ⟨R_SLOT_V s, 16, 16⟩
def R_SLOT_I (s : Nat) : Nat := 0x2000 + s * 0x40 + 0x24
def SLOT_I_IOUT_MA (s : Nat) : Fld := ⟨R_SLOT_I s, 0, 16⟩
def R_SLOT_P (s : Nat) : Nat := 0x2000 + s * 0x40 + 0x28
def SLOT_P_PIN_MW (s : Nat) : Fld := ⟨R_SLOT_P s, 0, 20⟩
def C_SLOT_ENERGY (s : Nat) : Nat := 0x2000 + s * 0x40 + 0x30
def C_SLOT_PMB_ERR (s : Nat) : Nat := 0x2000 + s * 0x40 + 0x38

/-! ### block `ni` (17_register_map Table 17-7 (base by tile)) -/
def R_NI_RETAIN (j : Nat) : Nat := j
def NI_RETAIN_A_FLITS (j : Nat) : Fld := ⟨R_NI_RETAIN j, 0, 10⟩
def NI_RETAIN_B_FLITS (j : Nat) : Fld := ⟨R_NI_RETAIN j, 16, 10⟩
def C_NI_PLANE_RESEND (j : Nat) : Nat := j + 0x8
def C_NI_HDR_ERR (j : Nat) : Nat := j + 0x10
def R_NI_HDR_FIRST (j i : Nat) : Nat := j + 0x18 + i * 4
def NI_HDR_FIRST_DW (j i : Nat) : Fld := ⟨R_NI_HDR_FIRST j i, 0, 32⟩
def C_NI_NOWIN (j : Nat) : Nat := j + 0x28
def C_NI_LATE_DISCARD (j : Nat) : Nat := j + 0x30
def C_NI_HOPS_DROP (j : Nat) : Nat := j + 0x38

/-! ### block `tm` (17_register_map Table 17-3) -/
def R_TM_NOW_NS : Nat := 0x10000
def TM_NOW_NS_NS : Fld := ⟨R_TM_NOW_NS, 0, 30⟩
def R_TM_NOW_SEC_LO : Nat := 0x10000 + 0x4
def TM_NOW_SEC_LO_SEC : Fld := ⟨R_TM_NOW_SEC_LO, 0, 32⟩
def R_TM_NOW_SEC_HI : Nat := 0x10000 + 0x8
def TM_NOW_SEC_HI_SEC : Fld := ⟨R_TM_NOW_SEC_HI, 0, 16⟩
def TM_NOW_SEC_HI_FRAC : Fld := ⟨R_TM_NOW_SEC_HI, 16, 16⟩
def R_TM_STATUS : Nat := 0x10000 + 0x10
def TM_STATUS_VALID : Fld := ⟨R_TM_STATUS, 0, 1⟩
def TM_STATUS_LOCKED : Fld := ⟨R_TM_STATUS, 1, 1⟩
def TM_STATUS_HOLDOVER : Fld := ⟨R_TM_STATUS, 2, 1⟩
def TM_STATUS_GM_SELF : Fld := ⟨R_TM_STATUS, 3, 1⟩
def TM_STATUS_TB_ACTIVE : Fld := ⟨R_TM_STATUS, 4, 1⟩
def TM_STATUS_OUT_OF_BOUND : Fld := ⟨R_TM_STATUS, 5, 1⟩
def TM_STATUS_SOURCE : Fld := ⟨R_TM_STATUS, 6, 2⟩
def TM_STATUS_TB_FAULT : Fld := ⟨R_TM_STATUS, 8, 1⟩
def TM_STATUS_STEP : Fld := ⟨R_TM_STATUS, 9, 1⟩
def TM_STATUS_STEP_BACK : Fld := ⟨R_TM_STATUS, 10, 1⟩
def TM_STATUS_SWITCH_BAD : Fld := ⟨R_TM_STATUS, 11, 1⟩
def TM_STATUS_TICK : Fld := ⟨R_TM_STATUS, 12, 1⟩
def R_TM_INT_EN : Nat := 0x10000 + 0x14
def TM_INT_EN_OUT_OF_BOUND : Fld := ⟨R_TM_INT_EN, 5, 1⟩
def TM_INT_EN_TB_FAULT : Fld := ⟨R_TM_INT_EN, 8, 1⟩
def TM_INT_EN_STEP : Fld := ⟨R_TM_INT_EN, 9, 1⟩
def TM_INT_EN_STEP_BACK : Fld := ⟨R_TM_INT_EN, 10, 1⟩
def TM_INT_EN_SWITCH_BAD : Fld := ⟨R_TM_INT_EN, 11, 1⟩
def TM_INT_EN_TICK : Fld := ⟨R_TM_INT_EN, 12, 1⟩
def R_TM_RATE : Nat := 0x10000 + 0x18
def TM_RATE_ADJ : Fld := ⟨R_TM_RATE, 0, 32⟩
def R_TM_HOLD_ERR : Nat := 0x10000 + 0x1c
def TM_HOLD_ERR_ERR : Fld := ⟨R_TM_HOLD_ERR, 0, 32⟩
def R_TM_HOLD_UNC : Nat := 0x10000 + 0x20
def TM_HOLD_UNC_PPB : Fld := ⟨R_TM_HOLD_UNC, 0, 14⟩
def R_TM_HOLD_LIMIT : Nat := 0x10000 + 0x24
def TM_HOLD_LIMIT_LIMIT : Fld := ⟨R_TM_HOLD_LIMIT, 0, 24⟩
def R_TM_SLEEP_UNC : Nat := 0x10000 + 0x28
def TM_SLEEP_UNC_PPB : Fld := ⟨R_TM_SLEEP_UNC, 0, 14⟩
def R_TM_AREF_TRIM : Nat := 0x10000 + 0x2c
def TM_AREF_TRIM_PPB : Fld := ⟨R_TM_AREF_TRIM, 0, 32⟩
def R_TM_SYNC_INTERVAL : Nat := 0x10000 + 0x30
def TM_SYNC_INTERVAL_US : Fld := ⟨R_TM_SYNC_INTERVAL, 0, 17⟩
def R_TM_STEP_THRESH : Nat := 0x10000 + 0x34
def TM_STEP_THRESH_NS : Fld := ⟨R_TM_STEP_THRESH, 0, 20⟩
def R_TM_GM_CFG : Nat := 0x10000 + 0x38
def TM_GM_CFG_PRIORITY1 : Fld := ⟨R_TM_GM_CFG, 0, 8⟩
def TM_GM_CFG_PRIORITY2 : Fld := ⟨R_TM_GM_CFG, 8, 8⟩
def TM_GM_CFG_TIER : Fld := ⟨R_TM_GM_CFG, 16, 2⟩
def R_TM_PPSO_OFFSET : Nat := 0x10000 + 0x40
def TM_PPSO_OFFSET_PS : Fld := ⟨R_TM_PPSO_OFFSET, 0, 32⟩
def R_TM_PPSO_WIDTH : Nat := 0x10000 + 0x44
def TM_PPSO_WIDTH_US : Fld := ⟨R_TM_PPSO_WIDTH, 0, 19⟩
def R_TM_FRAME_CTL : Nat := 0x10000 + 0x50
def TM_FRAME_CTL_EN : Fld := ⟨R_TM_FRAME_CTL, 0, 1⟩
def TM_FRAME_CTL_FREE : Fld := ⟨R_TM_FRAME_CTL, 1, 1⟩
def TM_FRAME_CTL_SWITCH_ARMED : Fld := ⟨R_TM_FRAME_CTL, 2, 1⟩
def TM_FRAME_CTL_TICK_OUT : Fld := ⟨R_TM_FRAME_CTL, 3, 1⟩
def R_TM_FRAME_PERIOD : Nat := 0x10000 + 0x54
def TM_FRAME_PERIOD_NS : Fld := ⟨R_TM_FRAME_PERIOD, 0, 22⟩
def R_TM_FRAME_PHASE : Nat := 0x10000 + 0x58
def TM_FRAME_PHASE_NS : Fld := ⟨R_TM_FRAME_PHASE, 0, 22⟩
def R_TM_FRAME_NEXT_PERIOD : Nat := 0x10000 + 0x5c
def TM_FRAME_NEXT_PERIOD_NS : Fld := ⟨R_TM_FRAME_NEXT_PERIOD, 0, 22⟩
def R_TM_FRAME_NEXT_PHASE : Nat := 0x10000 + 0x60
def TM_FRAME_NEXT_PHASE_NS : Fld := ⟨R_TM_FRAME_NEXT_PHASE, 0, 22⟩
def R_TM_FRAME_SWITCH_LO : Nat := 0x10000 + 0x64
def TM_FRAME_SWITCH_LO_FRAME : Fld := ⟨R_TM_FRAME_SWITCH_LO, 0, 32⟩
def R_TM_FRAME_SWITCH_HI : Nat := 0x10000 + 0x68
def TM_FRAME_SWITCH_HI_FRAME : Fld := ⟨R_TM_FRAME_SWITCH_HI, 0, 32⟩
def R_TM_FRAME_NUM_LO : Nat := 0x10000 + 0x70
def TM_FRAME_NUM_LO_FRAME : Fld := ⟨R_TM_FRAME_NUM_LO, 0, 32⟩
def R_TM_FRAME_NUM_HI : Nat := 0x10000 + 0x74
def TM_FRAME_NUM_HI_FRAME : Fld := ⟨R_TM_FRAME_NUM_HI, 0, 32⟩
def C_TM_MISSED_TICKS : Nat := 0x10000 + 0x80
def C_TM_TB_DIVERGE : Nat := 0x10000 + 0x88

/-! ### block `pw` (13_power Table 13-12) -/
def R_PW_CTL : Nat := 0x20000
def PW_CTL_PL_REQ : Fld := ⟨R_PW_CTL, 0, 2⟩
def PW_CTL_HYST_US : Fld := ⟨R_PW_CTL, 8, 8⟩
def PW_CTL_RETRY_MS : Fld := ⟨R_PW_CTL, 16, 8⟩
def PW_CTL_DBG_KEEP_MS : Fld := ⟨R_PW_CTL, 24, 8⟩
def R_PW_STAT : Nat := 0x20000 + 0x4
def PW_STAT_PL_CUR : Fld := ⟨R_PW_STAT, 0, 2⟩
def PW_STAT_PL_LIMIT : Fld := ⟨R_PW_STAT, 2, 2⟩
def PW_STAT_CHANGING : Fld := ⟨R_PW_STAT, 4, 1⟩
def PW_STAT_ON_FIO : Fld := ⟨R_PW_STAT, 5, 1⟩
def PW_STAT_SAG : Fld := ⟨R_PW_STAT, 6, 2⟩
def PW_STAT_FORCED_SEEN : Fld := ⟨R_PW_STAT, 8, 1⟩
def PW_STAT_BELOW_ADMIT : Fld := ⟨R_PW_STAT, 9, 1⟩
def PW_STAT_VID_FAULT : Fld := ⟨R_PW_STAT, 10, 1⟩
def PW_STAT_THERM_LIMIT : Fld := ⟨R_PW_STAT, 11, 1⟩
def R_PW_VID : Nat := 0x20000 + 0x8
def PW_VID_CODE : Fld := ⟨R_PW_VID, 0, 8⟩
def PW_VID_OFS : Fld := ⟨R_PW_VID, 8, 4⟩
def PW_VID_ACK : Fld := ⟨R_PW_VID, 12, 1⟩
def PW_VID_TMO_US : Fld := ⟨R_PW_VID, 16, 10⟩
def R_PW_CLK_STAT : Nat := 0x20000 + 0xc
def PW_CLK_STAT_SEL : Fld := ⟨R_PW_CLK_STAT, 0, 4⟩
def PW_CLK_STAT_STBY_LOCK : Fld := ⟨R_PW_CLK_STAT, 4, 4⟩
def PW_CLK_STAT_ON_FIO : Fld := ⟨R_PW_CLK_STAT, 8, 6⟩
def R_PW_SAG_CFG : Nat := 0x20000 + 0x10
def PW_SAG_CFG_RECOVER_MS : Fld := ⟨R_PW_SAG_CFG, 0, 8⟩
def PW_SAG_CFG_STEP_US : Fld := ⟨R_PW_SAG_CFG, 8, 10⟩
def PW_SAG_CFG_T_SAG3_US : Fld := ⟨R_PW_SAG_CFG, 18, 14⟩
def R_PW_THERM_CFG : Nat := 0x20000 + 0x14
def PW_THERM_CFG_WARN : Fld := ⟨R_PW_THERM_CFG, 0, 8⟩
def PW_THERM_CFG_HOT : Fld := ⟨R_PW_THERM_CFG, 8, 8⟩
def PW_THERM_CFG_CRIT : Fld := ⟨R_PW_THERM_CFG, 16, 8⟩
def PW_THERM_CFG_RET_MAX : Fld := ⟨R_PW_THERM_CFG, 24, 8⟩
def R_PW_THERM_STAT : Nat := 0x20000 + 0x18
def PW_THERM_STAT_MAX : Fld := ⟨R_PW_THERM_STAT, 0, 12⟩
def PW_THERM_STAT_SENSOR : Fld := ⟨R_PW_THERM_STAT, 12, 4⟩
def PW_THERM_STAT_WARN : Fld := ⟨R_PW_THERM_STAT, 16, 1⟩
def PW_THERM_STAT_HOT : Fld := ⟨R_PW_THERM_STAT, 17, 1⟩
def PW_THERM_STAT_CRIT : Fld := ⟨R_PW_THERM_STAT, 18, 1⟩
def PW_THERM_STAT_SENSOR_ERR : Fld := ⟨R_PW_THERM_STAT, 19, 1⟩
def R_PW_SAFE : Nat := 0x20000 + 0x1c
def PW_SAFE_ASSERTED : Fld := ⟨R_PW_SAFE, 0, 1⟩
def PW_SAFE_CLR : Fld := ⟨R_PW_SAFE, 1, 1⟩
def PW_SAFE_CAUSE : Fld := ⟨R_PW_SAFE, 2, 3⟩
def R_PW_EVT : Nat := 0x20000 + 0x20
def PW_EVT_PL_DONE : Fld := ⟨R_PW_EVT, 0, 1⟩
def PW_EVT_VID_FAULT : Fld := ⟨R_PW_EVT, 1, 1⟩
def PW_EVT_SAG1 : Fld := ⟨R_PW_EVT, 2, 1⟩
def PW_EVT_SAG2 : Fld := ⟨R_PW_EVT, 3, 1⟩
def PW_EVT_SAG3 : Fld := ⟨R_PW_EVT, 4, 1⟩
def PW_EVT_FORCED : Fld := ⟨R_PW_EVT, 5, 1⟩
def PW_EVT_EXIT : Fld := ⟨R_PW_EVT, 6, 1⟩
def PW_EVT_THERM_WARN : Fld := ⟨R_PW_EVT, 7, 1⟩
def PW_EVT_THERM_HOT : Fld := ⟨R_PW_EVT, 8, 1⟩
def PW_EVT_THERM_CRIT : Fld := ⟨R_PW_EVT, 9, 1⟩
def PW_EVT_LEDGER : Fld := ⟨R_PW_EVT, 10, 1⟩
def PW_EVT_WOA_TMO : Fld := ⟨R_PW_EVT, 11, 1⟩
def R_PW_INT_EN : Nat := 0x20000 + 0x24
def PW_INT_EN_EN : Fld := ⟨R_PW_INT_EN, 0, 12⟩
def R_PW_WH_HOLD_LO : Nat := 0x20000 + 0x28
def PW_WH_HOLD_LO_DOMAINS : Fld := ⟨R_PW_WH_HOLD_LO, 0, 32⟩
def R_PW_WH_HOLD_HI : Nat := 0x20000 + 0x2c
def PW_WH_HOLD_HI_DOMAINS : Fld := ⟨R_PW_WH_HOLD_HI, 0, 32⟩
def R_PW_CTL2 : Nat := 0x20000 + 0x34
def PW_CTL2_ACCESS_HOLD_US : Fld := ⟨R_PW_CTL2, 0, 10⟩
def PW_CTL2_DRAIN_TMO_US : Fld := ⟨R_PW_CTL2, 16, 10⟩
def R_PW_TS (i : Nat) : Nat := 0x20000 + 0x40 + i * 4
def PW_TS_TEMP (i : Nat) : Fld := ⟨R_PW_TS i, 0, 12⟩
def PW_TS_VALID (i : Nat) : Fld := ⟨R_PW_TS i, 31, 1⟩
def R_PW_LEDGER_WR : Nat := 0x20000 + 0x100
def PW_LEDGER_WR_NEXT : Fld := ⟨R_PW_LEDGER_WR, 0, 6⟩
def C_PW_LEDGER_CNT (i : Nat) : Nat := 0x20000 + 0x108 + i * 8
def C_PW_SHED_MISS : Nat := 0x20000 + 0x140
def C_PW_EVT_IGNORED : Nat := 0x20000 + 0x148
def R_PW_LEDGER0 (i : Nat) : Nat := 0x20000 + 0x200 + i * 8
def PW_LEDGER0_DOMAIN (i : Nat) : Fld := ⟨R_PW_LEDGER0 i, 0, 6⟩
def PW_LEDGER0_REFUSER (i : Nat) : Fld := ⟨R_PW_LEDGER0 i, 6, 4⟩
def PW_LEDGER0_ABORT (i : Nat) : Fld := ⟨R_PW_LEDGER0 i, 10, 1⟩
def PW_LEDGER0_STATE (i : Nat) : Fld := ⟨R_PW_LEDGER0 i, 11, 3⟩
def PW_LEDGER0_TARGET (i : Nat) : Fld := ⟨R_PW_LEDGER0 i, 14, 2⟩
def PW_LEDGER0_NS (i : Nat) : Fld := ⟨R_PW_LEDGER0 i, 16, 16⟩
def R_PW_LEDGER1 (i : Nat) : Nat := 0x20000 + 0x204 + i * 8
def PW_LEDGER1_SEC (i : Nat) : Fld := ⟨R_PW_LEDGER1 i, 0, 16⟩

/-! ### block `pwdom` (13_power Table 13-13) -/
def R_PW_DOM_CFG (d : Nat) : Nat := 0x21000 + d * 0x40
def PW_DOM_CFG_TARGET (d : Nat) : Fld := ⟨R_PW_DOM_CFG d, 0, 2⟩
def PW_DOM_CFG_NO_WAKE (d : Nat) : Fld := ⟨R_PW_DOM_CFG d, 2, 1⟩
def PW_DOM_CFG_WAKE_ON_ACCESS (d : Nat) : Fld := ⟨R_PW_DOM_CFG d, 3, 1⟩
def R_PW_DOM_VOTE (d : Nat) : Nat := 0x21000 + d * 0x40 + 0x4
def PW_DOM_VOTE_SW_A (d : Nat) : Fld := ⟨R_PW_DOM_VOTE d, 0, 1⟩
def PW_DOM_VOTE_SW_B (d : Nat) : Fld := ⟨R_PW_DOM_VOTE d, 1, 1⟩
def PW_DOM_VOTE_WH (d : Nat) : Fld := ⟨R_PW_DOM_VOTE d, 2, 1⟩
def PW_DOM_VOTE_TRAFFIC (d : Nat) : Fld := ⟨R_PW_DOM_VOTE d, 8, 1⟩
def PW_DOM_VOTE_ACCESS (d : Nat) : Fld := ⟨R_PW_DOM_VOTE d, 9, 1⟩
def PW_DOM_VOTE_DEP (d : Nat) : Fld := ⟨R_PW_DOM_VOTE d, 10, 1⟩
def PW_DOM_VOTE_PLANE (d : Nat) : Fld := ⟨R_PW_DOM_VOTE d, 11, 1⟩
def PW_DOM_VOTE_EDGE (d : Nat) : Fld := ⟨R_PW_DOM_VOTE d, 12, 1⟩
def PW_DOM_VOTE_CNT (d : Nat) : Fld := ⟨R_PW_DOM_VOTE d, 16, 3⟩
def R_PW_DOM_STAT (d : Nat) : Nat := 0x21000 + d * 0x40 + 0x8
def PW_DOM_STAT_STATE (d : Nat) : Fld := ⟨R_PW_DOM_STAT d, 0, 3⟩
def PW_DOM_STAT_PFAIL (d : Nat) : Fld := ⟨R_PW_DOM_STAT d, 3, 1⟩
def PW_DOM_STAT_INFLIGHT (d : Nat) : Fld := ⟨R_PW_DOM_STAT d, 16, 16⟩
def R_PW_DOM_WAKE (d : Nat) : Nat := 0x21000 + d * 0x40 + 0xc
def PW_DOM_WAKE_PULSE (d : Nat) : Fld := ⟨R_PW_DOM_WAKE d, 0, 1⟩
def C_PW_DOM_ASLEEP (d : Nat) : Nat := 0x21000 + d * 0x40 + 0x10
def C_PW_DOM_WOA_TMO (d : Nat) : Nat := 0x21000 + d * 0x40 + 0x18
def C_PW_DOM_ENTRIES (d : Nat) : Nat := 0x21000 + d * 0x40 + 0x20
def C_PW_DOM_ABORTS (d : Nat) : Nat := 0x21000 + d * 0x40 + 0x28

/-! ### block `cx` (14_control Table 14-14) -/
def R_CX_CFG : Nat := 0x30000
def CX_CFG_APT_TC : Fld := ⟨R_CX_CFG, 0, 3⟩
def R_CX_REMAP0 (i : Nat) : Nat := 0x30000 + 0x100 + i * 4
def CX_REMAP0_EN (i : Nat) : Fld := ⟨R_CX_REMAP0 i, 0, 1⟩
def CX_REMAP0_BASE (i : Nat) : Fld := ⟨R_CX_REMAP0 i, 21, 7⟩
def R_CX_REMAP1 (i : Nat) : Nat := 0x30000 + 0x110 + i * 4
def CX_REMAP1_EN (i : Nat) : Fld := ⟨R_CX_REMAP1 i, 0, 1⟩
def CX_REMAP1_BASE (i : Nat) : Fld := ⟨R_CX_REMAP1 i, 21, 7⟩
def R_CX_REMAP3 (i : Nat) : Nat := 0x30000 + 0x130 + i * 4
def CX_REMAP3_EN (i : Nat) : Fld := ⟨R_CX_REMAP3 i, 0, 1⟩
def CX_REMAP3_BASE (i : Nat) : Fld := ⟨R_CX_REMAP3 i, 21, 7⟩
def R_CX_HOLD (i : Nat) : Nat := 0x30000 + 0x200 + i * 4
def CX_HOLD_COUNT (i : Nat) : Fld := ⟨R_CX_HOLD i, 0, 5⟩
def R_CX_HOLD_VIEW (i : Nat) : Nat := 0x30000 + 0x210 + i * 4
def CX_HOLD_VIEW_HELD (i : Nat) : Fld := ⟨R_CX_HOLD_VIEW i, 8, 1⟩
def C_CX_CONN_DENY : Nat := 0x30000 + 0x300
def C_CX_HOLD_EXPIRE : Nat := 0x30000 + 0x308
def C_CX_PB_FRAME_ERR : Nat := 0x30000 + 0x310
def R_SEM (i : Nat) : Nat := 0x30000 + 0x2000 + i * 4
def SEM_OWNER (i : Nat) : Fld := ⟨R_SEM i, 0, 8⟩
def R_SEM_OWN (i : Nat) : Nat := 0x30000 + 0x2080 + i * 4
def SEM_OWN_OWNER (i : Nat) : Fld := ⟨R_SEM_OWN i, 0, 8⟩
def R_CX_SEM_LEASE : Nat := 0x30000 + 0x2100
def CX_SEM_LEASE_MS : Fld := ⟨R_CX_SEM_LEASE, 0, 16⟩
def C_CX_SEM_BAD : Nat := 0x30000 + 0x2108
def R_CX_BAR_CFG : Nat := 0x30000 + 0x3000
def CX_BAR_CFG_TMO : Fld := ⟨R_CX_BAR_CFG, 0, 22⟩
def R_CX_BAR_STAT : Nat := 0x30000 + 0x3004
def CX_BAR_STAT_FLUSH_BUSY : Fld := ⟨R_CX_BAR_STAT, 0, 1⟩
def CX_BAR_STAT_SYS_OUT : Fld := ⟨R_CX_BAR_STAT, 1, 1⟩
def CX_BAR_STAT_QDEPTH : Fld := ⟨R_CX_BAR_STAT, 2, 5⟩
def CX_BAR_STAT_FAILED : Fld := ⟨R_CX_BAR_STAT, 7, 1⟩
def CX_BAR_STAT_FAIL_NODE : Fld := ⟨R_CX_BAR_STAT, 8, 12⟩
def R_CX_WHBAR : Nat := 0x30000 + 0x3008
def CX_WHBAR_SCOPE : Fld := ⟨R_CX_WHBAR, 0, 2⟩
def CX_WHBAR_DONE : Fld := ⟨R_CX_WHBAR, 2, 1⟩
def CX_WHBAR_STATUS : Fld := ⟨R_CX_WHBAR, 3, 4⟩
def C_CX_BAR_DONE : Nat := 0x30000 + 0x3010
def C_CX_BAR_STRAY : Nat := 0x30000 + 0x3018
def R_CX_BAR_SET (i : Nat) : Nat := 0x30000 + 0x3100 + i * 4
def CX_BAR_SET_NODES (i : Nat) : Fld := ⟨R_CX_BAR_SET i, 0, 32⟩
def R_CX_WH_CTO : Nat := 0x30000 + 0x3400
def CX_WH_CTO_US : Fld := ⟨R_CX_WH_CTO, 0, 23⟩

/-! ### block `win` (03_packets Table 3-6 (base by unit)) -/
def R_WIN_BASE_LO (b : Nat) : Nat := b
def WIN_BASE_LO_BASE (b : Nat) : Fld := ⟨R_WIN_BASE_LO b, 12, 20⟩
def R_WIN_BASE_HI (b : Nat) : Nat := b + 0x4
def WIN_BASE_HI_BASE (b : Nat) : Fld := ⟨R_WIN_BASE_HI b, 0, 32⟩
def R_WIN_CTL (b : Nat) : Nat := b + 0x8
def WIN_CTL_EN (b : Nat) : Fld := ⟨R_WIN_CTL b, 0, 1⟩
def WIN_CTL_SIZE (b : Nat) : Fld := ⟨R_WIN_CTL b, 1, 6⟩
def WIN_CTL_TC (b : Nat) : Fld := ⟨R_WIN_CTL b, 8, 3⟩
def WIN_CTL_PORT_MASK (b : Nat) : Fld := ⟨R_WIN_CTL b, 16, 8⟩
def R_WIN_DEST (b : Nat) : Nat := b + 0xc
def WIN_DEST_DEST_EID (b : Nat) : Fld := ⟨R_WIN_DEST b, 0, 24⟩
def R_WIN_XLAT_LO (b : Nat) : Nat := b + 0x10
def WIN_XLAT_LO_XLAT (b : Nat) : Fld := ⟨R_WIN_XLAT_LO b, 12, 20⟩
def R_WIN_XLAT_HI (b : Nat) : Nat := b + 0x14
def WIN_XLAT_HI_XLAT (b : Nat) : Fld := ⟨R_WIN_XLAT_HI b, 0, 32⟩

/-! ### block `mb` (14_control Table 14-9) -/
def R_MB_CTL (m : Nat) : Nat := 0x40000 + m * 0x4000
def MB_CTL_INT_EN (m : Nat) : Fld := ⟨R_MB_CTL m, 0, 1⟩
def MB_CTL_UP_INT_EN (m : Nat) : Fld := ⟨R_MB_CTL m, 1, 1⟩
def MB_CTL_VEC (m : Nat) : Fld := ⟨R_MB_CTL m, 2, 6⟩
def MB_CTL_LINE (m : Nat) : Fld := ⟨R_MB_CTL m, 8, 1⟩
def MB_CTL_IBI (m : Nat) : Fld := ⟨R_MB_CTL m, 9, 1⟩
def R_MB_DB (m : Nat) : Nat := 0x40000 + m * 0x4000 + 0x4
def MB_DB_RING (m : Nat) : Fld := ⟨R_MB_DB m, 0, 1⟩
def R_MB_STAT (m : Nat) : Nat := 0x40000 + m * 0x4000 + 0x8
def MB_STAT_STATE (m : Nat) : Fld := ⟨R_MB_STAT m, 0, 3⟩
def MB_STAT_ACK (m : Nat) : Fld := ⟨R_MB_STAT m, 3, 1⟩
def MB_STAT_WH_UP (m : Nat) : Fld := ⟨R_MB_STAT m, 4, 1⟩
def MB_STAT_UP_EVT (m : Nat) : Fld := ⟨R_MB_STAT m, 5, 1⟩
def R_MB_SEQ (m : Nat) : Nat := 0x40000 + m * 0x4000 + 0xc
def MB_SEQ_LAST (m : Nat) : Fld := ⟨R_MB_SEQ m, 0, 32⟩
def R_MB_ISSUER (m : Nat) : Nat := 0x40000 + m * 0x4000 + 0x10
def MB_ISSUER_HPART (m : Nat) : Fld := ⟨R_MB_ISSUER m, 0, 5⟩
def C_MB_BUSY_DROP (m : Nat) : Nat := 0x40000 + m * 0x4000 + 0x18
def C_MB_CMDS (m : Nat) : Nat := 0x40000 + m * 0x4000 + 0x20
def R_MB_CMD (m i : Nat) : Nat := 0x40000 + m * 0x4000 + 0x1000 + i * 4
def MB_CMD_DW (m i : Nat) : Fld := ⟨R_MB_CMD m i, 0, 32⟩
def R_MB_RSP (m i : Nat) : Nat := 0x40000 + m * 0x4000 + 0x2000 + i * 4
def MB_RSP_DW (m i : Nat) : Fld := ⟨R_MB_RSP m i, 0, 32⟩

/-! ### block `gd` (12_guards Tables 12-6, 12-7) -/
def R_GD_RGN_BASE_LO (n i : Nat) : Nat := 0x50000 + n * 0x400 + i * 16
def GD_RGN_BASE_LO_BASE (n i : Nat) : Fld := ⟨R_GD_RGN_BASE_LO n i, 6, 26⟩
def R_GD_RGN_BASE_HI (n i : Nat) : Nat := 0x50000 + n * 0x400 + 0x4 + i * 16
def GD_RGN_BASE_HI_BASE (n i : Nat) : Fld := ⟨R_GD_RGN_BASE_HI n i, 0, 32⟩
def R_GD_RGN_CTL (n i : Nat) : Nat := 0x50000 + n * 0x400 + 0x8 + i * 16
def GD_RGN_CTL_EN (n i : Nat) : Fld := ⟨R_GD_RGN_CTL n i, 0, 1⟩
def GD_RGN_CTL_R (n i : Nat) : Fld := ⟨R_GD_RGN_CTL n i, 1, 1⟩
def GD_RGN_CTL_W (n i : Nat) : Fld := ⟨R_GD_RGN_CTL n i, 2, 1⟩
def GD_RGN_CTL_ATOMIC (n i : Nat) : Fld := ⟨R_GD_RGN_CTL n i, 3, 1⟩
def GD_RGN_CTL_PRIV_ONLY (n i : Nat) : Fld := ⟨R_GD_RGN_CTL n i, 4, 1⟩
def GD_RGN_CTL_SIZE (n i : Nat) : Fld := ⟨R_GD_RGN_CTL n i, 8, 6⟩
def R_GD_RGN_RSVD (n i : Nat) : Nat := 0x50000 + n * 0x400 + 0xc + i * 16
def R_GD_CTL (n : Nat) : Nat := 0x50000 + n * 0x400 + 0x200
def GD_CTL_INT_EN (n : Nat) : Fld := ⟨R_GD_CTL n, 4, 1⟩
def R_GD_SWAP (n : Nat) : Nat := 0x50000 + n * 0x400 + 0x204
def GD_SWAP_GO (n : Nat) : Fld := ⟨R_GD_SWAP n, 0, 1⟩
def R_GD_STAT (n : Nat) : Nat := 0x50000 + n * 0x400 + 0x208
def GD_STAT_ACTIVE (n : Nat) : Fld := ⟨R_GD_STAT n, 0, 1⟩
def GD_STAT_RGN_BAD (n : Nat) : Fld := ⟨R_GD_STAT n, 1, 1⟩
def R_GD_FENCE (n : Nat) : Nat := 0x50000 + n * 0x400 + 0x20c
def GD_FENCE_OLD (n : Nat) : Fld := ⟨R_GD_FENCE n, 0, 20⟩
def GD_FENCE_DONE (n : Nat) : Fld := ⟨R_GD_FENCE n, 31, 1⟩
def R_GD_FIRST0 (n : Nat) : Nat := 0x50000 + n * 0x400 + 0x210
def GD_FIRST0_ADDR (n : Nat) : Fld := ⟨R_GD_FIRST0 n, 0, 32⟩
def R_GD_FIRST1 (n : Nat) : Nat := 0x50000 + n * 0x400 + 0x214
def GD_FIRST1_ADDR (n : Nat) : Fld := ⟨R_GD_FIRST1 n, 0, 32⟩
def R_GD_FIRST2 (n : Nat) : Nat := 0x50000 + n * 0x400 + 0x218
def GD_FIRST2_KIND (n : Nat) : Fld := ⟨R_GD_FIRST2 n, 0, 8⟩
def GD_FIRST2_VKIND (n : Nat) : Fld := ⟨R_GD_FIRST2 n, 8, 4⟩
def GD_FIRST2_SET (n : Nat) : Fld := ⟨R_GD_FIRST2 n, 12, 1⟩
def GD_FIRST2_PRIV (n : Nat) : Fld := ⟨R_GD_FIRST2 n, 13, 1⟩
def GD_FIRST2_PORT (n : Nat) : Fld := ⟨R_GD_FIRST2 n, 14, 7⟩
def GD_FIRST2_BASIN (n : Nat) : Fld := ⟨R_GD_FIRST2 n, 21, 10⟩
def GD_FIRST2_VALID (n : Nat) : Fld := ⟨R_GD_FIRST2 n, 31, 1⟩
def R_GD_FIRST3 (n : Nat) : Nat := 0x50000 + n * 0x400 + 0x21c
def GD_FIRST3_RID (n : Nat) : Fld := ⟨R_GD_FIRST3 n, 0, 16⟩
def GD_FIRST3_SRC_NODE (n : Nat) : Fld := ⟨R_GD_FIRST3 n, 16, 12⟩
def R_GD_FIRST4 (n : Nat) : Nat := 0x50000 + n * 0x400 + 0x220
def GD_FIRST4_NS (n : Nat) : Fld := ⟨R_GD_FIRST4 n, 0, 30⟩
def C_GD_VIOL (n : Nat) : Nat := 0x50000 + n * 0x400 + 0x228
def C_GD_SPLIT (n : Nat) : Nat := 0x50000 + n * 0x400 + 0x230
def R_GD_SCTL (n i : Nat) : Nat := 0x50000 + n * 0x400 + 0x240 + i * 4
def GD_SCTL_DEF_R (n i : Nat) : Fld := ⟨R_GD_SCTL n i, 0, 1⟩
def GD_SCTL_DEF_W (n i : Nat) : Fld := ⟨R_GD_SCTL n i, 1, 1⟩
def GD_SCTL_DEF_ATOMIC (n i : Nat) : Fld := ⟨R_GD_SCTL n i, 2, 1⟩
def GD_SCTL_MSG_EN (n i : Nat) : Fld := ⟨R_GD_SCTL n i, 3, 1⟩

/-! ### block `tl` (06_gates Table 6-12) -/
def R_TL_CFG : Nat := 0x60000
def TL_CFG_TC : Fld := ⟨R_TL_CFG, 0, 3⟩
def R_TL_BASE_LO (i : Nat) : Nat := 0x60000 + 0x1000 + i * 32
def TL_BASE_LO_BASE (i : Nat) : Fld := ⟨R_TL_BASE_LO i, 12, 20⟩
def R_TL_BASE_HI (i : Nat) : Nat := 0x60000 + 0x1004 + i * 32
def TL_BASE_HI_BASE (i : Nat) : Fld := ⟨R_TL_BASE_HI i, 0, 32⟩
def R_TL_CTL (i : Nat) : Nat := 0x60000 + 0x1008 + i * 32
def TL_CTL_EN (i : Nat) : Fld := ⟨R_TL_CTL i, 0, 1⟩
def TL_CTL_MODE (i : Nat) : Fld := ⟨R_TL_CTL i, 1, 1⟩
def TL_CTL_SIZE (i : Nat) : Fld := ⟨R_TL_CTL i, 2, 5⟩
def R_TL_WR (i : Nat) : Nat := 0x60000 + 0x100c + i * 32
def TL_WR_OFFSET (i : Nat) : Fld := ⟨R_TL_WR i, 0, 24⟩
def R_TL_RD (i : Nat) : Nat := 0x60000 + 0x1010 + i * 32
def TL_RD_OFFSET (i : Nat) : Fld := ⟨R_TL_RD i, 0, 24⟩
def C_TL_DROP (i : Nat) : Nat := 0x60000 + 0x1018 + i * 32

/-! ### block `sc` (12_guards Table 12-8) -/
def R_SC_LIFECYCLE : Nat := 0x70000
def SC_LIFECYCLE_STATE : Fld := ⟨R_SC_LIFECYCLE, 0, 2⟩
def SC_LIFECYCLE_FUSE_ERR : Fld := ⟨R_SC_LIFECYCLE, 2, 1⟩
def R_SC_LOCK : Nat := 0x70000 + 0x4
def SC_LOCK_GROUPS : Fld := ⟨R_SC_LOCK, 0, 7⟩
def R_SC_DBG_CTL : Nat := 0x70000 + 0x8
def SC_DBG_CTL_DIS : Fld := ⟨R_SC_DBG_CTL, 0, 1⟩
def R_SC_DBG_DENY0 : Nat := 0x70000 + 0x10
def SC_DBG_DENY0_OFFSET : Fld := ⟨R_SC_DBG_DENY0, 0, 24⟩
def SC_DBG_DENY0_WRITE : Fld := ⟨R_SC_DBG_DENY0, 24, 1⟩
def SC_DBG_DENY0_REASON : Fld := ⟨R_SC_DBG_DENY0, 25, 3⟩
def SC_DBG_DENY0_LIFECYCLE : Fld := ⟨R_SC_DBG_DENY0, 28, 2⟩
def SC_DBG_DENY0_VALID : Fld := ⟨R_SC_DBG_DENY0, 31, 1⟩
def R_SC_DBG_DENY1 : Nat := 0x70000 + 0x14
def SC_DBG_DENY1_NS : Fld := ⟨R_SC_DBG_DENY1, 0, 30⟩
def C_SC_DBG_DENY_CNT : Nat := 0x70000 + 0x18

/-! ### block `pt` (17_register_map Table 17-4) -/
def R_PT_TM_TXLAT (c : Nat) : Nat := 0x100000 + c * 0x10000 + 0x100
def PT_TM_TXLAT_PS (c : Nat) : Fld := ⟨R_PT_TM_TXLAT c, 0, 16⟩
def R_PT_TM_RXLAT (c : Nat) : Nat := 0x100000 + c * 0x10000 + 0x104
def PT_TM_RXLAT_PS (c : Nat) : Fld := ⟨R_PT_TM_RXLAT c, 0, 16⟩
def R_PT_TM_ASYM (c i : Nat) : Nat := 0x100000 + c * 0x10000 + 0x110 + i * 4
def PT_TM_ASYM_PS (c i : Nat) : Fld := ⟨R_PT_TM_ASYM c i, 0, 32⟩
def R_PORT_CFG (c i : Nat) : Nat := 0x100000 + c * 0x10000 + 0x800 + i * 4
def PORT_CFG_KIND (c i : Nat) : Fld := ⟨R_PORT_CFG c i, 0, 2⟩
def PORT_CFG_WIDTH (c i : Nat) : Fld := ⟨R_PORT_CFG c i, 2, 2⟩
def PORT_CFG_PRIV_TRUST (c i : Nat) : Fld := ⟨R_PORT_CFG c i, 4, 1⟩
def R_PORT_TCMAP (c i : Nat) : Nat := 0x100000 + c * 0x10000 + 0x820 + i * 4
def PORT_TCMAP_MAP (c i : Nat) : Fld := ⟨R_PORT_TCMAP c i, 0, 24⟩
def R_PORT_NBR (c i : Nat) : Nat := 0x100000 + c * 0x10000 + 0x840 + i * 4
def PORT_NBR_NODE (c i : Nat) : Fld := ⟨R_PORT_NBR c i, 0, 12⟩
def PORT_NBR_TIER (c i : Nat) : Fld := ⟨R_PORT_NBR c i, 12, 2⟩
def PORT_NBR_SET (c i : Nat) : Fld := ⟨R_PORT_NBR c i, 14, 1⟩
def PORT_NBR_VALID (c i : Nat) : Fld := ⟨R_PORT_NBR c i, 15, 1⟩
def PORT_NBR_DIR (c i : Nat) : Fld := ⟨R_PORT_NBR c i, 16, 2⟩
def PORT_NBR_STATE (c i : Nat) : Fld := ⟨R_PORT_NBR c i, 18, 2⟩
def PORT_NBR_ELIG0 (c i : Nat) : Fld := ⟨R_PORT_NBR c i, 20, 1⟩
def PORT_NBR_ELIG1 (c i : Nat) : Fld := ⟨R_PORT_NBR c i, 21, 1⟩
def PORT_NBR_REASON (c i : Nat) : Fld := ⟨R_PORT_NBR c i, 22, 3⟩
def R_GCL_ENT0 (c i : Nat) : Nat := 0x100000 + c * 0x10000 + 0x2000 + i * 8
def GCL_ENT0_OFFSET (c i : Nat) : Fld := ⟨R_GCL_ENT0 c i, 0, 22⟩
def R_GCL_ENT1 (c i : Nat) : Nat := 0x100000 + c * 0x10000 + 0x2004 + i * 8
def GCL_ENT1_GATES (c i : Nat) : Fld := ⟨R_GCL_ENT1 c i, 0, 8⟩
def GCL_ENT1_LAST (c i : Nat) : Fld := ⟨R_GCL_ENT1 c i, 8, 1⟩
def C_LANE_CORR (c i : Nat) : Nat := 0x100000 + c * 0x10000 + 0x9000 + i * 16
def C_LANE_LOCKLOSS (c i : Nat) : Nat := 0x100000 + c * 0x10000 + 0x9008 + i * 16
def R_PORT_FNMAP (c i : Nat) : Nat := 0x100000 + c * 0x10000 + 0xc000 + i * 4
def PORT_FNMAP_DEV_RID (c i : Nat) : Fld := ⟨R_PORT_FNMAP c i, 0, 16⟩
def PORT_FNMAP_HPART (c i : Nat) : Fld := ⟨R_PORT_FNMAP c i, 16, 5⟩
def PORT_FNMAP_DEVFN (c i : Nat) : Fld := ⟨R_PORT_FNMAP c i, 21, 8⟩
def PORT_FNMAP_WIN_EN (c i : Nat) : Fld := ⟨R_PORT_FNMAP c i, 29, 1⟩
def R_PT_NI_CTO (c : Nat) : Nat := 0x100000 + c * 0x10000 + 0x5e00
def PT_NI_CTO_US (c : Nat) : Fld := ⟨R_PT_NI_CTO c, 0, 23⟩
def C_PT_NI_ELIM_PASS (c : Nat) : Nat := 0x100000 + c * 0x10000 + 0x5f18

/-! ### block `sched` (06_gates Table 6-10) -/
def R_GCL_CTL (c k : Nat) : Nat := 0x104000 + c * 0x10000 + k * 0x100
def GCL_CTL_EN (c k : Nat) : Fld := ⟨R_GCL_CTL c k, 0, 1⟩
def GCL_CTL_IDLE_GATES (c k : Nat) : Fld := ⟨R_GCL_CTL c k, 8, 8⟩
def R_GCL_STAT (c k : Nat) : Nat := 0x104000 + c * 0x10000 + k * 0x100 + 0x4
def GCL_STAT_ACTIVE (c k : Nat) : Fld := ⟨R_GCL_STAT c k, 0, 1⟩
def GCL_STAT_PENDING (c k : Nat) : Fld := ⟨R_GCL_STAT c k, 1, 1⟩
def GCL_STAT_ENTRY (c k : Nat) : Fld := ⟨R_GCL_STAT c k, 2, 6⟩
def GCL_STAT_GATES (c k : Nat) : Fld := ⟨R_GCL_STAT c k, 8, 8⟩
def GCL_STAT_SHED (c k : Nat) : Fld := ⟨R_GCL_STAT c k, 16, 1⟩
def GCL_STAT_SWAP_BAD (c k : Nat) : Fld := ⟨R_GCL_STAT c k, 17, 1⟩
def GCL_STAT_LIST_BAD (c k : Nat) : Fld := ⟨R_GCL_STAT c k, 18, 1⟩
def GCL_STAT_DEGRADED (c k : Nat) : Fld := ⟨R_GCL_STAT c k, 19, 1⟩
def R_GCL_SWAP_LO (c k : Nat) : Nat := 0x104000 + c * 0x10000 + k * 0x100 + 0x8
def GCL_SWAP_LO_FRAME (c k : Nat) : Fld := ⟨R_GCL_SWAP_LO c k, 0, 32⟩
def R_GCL_SWAP_HI (c k : Nat) : Nat := 0x104000 + c * 0x10000 + k * 0x100 + 0xc
def GCL_SWAP_HI_FRAME (c k : Nat) : Fld := ⟨R_GCL_SWAP_HI c k, 0, 32⟩
def R_PORT_WEIR (c k : Nat) : Nat := 0x104000 + c * 0x10000 + k * 0x100 + 0x10
def PORT_WEIR_NS (c k : Nat) : Fld := ⟨R_PORT_WEIR c k, 0, 16⟩
def R_PORT_MAXPKT (c k : Nat) : Nat := 0x104000 + c * 0x10000 + k * 0x100 + 0x14
def PORT_MAXPKT_BYTES (c k : Nat) : Fld := ⟨R_PORT_MAXPKT c k, 0, 13⟩
def R_FQ_W0 (c k : Nat) : Nat := 0x104000 + c * 0x10000 + k * 0x100 + 0x18
def FQ_W0_W (c k : Nat) : Fld := ⟨R_FQ_W0 c k, 0, 32⟩
def R_FQ_W1 (c k : Nat) : Nat := 0x104000 + c * 0x10000 + k * 0x100 + 0x1c
def FQ_W1_W (c k : Nat) : Fld := ⟨R_FQ_W1 c k, 0, 16⟩
def R_TEL_CFG (c k : Nat) : Nat := 0x104000 + c * 0x10000 + k * 0x100 + 0x20
def TEL_CFG_EN (c k : Nat) : Fld := ⟨R_TEL_CFG c k, 0, 1⟩
def TEL_CFG_MODE (c k : Nat) : Fld := ⟨R_TEL_CFG c k, 1, 1⟩
def TEL_CFG_INTV (c k : Nat) : Fld := ⟨R_TEL_CFG c k, 2, 5⟩
def TEL_CFG_RING (c k : Nat) : Fld := ⟨R_TEL_CFG c k, 8, 4⟩
def R_TEL_OFFSET (c k : Nat) : Nat := 0x104000 + c * 0x10000 + k * 0x100 + 0x24
def TEL_OFFSET_NS (c k : Nat) : Fld := ⟨R_TEL_OFFSET c k, 0, 22⟩
def R_QCFG (c k : Nat) : Nat := 0x104000 + c * 0x10000 + k * 0x100 + 0x28
def QCFG_QMIN (c k : Nat) : Fld := ⟨R_QCFG c k, 0, 8⟩
def QCFG_QMAX (c k : Nat) : Fld := ⟨R_QCFG c k, 16, 8⟩
def R_SHP_CFG (c k i : Nat) : Nat := 0x104000 + c * 0x10000 + k * 0x100 + 0x40 + i * 16
def SHP_CFG_EN (c k i : Nat) : Fld := ⟨R_SHP_CFG c k i, 0, 1⟩
def SHP_CFG_OVERHEAD (c k i : Nat) : Fld := ⟨R_SHP_CFG c k i, 8, 8⟩
def SHP_CFG_REFILL (c k i : Nat) : Fld := ⟨R_SHP_CFG c k i, 16, 16⟩
def R_SHP_QUANT (c k i : Nat) : Nat := 0x104000 + c * 0x10000 + k * 0x100 + 0x44 + i * 16
def SHP_QUANT_BYTES (c k i : Nat) : Fld := ⟨R_SHP_QUANT c k i, 0, 20⟩
def R_SHP_BURST (c k i : Nat) : Nat := 0x104000 + c * 0x10000 + k * 0x100 + 0x48 + i * 16
def SHP_BURST_BYTES (c k i : Nat) : Fld := ⟨R_SHP_BURST c k i, 0, 24⟩
def R_SHP_TOKENS (c k i : Nat) : Nat := 0x104000 + c * 0x10000 + k * 0x100 + 0x4c + i * 16
def SHP_TOKENS_TOKENS (c k i : Nat) : Fld := ⟨R_SHP_TOKENS c k i, 0, 32⟩
def R_Q_DEPTH (c k i : Nat) : Nat := 0x104000 + c * 0x10000 + k * 0x100 + 0xc0 + i * 4
def Q_DEPTH_BYTES (c k i : Nat) : Fld := ⟨R_Q_DEPTH c k i, 0, 22⟩
def C_Q_DROP (c k : Nat) : Nat := 0x104000 + c * 0x10000 + k * 0x100 + 0xe0
def C_GCL_CUT (c k : Nat) : Nat := 0x104000 + c * 0x10000 + k * 0x100 + 0xe8
def C_TEL_DROP (c k : Nat) : Nat := 0x104000 + c * 0x10000 + k * 0x100 + 0xf0

/-! ### block `str` (06_gates Table 6-11 (base by unit)) -/
def R_STR_BASE_LO (b : Nat) : Nat := b
def STR_BASE_LO_BASE (b : Nat) : Fld := ⟨R_STR_BASE_LO b, 12, 20⟩
def R_STR_BASE_HI (b : Nat) : Nat := b + 0x4
def STR_BASE_HI_BASE (b : Nat) : Fld := ⟨R_STR_BASE_HI b, 0, 32⟩
def R_STR_CTL (b : Nat) : Nat := b + 0x8
def STR_CTL_EN (b : Nat) : Fld := ⟨R_STR_CTL b, 0, 1⟩
def STR_CTL_SIZE (b : Nat) : Fld := ⟨R_STR_CTL b, 1, 6⟩
def STR_CTL_BUDGET (b : Nat) : Fld := ⟨R_STR_CTL b, 8, 8⟩
def STR_CTL_PORT_MASK (b : Nat) : Fld := ⟨R_STR_CTL b, 16, 8⟩
def STR_CTL_MAXLEN (b : Nat) : Fld := ⟨R_STR_CTL b, 24, 8⟩
def R_STR_DEST (b : Nat) : Nat := b + 0xc
def STR_DEST_DEST_EID (b : Nat) : Fld := ⟨R_STR_DEST b, 0, 24⟩
def R_STR_XLAT_LO (b : Nat) : Nat := b + 0x10
def STR_XLAT_LO_XLAT (b : Nat) : Fld := ⟨R_STR_XLAT_LO b, 12, 20⟩
def R_STR_XLAT_HI (b : Nat) : Nat := b + 0x14
def STR_XLAT_HI_XLAT (b : Nat) : Fld := ⟨R_STR_XLAT_HI b, 0, 32⟩
def R_STR_OPEN (b : Nat) : Nat := b + 0x18
def STR_OPEN_NS (b : Nat) : Fld := ⟨R_STR_OPEN b, 0, 22⟩
def R_STR_CLOSE (b : Nat) : Nat := b + 0x1c
def STR_CLOSE_NS (b : Nat) : Fld := ⟨R_STR_CLOSE b, 0, 22⟩
def R_STR_STREAM (b : Nat) : Nat := b + 0x20
def STR_STREAM_STREAM (b : Nat) : Fld := ⟨R_STR_STREAM b, 0, 15⟩
def STR_STREAM_COUNT (b : Nat) : Fld := ⟨R_STR_STREAM b, 16, 10⟩
def R_STR_SEQ (b : Nat) : Nat := b + 0x24
def STR_SEQ_NEXT (b : Nat) : Fld := ⟨R_STR_SEQ b, 0, 16⟩
def C_STR_OVER (b : Nat) : Nat := b + 0x28

/-! ### block `plume` (17_register_map Table 17-8 (base by tile, group)) -/
def R_PLUME_CTL (b : Nat) : Nat := b
def PLUME_CTL_EN (b : Nat) : Fld := ⟨R_PLUME_CTL b, 0, 1⟩
def PLUME_CTL_COUNT (b : Nat) : Fld := ⟨R_PLUME_CTL b, 1, 5⟩
def R_PLUME_RSVD (b : Nat) : Nat := b + 0x4
def R_PLUME_XLAT_LO (b : Nat) : Nat := b + 0x8
def PLUME_XLAT_LO_XLAT (b : Nat) : Fld := ⟨R_PLUME_XLAT_LO b, 0, 32⟩
def R_PLUME_XLAT_HI (b : Nat) : Nat := b + 0xc
def PLUME_XLAT_HI_XLAT (b : Nat) : Fld := ⟨R_PLUME_XLAT_HI b, 0, 32⟩
def R_PLUME_CHILD (b i : Nat) : Nat := b + 0x10 + i * 4
def PLUME_CHILD_EID (b i : Nat) : Fld := ⟨R_PLUME_CHILD b i, 0, 24⟩
def PLUME_CHILD_NODE (b i : Nat) : Fld := ⟨R_PLUME_CHILD b i, 24, 1⟩
def PLUME_CHILD_GROUP (b i : Nat) : Fld := ⟨R_PLUME_CHILD b i, 25, 3⟩

/-! ### block `elim` (05_fabric Table 5-10 (base by tile)) -/
def C_NI_ELIM_DUP (b : Nat) : Nat := b
def C_NI_ELIM_STALE (b : Nat) : Nat := b + 0x8
def C_NI_ELIM_GAP (b : Nat) : Nat := b + 0x10
def C_NI_EPOCH_INV (b : Nat) : Nat := b + 0x20
def C_NI_PLUME_DROP (b : Nat) : Nat := b + 0x28
def R_NI_ELIM_CFG (b i : Nat) : Nat := b + 0x100 + i * 8
def NI_ELIM_CFG_STREAM (b i : Nat) : Fld := ⟨R_NI_ELIM_CFG b i, 0, 15⟩
def NI_ELIM_CFG_EN (b i : Nat) : Fld := ⟨R_NI_ELIM_CFG b i, 15, 1⟩
def NI_ELIM_CFG_H (b i : Nat) : Fld := ⟨R_NI_ELIM_CFG b i, 16, 16⟩
def R_NI_ELIM_ST (b i : Nat) : Nat := b + 0x104 + i * 8
def NI_ELIM_ST_INIT (b i : Nat) : Fld := ⟨R_NI_ELIM_ST b i, 0, 1⟩

/-! ### block `lnk` (09_runnel Table 9-14) -/
def R_LNK_CTL (c k : Nat) : Nat := 0x108000 + c * 0x10000 + k * 0x200
def LNK_CTL_EN (c k : Nat) : Fld := ⟨R_LNK_CTL c k, 0, 1⟩
def LNK_CTL_RETRAIN (c k : Nat) : Fld := ⟨R_LNK_CTL c k, 1, 1⟩
def LNK_CTL_LD_SEL (c k : Nat) : Fld := ⟨R_LNK_CTL c k, 2, 2⟩
def LNK_CTL_AUTO_NARROW (c k : Nat) : Fld := ⟨R_LNK_CTL c k, 4, 1⟩
def LNK_CTL_SPARE (c k : Nat) : Fld := ⟨R_LNK_CTL c k, 5, 1⟩
def R_LNK_STAT (c k : Nat) : Nat := 0x108000 + c * 0x10000 + k * 0x200 + 0x4
def LNK_STAT_STATE (c k : Nat) : Fld := ⟨R_LNK_STAT c k, 0, 3⟩
def LNK_STAT_HELD (c k : Nat) : Fld := ⟨R_LNK_STAT c k, 3, 1⟩
def LNK_STAT_WIDTH (c k : Nat) : Fld := ⟨R_LNK_STAT c k, 4, 5⟩
def LNK_STAT_RATE (c k : Nat) : Fld := ⟨R_LNK_STAT c k, 9, 2⟩
def LNK_STAT_SPARE_FREE (c k : Nat) : Fld := ⟨R_LNK_STAT c k, 11, 1⟩
def LNK_STAT_CHANGE (c k : Nat) : Fld := ⟨R_LNK_STAT c k, 12, 1⟩
def LNK_STAT_MAP (c k : Nat) : Fld := ⟨R_LNK_STAT c k, 16, 16⟩
def R_LNK_GRACE (c k : Nat) : Nat := 0x108000 + c * 0x10000 + k * 0x200 + 0x8
def LNK_GRACE_MS (c k : Nat) : Fld := ⟨R_LNK_GRACE c k, 0, 7⟩
def R_LNK_TLOCK (c k : Nat) : Nat := 0x108000 + c * 0x10000 + k * 0x200 + 0xc
def LNK_TLOCK_US (c k : Nat) : Fld := ⟨R_LNK_TLOCK c k, 0, 14⟩
def R_LNK_ERRCRIT (c k : Nat) : Nat := 0x108000 + c * 0x10000 + k * 0x200 + 0x10
def LNK_ERRCRIT_THRESH (c k : Nat) : Fld := ⟨R_LNK_ERRCRIT c k, 0, 16⟩
def LNK_ERRCRIT_WIN_LOG2 (c k : Nat) : Fld := ⟨R_LNK_ERRCRIT c k, 16, 5⟩
def R_LNK_ACK (c k : Nat) : Nat := 0x108000 + c * 0x10000 + k * 0x200 + 0x14
def LNK_ACK_MARGIN (c k : Nat) : Fld := ⟨R_LNK_ACK c k, 0, 20⟩
def LNK_ACK_REPLAY_LIMIT (c k : Nat) : Fld := ⟨R_LNK_ACK c k, 20, 4⟩
def R_LNK_RTT (c k : Nat) : Nat := 0x108000 + c * 0x10000 + k * 0x200 + 0x18
def LNK_RTT_NS (c k : Nat) : Fld := ⟨R_LNK_RTT c k, 0, 24⟩
def R_LNK_RPL_MAX (c k : Nat) : Nat := 0x108000 + c * 0x10000 + k * 0x200 + 0x1c
def LNK_RPL_MAX_NS (c k : Nat) : Fld := ⟨R_LNK_RPL_MAX c k, 0, 32⟩
def R_LNK_TMO (c k : Nat) : Nat := 0x108000 + c * 0x10000 + k * 0x200 + 0x20
def LNK_TMO_RETRAIN_US (c k : Nat) : Fld := ⟨R_LNK_TMO c k, 0, 14⟩
def LNK_TMO_TRAIN_MS (c k : Nat) : Fld := ⟨R_LNK_TMO c k, 16, 9⟩
def R_LNK_WINDOW (c k : Nat) : Nat := 0x108000 + c * 0x10000 + k * 0x200 + 0x24
def LNK_WINDOW_SLOTS (c k : Nat) : Fld := ⟨R_LNK_WINDOW c k, 0, 11⟩
def LNK_WINDOW_MAXOUT (c k : Nat) : Fld := ⟨R_LNK_WINDOW c k, 16, 16⟩
def R_LNK_SPILL (c k : Nat) : Nat := 0x108000 + c * 0x10000 + k * 0x200 + 0x28
def LNK_SPILL_RPL_UNITS (c k : Nat) : Fld := ⟨R_LNK_SPILL c k, 0, 12⟩
def R_LNK_SPILL_BASE (c k : Nat) : Nat := 0x108000 + c * 0x10000 + k * 0x200 + 0x2c
def LNK_SPILL_BASE_BASE (c k : Nat) : Fld := ⟨R_LNK_SPILL_BASE c k, 16, 11⟩
def R_LNK_RXPOOL (c k i : Nat) : Nat := 0x108000 + c * 0x10000 + k * 0x200 + 0x40 + i * 4
def LNK_RXPOOL_TILE (c k i : Nat) : Fld := ⟨R_LNK_RXPOOL c k i, 0, 13⟩
def LNK_RXPOOL_SPILL (c k i : Nat) : Fld := ⟨R_LNK_RXPOOL c k i, 16, 12⟩
def R_LNK_TXCRED (c k i : Nat) : Nat := 0x108000 + c * 0x10000 + k * 0x200 + 0x60 + i * 4
def LNK_TXCRED_UNITS (c k i : Nat) : Fld := ⟨R_LNK_TXCRED c k i, 0, 32⟩
def R_LNK_PARTNER (c k : Nat) : Nat := 0x108000 + c * 0x10000 + k * 0x200 + 0x80
def LNK_PARTNER_NODE (c k : Nat) : Fld := ⟨R_LNK_PARTNER c k, 0, 12⟩
def LNK_PARTNER_PORT (c k : Nat) : Fld := ⟨R_LNK_PARTNER c k, 12, 7⟩
def LNK_PARTNER_VALID (c k : Nat) : Fld := ⟨R_LNK_PARTNER c k, 31, 1⟩
def R_LNK_NONCE (c k : Nat) : Nat := 0x108000 + c * 0x10000 + k * 0x200 + 0x84
def LNK_NONCE_LOCAL (c k : Nat) : Fld := ⟨R_LNK_NONCE c k, 0, 32⟩
def R_LNK_PNONCE (c k : Nat) : Nat := 0x108000 + c * 0x10000 + k * 0x200 + 0x88
def LNK_PNONCE_PARTNER (c k : Nat) : Fld := ⟨R_LNK_PNONCE c k, 0, 32⟩
def R_LNK_LANES (c k : Nat) : Nat := 0x108000 + c * 0x10000 + k * 0x200 + 0x8c
def LNK_LANES_OK (c k : Nat) : Fld := ⟨R_LNK_LANES c k, 0, 16⟩
def LNK_LANES_FAILED (c k : Nat) : Fld := ⟨R_LNK_LANES c k, 16, 16⟩
def R_LNK_RECAL (c k : Nat) : Nat := 0x108000 + c * 0x10000 + k * 0x200 + 0x90
def LNK_RECAL_PERIOD_S (c k : Nat) : Fld := ⟨R_LNK_RECAL c k, 0, 16⟩
def LNK_RECAL_TMO_MS (c k : Nat) : Fld := ⟨R_LNK_RECAL c k, 16, 8⟩
def R_LNK_LANECRIT (c k : Nat) : Nat := 0x108000 + c * 0x10000 + k * 0x200 + 0x94
def LNK_LANECRIT_THRESH (c k : Nat) : Fld := ⟨R_LNK_LANECRIT c k, 0, 16⟩
def LNK_LANECRIT_WIN_LOG2 (c k : Nat) : Fld := ⟨R_LNK_LANECRIT c k, 16, 5⟩
def R_LNK_EVT (c k : Nat) : Nat := 0x108000 + c * 0x10000 + k * 0x200 + 0x98
def LNK_EVT_DOWN (c k : Nat) : Fld := ⟨R_LNK_EVT c k, 0, 1⟩
def LNK_EVT_UP (c k : Nat) : Fld := ⟨R_LNK_EVT c k, 1, 1⟩
def LNK_EVT_RESUMED (c k : Nat) : Fld := ⟨R_LNK_EVT c k, 2, 1⟩
def LNK_EVT_FLUSHED (c k : Nat) : Fld := ⟨R_LNK_EVT c k, 3, 1⟩
def LNK_EVT_RETRAINED (c k : Nat) : Fld := ⟨R_LNK_EVT c k, 4, 1⟩
def LNK_EVT_LANE_FAIL (c k : Nat) : Fld := ⟨R_LNK_EVT c k, 5, 1⟩
def LNK_EVT_CHANGE_DONE (c k : Nat) : Fld := ⟨R_LNK_EVT c k, 6, 1⟩
def LNK_EVT_CHANGE_REFUSED (c k : Nat) : Fld := ⟨R_LNK_EVT c k, 7, 1⟩
def LNK_EVT_CROSS_LOST (c k : Nat) : Fld := ⟨R_LNK_EVT c k, 8, 1⟩
def LNK_EVT_RECAL_FAIL (c k : Nat) : Fld := ⟨R_LNK_EVT c k, 9, 1⟩
def LNK_EVT_SPILL_ERR (c k : Nat) : Fld := ⟨R_LNK_EVT c k, 10, 1⟩
def LNK_EVT_CTO_RISK (c k : Nat) : Fld := ⟨R_LNK_EVT c k, 11, 1⟩
def R_LNK_INT_EN (c k : Nat) : Nat := 0x108000 + c * 0x10000 + k * 0x200 + 0x9c
def LNK_INT_EN_EN (c k : Nat) : Fld := ⟨R_LNK_INT_EN c k, 0, 12⟩
def C_LNK_FLITS_TX (c k : Nat) : Nat := 0x108000 + c * 0x10000 + k * 0x200 + 0x100
def C_LNK_FLITS_RX (c k : Nat) : Nat := 0x108000 + c * 0x10000 + k * 0x200 + 0x108
def C_LNK_FEC_CORR (c k : Nat) : Nat := 0x108000 + c * 0x10000 + k * 0x200 + 0x110
def C_LNK_UNCORR (c k : Nat) : Nat := 0x108000 + c * 0x10000 + k * 0x200 + 0x118
def C_LNK_CRC_FAIL (c k : Nat) : Nat := 0x108000 + c * 0x10000 + k * 0x200 + 0x120
def C_LNK_NAK_TX (c k : Nat) : Nat := 0x108000 + c * 0x10000 + k * 0x200 + 0x128
def C_LNK_NAK_RX (c k : Nat) : Nat := 0x108000 + c * 0x10000 + k * 0x200 + 0x130
def C_LNK_REPLAY (c k : Nat) : Nat := 0x108000 + c * 0x10000 + k * 0x200 + 0x138
def C_LNK_REPLAY_FLITS (c k : Nat) : Nat := 0x108000 + c * 0x10000 + k * 0x200 + 0x140
def C_LNK_RETRAIN_CNT (c k : Nat) : Nat := 0x108000 + c * 0x10000 + k * 0x200 + 0x148
def C_LNK_DOWN_CNT (c k : Nat) : Nat := 0x108000 + c * 0x10000 + k * 0x200 + 0x150
def C_LNK_RESUME_CNT (c k : Nat) : Nat := 0x108000 + c * 0x10000 + k * 0x200 + 0x158
def C_LNK_FLUSH_CNT (c k : Nat) : Nat := 0x108000 + c * 0x10000 + k * 0x200 + 0x160
def C_LNK_FLUSH_NP (c k : Nat) : Nat := 0x108000 + c * 0x10000 + k * 0x200 + 0x168
def C_LNK_FLUSH_RSP (c k : Nat) : Nat := 0x108000 + c * 0x10000 + k * 0x200 + 0x170
def C_LNK_FLUSH_POSTED (c k : Nat) : Nat := 0x108000 + c * 0x10000 + k * 0x200 + 0x178
def C_LNK_FLUSH_CTL (c k : Nat) : Nat := 0x108000 + c * 0x10000 + k * 0x200 + 0x180
def C_LNK_TC7_DOWN (c k : Nat) : Nat := 0x108000 + c * 0x10000 + k * 0x200 + 0x188
def C_LNK_CHANGE_CNT (c k : Nat) : Nat := 0x108000 + c * 0x10000 + k * 0x200 + 0x190
def C_LNK_CROSS_LOST_CNT (c k : Nat) : Nat := 0x108000 + c * 0x10000 + k * 0x200 + 0x198
def C_LNK_SPILL_WR (c k : Nat) : Nat := 0x108000 + c * 0x10000 + k * 0x200 + 0x1a0
def C_LNK_EVT_IGNORED (c k : Nat) : Nat := 0x108000 + c * 0x10000 + k * 0x200 + 0x1a8

/-! ### block `pcfg` (10_pcie Table 10-8) -/
def R_PCFG (c k : Nat) : Nat := 0x10A000 + c * 0x10000 + k * 0x100
def PCFG_EN (c k : Nat) : Fld := ⟨R_PCFG c k, 0, 1⟩
def PCFG_MAXRATE (c k : Nat) : Fld := ⟨R_PCFG c k, 1, 3⟩
def PCFG_VDM_EN (c k : Nat) : Fld := ⟨R_PCFG c k, 4, 1⟩
def PCFG_DPC_NONFATAL (c k : Nat) : Fld := ⟨R_PCFG c k, 5, 1⟩
def PCFG_ATOMIC_EGRESS (c k : Nat) : Fld := ⟨R_PCFG c k, 6, 1⟩
def PCFG_SHARED (c k : Nat) : Fld := ⟨R_PCFG c k, 7, 1⟩
def PCFG_NATIVE_TC (c k : Nat) : Fld := ⟨R_PCFG c k, 8, 3⟩
def PCFG_DEF_HPART (c k : Nat) : Fld := ⟨R_PCFG c k, 16, 5⟩
def R_PCFG_RID (c k : Nat) : Nat := 0x10A000 + c * 0x10000 + k * 0x100 + 0x4
def PCFG_RID_RID (c k : Nat) : Fld := ⟨R_PCFG_RID c k, 0, 16⟩
def R_PCFG_PCTO (c k : Nat) : Nat := 0x10A000 + c * 0x10000 + k * 0x100 + 0xc
def PCFG_PCTO_US (c k : Nat) : Fld := ⟨R_PCFG_PCTO c k, 0, 22⟩
def R_PCFG_LSTAT (c k : Nat) : Nat := 0x10A000 + c * 0x10000 + k * 0x100 + 0x10
def PCFG_LSTAT_STATE (c k : Nat) : Fld := ⟨R_PCFG_LSTAT c k, 0, 2⟩
def PCFG_LSTAT_WIDTH (c k : Nat) : Fld := ⟨R_PCFG_LSTAT c k, 2, 5⟩
def PCFG_LSTAT_RATE (c k : Nat) : Fld := ⟨R_PCFG_LSTAT c k, 7, 3⟩
def PCFG_LSTAT_FLIT (c k : Nat) : Fld := ⟨R_PCFG_LSTAT c k, 10, 1⟩
def R_PCFG_TAGS (c k : Nat) : Nat := 0x10A000 + c * 0x10000 + k * 0x100 + 0x14
def PCFG_TAGS_MAX (c k : Nat) : Fld := ⟨R_PCFG_TAGS c k, 0, 13⟩
def PCFG_TAGS_FREE (c k : Nat) : Fld := ⟨R_PCFG_TAGS c k, 16, 13⟩
def R_PCFG_RSV_BASE_LO (c k : Nat) : Nat := 0x10A000 + c * 0x10000 + k * 0x100 + 0x18
def PCFG_RSV_BASE_LO_BASE (c k : Nat) : Fld := ⟨R_PCFG_RSV_BASE_LO c k, 12, 20⟩
def R_PCFG_RSV_BASE_HI (c k : Nat) : Nat := 0x10A000 + c * 0x10000 + k * 0x100 + 0x1c
def PCFG_RSV_BASE_HI_BASE (c k : Nat) : Fld := ⟨R_PCFG_RSV_BASE_HI c k, 0, 32⟩
def R_PCFG_RSV_CTL (c k : Nat) : Nat := 0x10A000 + c * 0x10000 + k * 0x100 + 0x20
def PCFG_RSV_CTL_EN (c k : Nat) : Fld := ⟨R_PCFG_RSV_CTL c k, 0, 1⟩
def PCFG_RSV_CTL_SIZE (c k : Nat) : Fld := ⟨R_PCFG_RSV_CTL c k, 1, 6⟩
def C_PCFG_DPC_DISCARD (c k : Nat) : Nat := 0x10A000 + c * 0x10000 + k * 0x100 + 0x40
def C_PCFG_UR_RX (c k : Nat) : Nat := 0x10A000 + c * 0x10000 + k * 0x100 + 0x48
def C_PCFG_MALFORMED (c k : Nat) : Nat := 0x10A000 + c * 0x10000 + k * 0x100 + 0x50
def C_PCFG_ECRC_FAIL (c k : Nat) : Nat := 0x10A000 + c * 0x10000 + k * 0x100 + 0x58
def C_PCFG_UNEXP_CPL (c k : Nat) : Nat := 0x10A000 + c * 0x10000 + k * 0x100 + 0x60
def C_PCFG_EGR_CTO (c k : Nat) : Nat := 0x10A000 + c * 0x10000 + k * 0x100 + 0x68
def C_PCFG_VDM_DROP (c k : Nat) : Nat := 0x10A000 + c * 0x10000 + k * 0x100 + 0x70

/-! ### block `rt` (04_die Tables 4-9..4-11) -/
def R_RT_ID (p t : Nat) : Nat := 0x200000 + p * 0x80000 + t * 0x2000
def RT_ID_TILE (p t : Nat) : Fld := ⟨R_RT_ID p t, 0, 6⟩
def RT_ID_PLANE (p t : Nat) : Fld := ⟨R_RT_ID p t, 6, 1⟩
def RT_ID_PASS (p t : Nat) : Fld := ⟨R_RT_ID p t, 7, 1⟩
def RT_ID_STG_N (p t : Nat) : Fld := ⟨R_RT_ID p t, 8, 2⟩
def RT_ID_STG_E (p t : Nat) : Fld := ⟨R_RT_ID p t, 10, 2⟩
def RT_ID_STG_S (p t : Nat) : Fld := ⟨R_RT_ID p t, 12, 2⟩
def RT_ID_STG_W (p t : Nat) : Fld := ⟨R_RT_ID p t, 14, 2⟩
def R_RT_CTL (p t : Nat) : Nat := 0x200000 + p * 0x80000 + t * 0x2000 + 0x4
def RT_CTL_HI_WEIGHT (p t : Nat) : Fld := ⟨R_RT_CTL p t, 0, 4⟩
def RT_CTL_CE_INT_EN (p t : Nat) : Fld := ⟨R_RT_CTL p t, 4, 1⟩
def R_RT_FENCE (p t : Nat) : Nat := 0x200000 + p * 0x80000 + t * 0x2000 + 0x8
def RT_FENCE_PORTS (p t : Nat) : Fld := ⟨R_RT_FENCE p t, 0, 5⟩
def R_RT_FENCE_STAT (p t : Nat) : Nat := 0x200000 + p * 0x80000 + t * 0x2000 + 0xc
def RT_FENCE_STAT_DONE (p t : Nat) : Fld := ⟨R_RT_FENCE_STAT p t, 0, 5⟩
def R_RT_ERR (p t : Nat) : Nat := 0x200000 + p * 0x80000 + t * 0x2000 + 0x10
def RT_ERR_CE (p t : Nat) : Fld := ⟨R_RT_ERR p t, 0, 1⟩
def RT_ERR_UE (p t : Nat) : Fld := ⟨R_RT_ERR p t, 1, 1⟩
def RT_ERR_CHK (p t : Nat) : Fld := ⟨R_RT_ERR p t, 2, 1⟩
def RT_ERR_CRPAR (p t : Nat) : Fld := ⟨R_RT_ERR p t, 3, 1⟩
def RT_ERR_FIRST_PORT (p t : Nat) : Fld := ⟨R_RT_ERR p t, 4, 3⟩
def RT_ERR_FIRST_VC (p t : Nat) : Fld := ⟨R_RT_ERR p t, 8, 3⟩
def C_RT_CE_CNT (p t : Nat) : Nat := 0x200000 + p * 0x80000 + t * 0x2000 + 0x18
def C_RT_OUT_FLITS (p t i : Nat) : Nat := 0x200000 + p * 0x80000 + t * 0x2000 + 0x100 + i * 8

/-! ### block `ct` (07_cistern Table 7-11) -/
def R_CT_STAT (b : Nat) : Nat := 0x300000 + b * 0x8000
def CT_STAT_STATE (b : Nat) : Fld := ⟨R_CT_STAT b, 0, 1⟩
def CT_STAT_SPARES (b : Nat) : Fld := ⟨R_CT_STAT b, 8, 9⟩
def R_CT_SCRUB (b : Nat) : Nat := 0x300000 + b * 0x8000 + 0x4
def CT_SCRUB_EN (b : Nat) : Fld := ⟨R_CT_SCRUB b, 0, 1⟩
def CT_SCRUB_LOG2 (b : Nat) : Fld := ⟨R_CT_SCRUB b, 1, 5⟩
def R_CT_CE_THRESH (b : Nat) : Nat := 0x300000 + b * 0x8000 + 0x8
def CT_CE_THRESH_ROW (b : Nat) : Fld := ⟨R_CT_CE_THRESH b, 0, 4⟩
def R_CT_ERR (b : Nat) : Nat := 0x300000 + b * 0x8000 + 0xc
def CT_ERR_CE (b : Nat) : Fld := ⟨R_CT_ERR b, 0, 1⟩
def CT_ERR_UE (b : Nat) : Fld := ⟨R_CT_ERR b, 1, 1⟩
def CT_ERR_SPARED (b : Nat) : Fld := ⟨R_CT_ERR b, 2, 1⟩
def CT_ERR_EXHAUSTED (b : Nat) : Fld := ⟨R_CT_ERR b, 3, 1⟩
def CT_ERR_BANK_FAULT (b : Nat) : Fld := ⟨R_CT_ERR b, 4, 1⟩
def R_CT_ERR_ADDR (b : Nat) : Nat := 0x300000 + b * 0x8000 + 0x10
def CT_ERR_ADDR_OFFSET (b : Nat) : Fld := ⟨R_CT_ERR_ADDR b, 0, 22⟩
def R_CT_RETURN (b : Nat) : Nat := 0x300000 + b * 0x8000 + 0x14
def CT_RETURN_GO (b : Nat) : Fld := ⟨R_CT_RETURN b, 0, 1⟩
def C_CT_CE_CNT (b : Nat) : Nat := 0x300000 + b * 0x8000 + 0x18
def C_CT_UE_CNT (b : Nat) : Nat := 0x300000 + b * 0x8000 + 0x20
def C_CT_RES_EVICT (b : Nat) : Nat := 0x300000 + b * 0x8000 + 0x28
def C_CT_MIRROR_REFUSE (b : Nat) : Nat := 0x300000 + b * 0x8000 + 0x30
def C_CT_SEAL_DROP (b : Nat) : Nat := 0x300000 + b * 0x8000 + 0x38

/-! ### block `ctc` (07_cistern Tables 7-12, 7-13) -/
def R_PART_BASE (i : Nat) : Nat := 0x3F0000 + i * 16
def PART_BASE_BASE (i : Nat) : Fld := ⟨R_PART_BASE i, 16, 11⟩
def R_PART_SIZE (i : Nat) : Nat := 0x3F0000 + 0x4 + i * 16
def PART_SIZE_UNITS (i : Nat) : Fld := ⟨R_PART_SIZE i, 0, 11⟩
def R_PART_CTL (i : Nat) : Nat := 0x3F0000 + 0x8 + i * 16
def PART_CTL_EN (i : Nat) : Fld := ⟨R_PART_CTL i, 0, 1⟩
def PART_CTL_USE (i : Nat) : Fld := ⟨R_PART_CTL i, 1, 3⟩
def PART_CTL_MOFS (i : Nat) : Fld := ⟨R_PART_CTL i, 4, 5⟩
def PART_CTL_SEAL (i : Nat) : Fld := ⟨R_PART_CTL i, 9, 1⟩
def R_PART_STAT (i : Nat) : Nat := 0x3F0000 + 0xc + i * 16
def PART_STAT_DEGRADED (i : Nat) : Fld := ⟨R_PART_STAT i, 0, 1⟩
def PART_STAT_LOST (i : Nat) : Fld := ⟨R_PART_STAT i, 1, 1⟩
def C_CT_MIRROR_REREAD : Nat := 0x3F0000 + 0x200
def R_CT_RES_CFG : Nat := 0x3F0000 + 0x210
def CT_RES_CFG_GRANULE : Fld := ⟨R_CT_RES_CFG, 0, 4⟩
def R_SNAP_EVT (i : Nat) : Nat := 0x3F0000 + 0x300 + i * 4
def SNAP_EVT_EVT (i : Nat) : Fld := ⟨R_SNAP_EVT i, 0, 32⟩
def R_SNAP_INT_EN_LO : Nat := 0x3F0000 + 0x308
def SNAP_INT_EN_LO_EN : Fld := ⟨R_SNAP_INT_EN_LO, 0, 32⟩
def R_SNAP_INT_EN_HI : Nat := 0x3F0000 + 0x30c
def SNAP_INT_EN_HI_EN : Fld := ⟨R_SNAP_INT_EN_HI, 0, 32⟩
def R_SNAP_BASE (i : Nat) : Nat := 0x3F0000 + 0x400 + i * 32
def SNAP_BASE_BASE (i : Nat) : Fld := ⟨R_SNAP_BASE i, 12, 16⟩
def R_SNAP_CTL (i : Nat) : Nat := 0x3F0000 + 0x404 + i * 32
def SNAP_CTL_EN (i : Nat) : Fld := ⟨R_SNAP_CTL i, 0, 1⟩
def SNAP_CTL_MODE (i : Nat) : Fld := ⟨R_SNAP_CTL i, 1, 1⟩
def SNAP_CTL_TWIN (i : Nat) : Fld := ⟨R_SNAP_CTL i, 2, 1⟩
def SNAP_CTL_SIZE (i : Nat) : Fld := ⟨R_SNAP_CTL i, 3, 5⟩
def R_SNAP_STAT (i : Nat) : Nat := 0x3F0000 + 0x408 + i * 32
def SNAP_STAT_PUB (i : Nat) : Fld := ⟨R_SNAP_STAT i, 0, 2⟩
def SNAP_STAT_PREV (i : Nat) : Fld := ⟨R_SNAP_STAT i, 2, 2⟩
def SNAP_STAT_WORK0 (i : Nat) : Fld := ⟨R_SNAP_STAT i, 4, 2⟩
def SNAP_STAT_WORK1 (i : Nat) : Fld := ⟨R_SNAP_STAT i, 6, 2⟩
def SNAP_STAT_READY (i : Nat) : Fld := ⟨R_SNAP_STAT i, 8, 1⟩
def SNAP_STAT_WITHHELD (i : Nat) : Fld := ⟨R_SNAP_STAT i, 9, 1⟩
def R_SNAP_PUB_FRAME_LO (i : Nat) : Nat := 0x3F0000 + 0x40c + i * 32
def SNAP_PUB_FRAME_LO_FRAME (i : Nat) : Fld := ⟨R_SNAP_PUB_FRAME_LO i, 0, 32⟩
def R_SNAP_PUB_FRAME_HI (i : Nat) : Nat := 0x3F0000 + 0x410 + i * 32
def SNAP_PUB_FRAME_HI_FRAME (i : Nat) : Fld := ⟨R_SNAP_PUB_FRAME_HI i, 0, 32⟩
def C_SNAP_HELD (i : Nat) : Nat := 0x3F0000 + 0x414 + i * 32
def C_SNAP_SHADOW_DIFF (i : Nat) : Nat := 0x3F0000 + 0x418 + i * 32
def H_SNAP_HELD_HI (i : Nat) : Nat := 0x3F0000 + 0xc00 + i * 8
def H_SNAP_SHADOW_DIFF_HI (i : Nat) : Nat := 0x3F0000 + 0xc04 + i * 8

/-! ### block `kt` (07_cistern Table 7-14) -/
def R_KT_NI_CTO (e : Nat) : Nat := 0x400000 + e * 0x10000 + 0x5e00
def KT_NI_CTO_US (e : Nat) : Fld := ⟨R_KT_NI_CTO e, 0, 23⟩
def R_KT_CTL (e : Nat) : Nat := 0x400000 + e * 0x10000 + 0x8000
def KT_CTL_EN (e : Nat) : Fld := ⟨R_KT_CTL e, 0, 1⟩
def KT_CTL_OVR_INT_EN (e : Nat) : Fld := ⟨R_KT_CTL e, 1, 1⟩
def KT_CTL_LIMIT_INT_EN (e : Nat) : Fld := ⟨R_KT_CTL e, 2, 1⟩
def R_KT_STAT (e : Nat) : Nat := 0x400000 + e * 0x10000 + 0x8004
def KT_STAT_STATE (e : Nat) : Fld := ⟨R_KT_STAT e, 0, 2⟩
def KT_STAT_QUEUE (e : Nat) : Fld := ⟨R_KT_STAT e, 2, 6⟩
def KT_STAT_FP (e : Nat) : Fld := ⟨R_KT_STAT e, 8, 3⟩
def R_KT_ERR (e : Nat) : Nat := 0x400000 + e * 0x10000 + 0x8008
def KT_ERR_FAULT (e : Nat) : Fld := ⟨R_KT_ERR e, 0, 1⟩
def KT_ERR_QFULL (e : Nat) : Fld := ⟨R_KT_ERR e, 1, 1⟩
def KT_ERR_BAD_DESC (e : Nat) : Fld := ⟨R_KT_ERR e, 2, 1⟩
def KT_ERR_FAULT_CODE (e : Nat) : Fld := ⟨R_KT_ERR e, 8, 8⟩
def R_KT_Q_CFG (e i : Nat) : Nat := 0x400000 + e * 0x10000 + 0x8400 + i * 16
def KT_Q_CFG_EN (e i : Nat) : Fld := ⟨R_KT_Q_CFG e i, 0, 1⟩
def KT_Q_CFG_BASE (e i : Nat) : Fld := ⟨R_KT_Q_CFG e i, 1, 10⟩
def KT_Q_CFG_DEPTH (e i : Nat) : Fld := ⟨R_KT_Q_CFG e i, 11, 10⟩
def KT_Q_CFG_WEIGHT (e i : Nat) : Fld := ⟨R_KT_Q_CFG e i, 21, 8⟩
def R_KT_Q_BASIN (e i : Nat) : Nat := 0x400000 + e * 0x10000 + 0x8404 + i * 16
def KT_Q_BASIN_BASIN (e i : Nat) : Fld := ⟨R_KT_Q_BASIN e i, 0, 10⟩
def KT_Q_BASIN_GEN (e i : Nat) : Fld := ⟨R_KT_Q_BASIN e i, 10, 8⟩
def R_KT_Q_STAT (e i : Nat) : Nat := 0x400000 + e * 0x10000 + 0x8408 + i * 16
def KT_Q_STAT_FREE (e i : Nat) : Fld := ⟨R_KT_Q_STAT e i, 0, 11⟩
def R_FP_CTL (e i : Nat) : Nat := 0x400000 + e * 0x10000 + 0x8800 + i * 64
def FP_CTL_EN (e i : Nat) : Fld := ⟨R_FP_CTL e i, 0, 1⟩
def FP_CTL_TWIN (e i : Nat) : Fld := ⟨R_FP_CTL e i, 1, 1⟩
def FP_CTL_ROLE (e i : Nat) : Fld := ⟨R_FP_CTL e i, 2, 1⟩
def FP_CTL_SNAP_EN (e i : Nat) : Fld := ⟨R_FP_CTL e i, 3, 1⟩
def FP_CTL_PARTNER (e i : Nat) : Fld := ⟨R_FP_CTL e i, 4, 4⟩
def FP_CTL_SNAP (e i : Nat) : Fld := ⟨R_FP_CTL e i, 8, 6⟩
def FP_CTL_FIRST (e i : Nat) : Fld := ⟨R_FP_CTL e i, 14, 8⟩
def FP_CTL_COUNT (e i : Nat) : Fld := ⟨R_FP_CTL e i, 22, 5⟩
def R_FP_START (e i : Nat) : Nat := 0x400000 + e * 0x10000 + 0x8804 + i * 64
def FP_START_NS (e i : Nat) : Fld := ⟨R_FP_START e i, 0, 22⟩
def R_FP_WEIR (e i : Nat) : Nat := 0x400000 + e * 0x10000 + 0x8808 + i * 64
def FP_WEIR_NS (e i : Nat) : Fld := ⟨R_FP_WEIR e i, 0, 22⟩
def R_FP_EST (e i : Nat) : Nat := 0x400000 + e * 0x10000 + 0x880c + i * 64
def FP_EST_NS (e i : Nat) : Fld := ⟨R_FP_EST e i, 0, 22⟩
def R_FP_LAST (e i : Nat) : Nat := 0x400000 + e * 0x10000 + 0x8810 + i * 64
def FP_LAST_JSTATUS (e i : Nat) : Fld := ⟨R_FP_LAST e i, 0, 8⟩
def R_FP_SIG_LO (e i : Nat) : Nat := 0x400000 + e * 0x10000 + 0x8818 + i * 64
def FP_SIG_LO_SIG (e i : Nat) : Fld := ⟨R_FP_SIG_LO e i, 0, 32⟩
def R_FP_SIG_HI (e i : Nat) : Nat := 0x400000 + e * 0x10000 + 0x881c + i * 64
def FP_SIG_HI_SIG (e i : Nat) : Fld := ⟨R_FP_SIG_HI e i, 0, 32⟩
def C_KT_OVERRUN (e : Nat) : Nat := 0x400000 + e * 0x10000 + 0x8c00
def C_KT_JOB_DROP (e : Nat) : Nat := 0x400000 + e * 0x10000 + 0x8c08
def C_KT_STALE (e : Nat) : Nat := 0x400000 + e * 0x10000 + 0x8c10
def C_KT_ALIGN_CLAMP (e : Nat) : Nat := 0x400000 + e * 0x10000 + 0x8c18
def C_KT_LIMIT_HIT (e : Nat) : Nat := 0x400000 + e * 0x10000 + 0x8c20
def C_KT_JOBS_DONE (e : Nat) : Nat := 0x400000 + e * 0x10000 + 0x8c28

/-! ### block `rte` (05_fabric Tables 5-2, 5-8) -/
def R_RTE_NODE_CFG : Nat := 0x500000
def RTE_NODE_CFG_TIER : Fld := ⟨R_RTE_NODE_CFG, 0, 2⟩
def RTE_NODE_CFG_SET : Fld := ⟨R_RTE_NODE_CFG, 2, 1⟩
def R_RTE_CTL : Nat := 0x500000 + 0x4
def RTE_CTL_EPOCH : Fld := ⟨R_RTE_CTL, 0, 1⟩
def RTE_CTL_SEED : Fld := ⟨R_RTE_CTL, 8, 8⟩
def R_RTE_STAT : Nat := 0x500000 + 0x8
def RTE_STAT_BANK0 : Fld := ⟨R_RTE_STAT, 0, 2⟩
def RTE_STAT_BANK1 : Fld := ⟨R_RTE_STAT, 2, 2⟩
def RTE_STAT_SWITCHED : Fld := ⟨R_RTE_STAT, 4, 1⟩
def RTE_STAT_SYNC_BUSY : Fld := ⟨R_RTE_STAT, 5, 1⟩
def R_RTE_QUIET : Nat := 0x500000 + 0x10
def RTE_QUIET_NS : Fld := ⟨R_RTE_QUIET, 0, 24⟩
def R_RTE_ELIM_AGE : Nat := 0x500000 + 0x14
def RTE_ELIM_AGE_US : Fld := ⟨R_RTE_ELIM_AGE, 0, 20⟩
def R_RTE_HELLO : Nat := 0x500000 + 0x18
def RTE_HELLO_INTERVAL : Fld := ⟨R_RTE_HELLO, 0, 8⟩
def R_RTE_RES (i : Nat) : Nat := 0x500000 + 0x20 + i * 4
def RTE_RES_COUNT (i : Nat) : Fld := ⟨R_RTE_RES i, 0, 32⟩
def C_RTE_ENT_CNT (i : Nat) : Nat := 0x500000 + 0x30 + i * 8
def C_RTE_TURN_DROP : Nat := 0x500000 + 0x40
def C_RTE_EPOCH_DROP : Nat := 0x500000 + 0x48
def C_RTE_NOROUTE : Nat := 0x500000 + 0x50
def C_RTE_TWIN_DROP : Nat := 0x500000 + 0x58
def R_RTE_ENT (i : Nat) : Nat := 0x500000 + 0x8000 + i * 4
def RTE_ENT_GRP_BULK (i : Nat) : Fld := ⟨R_RTE_ENT i, 0, 8⟩
def RTE_ENT_GRP_A (i : Nat) : Fld := ⟨R_RTE_ENT i, 8, 8⟩
def RTE_ENT_GRP_B (i : Nat) : Fld := ⟨R_RTE_ENT i, 16, 8⟩
def RTE_ENT_VALID (i : Nat) : Fld := ⟨R_RTE_ENT i, 24, 1⟩
def RTE_ENT_DOWN (i : Nat) : Fld := ⟨R_RTE_ENT i, 25, 1⟩
def R_RTE_GRP (i : Nat) : Nat := 0x500000 + 0x10000 + i * 4
def RTE_GRP_PORTS (i : Nat) : Fld := ⟨R_RTE_GRP i, 0, 32⟩

/-! ### block `bsn` (11_basins Table 11-6) -/
def R_BSN_CTL (b : Nat) : Nat := 0x600000 + b * 0x400
def BSN_CTL_STATE (b : Nat) : Fld := ⟨R_BSN_CTL b, 0, 2⟩
def BSN_CTL_GEN (b : Nat) : Fld := ⟨R_BSN_CTL b, 8, 8⟩
def BSN_CTL_HPART (b : Nat) : Fld := ⟨R_BSN_CTL b, 16, 5⟩
def R_BSN_PASID (b : Nat) : Nat := 0x600000 + b * 0x400 + 0x4
def BSN_PASID_PASID (b : Nat) : Fld := ⟨R_BSN_PASID b, 0, 20⟩
def R_BSN_QBASE (b : Nat) : Nat := 0x600000 + b * 0x400 + 0x8
def BSN_QBASE_BASE (b : Nat) : Fld := ⟨R_BSN_QBASE b, 16, 11⟩
def R_BSN_QSIZE (b : Nat) : Nat := 0x600000 + b * 0x400 + 0xc
def BSN_QSIZE_UNITS (b : Nat) : Fld := ⟨R_BSN_QSIZE b, 0, 11⟩
def R_BSN_CONS_ADDR_LO (b : Nat) : Nat := 0x600000 + b * 0x400 + 0x20
def BSN_CONS_ADDR_LO_ADDR (b : Nat) : Fld := ⟨R_BSN_CONS_ADDR_LO b, 5, 27⟩
def R_BSN_CONS_ADDR_HI (b : Nat) : Nat := 0x600000 + b * 0x400 + 0x24
def BSN_CONS_ADDR_HI_ADDR (b : Nat) : Fld := ⟨R_BSN_CONS_ADDR_HI b, 0, 32⟩
def R_BIND_CTL (b i : Nat) : Nat := 0x600000 + b * 0x400 + 0x40 + i * 16
def BIND_CTL_ENG (b i : Nat) : Fld := ⟨R_BIND_CTL b i, 0, 4⟩
def BIND_CTL_QUEUE (b i : Nat) : Fld := ⟨R_BIND_CTL b i, 4, 6⟩
def BIND_CTL_EN (b i : Nat) : Fld := ⟨R_BIND_CTL b i, 10, 1⟩
def BIND_CTL_RING (b i : Nat) : Fld := ⟨R_BIND_CTL b i, 11, 1⟩
def BIND_CTL_RLOG (b i : Nat) : Fld := ⟨R_BIND_CTL b i, 12, 4⟩
def BIND_CTL_VEC (b i : Nat) : Fld := ⟨R_BIND_CTL b i, 16, 3⟩
def R_BIND_CONS (b i : Nat) : Nat := 0x600000 + b * 0x400 + 0x44 + i * 16
def BIND_CONS_CONS (b i : Nat) : Fld := ⟨R_BIND_CONS b i, 0, 32⟩
def R_BIND_RING_LO (b i : Nat) : Nat := 0x600000 + b * 0x400 + 0x48 + i * 16
def BIND_RING_LO_BASE (b i : Nat) : Fld := ⟨R_BIND_RING_LO b i, 12, 20⟩
def R_BIND_RING_HI (b i : Nat) : Nat := 0x600000 + b * 0x400 + 0x4c + i * 16
def BIND_RING_HI_BASE (b i : Nat) : Fld := ⟨R_BIND_RING_HI b i, 0, 32⟩
def R_VEC_ADDR_LO (b i : Nat) : Nat := 0x600000 + b * 0x400 + 0x100 + i * 16
def VEC_ADDR_LO_ADDR (b i : Nat) : Fld := ⟨R_VEC_ADDR_LO b i, 2, 30⟩
def R_VEC_ADDR_HI (b i : Nat) : Nat := 0x600000 + b * 0x400 + 0x104 + i * 16
def VEC_ADDR_HI_ADDR (b i : Nat) : Fld := ⟨R_VEC_ADDR_HI b i, 0, 32⟩
def R_VEC_DATA (b i : Nat) : Nat := 0x600000 + b * 0x400 + 0x108 + i * 16
def VEC_DATA_DATA (b i : Nat) : Fld := ⟨R_VEC_DATA b i, 0, 32⟩
def R_VEC_CTL (b i : Nat) : Nat := 0x600000 + b * 0x400 + 0x10c + i * 16
def VEC_CTL_MASK (b i : Nat) : Fld := ⟨R_VEC_CTL b i, 0, 1⟩
def VEC_CTL_PENDING (b i : Nat) : Fld := ⟨R_VEC_CTL b i, 1, 1⟩
def R_LOG_BASE_LO (b : Nat) : Nat := 0x600000 + b * 0x400 + 0x200
def LOG_BASE_LO_BASE (b : Nat) : Fld := ⟨R_LOG_BASE_LO b, 12, 20⟩
def R_LOG_BASE_HI (b : Nat) : Nat := 0x600000 + b * 0x400 + 0x204
def LOG_BASE_HI_BASE (b : Nat) : Fld := ⟨R_LOG_BASE_HI b, 0, 32⟩
def R_LOG (b : Nat) : Nat := 0x600000 + b * 0x400 + 0x208
def LOG_EN (b : Nat) : Fld := ⟨R_LOG b, 0, 1⟩
def LOG_SIZE (b : Nat) : Fld := ⟨R_LOG b, 1, 6⟩
def LOG_CUR (b : Nat) : Fld := ⟨R_LOG b, 7, 1⟩
def R_LOG_BUF0 (b : Nat) : Nat := 0x600000 + b * 0x400 + 0x20c
def LOG_BUF0_ADDR (b : Nat) : Fld := ⟨R_LOG_BUF0 b, 5, 22⟩
def R_LOG_BUF1 (b : Nat) : Nat := 0x600000 + b * 0x400 + 0x210
def LOG_BUF1_ADDR (b : Nat) : Fld := ⟨R_LOG_BUF1 b, 5, 22⟩
def C_LOG_MISS (b : Nat) : Nat := 0x600000 + b * 0x400 + 0x218
def C_LOG_MARKS (b : Nat) : Nat := 0x600000 + b * 0x400 + 0x220
def C_DB_DROP (b : Nat) : Nat := 0x600000 + b * 0x400 + 0x300
def C_BSN_STALE (b : Nat) : Nat := 0x600000 + b * 0x400 + 0x308
def C_QUOTA_FAULT (b : Nat) : Nat := 0x600000 + b * 0x400 + 0x310
def C_BSN_JOBS (b : Nat) : Nat := 0x600000 + b * 0x400 + 0x318

/-- The registers of block `glb` (17_register_map Table 17-2). -/
def rows_glb : List RegRow := [
  ⟨0x0, 4, 1, .plain, 0x4f464301, 0x0, 0x0, 0x0, 0x0⟩,
  ⟨0x4, 4, 1, .plain, 0xb00, 0x0, 0x0, 0x0, 0x0⟩,
  ⟨0x8, 4, 1, .plain, 0x0, 0xfff, 0x0, 0x0, 0x0⟩,
  ⟨0x10, 4, 1, .plain, 0x3, 0x3, 0x0, 0x0, 0x0⟩,
  ⟨0x14, 4, 1, .plain, 0x0, 0x0, 0x300, 0x0, 0x0⟩,
  ⟨0x20, 4, 1, .pair, 0x0, 0x0, 0x0, 0x0, 0x0⟩,
  ⟨0x28, 4, 1, .pair, 0x0, 0x0, 0x0, 0x0, 0x0⟩,
  ⟨0x40, 4, 1, .plain, 0x0, 0x0, 0x0, 0x0, 0x0⟩,
  ⟨0x100, 4, 1, .plain, 0x0, 0x8, 0x0, 0x6, 0x1⟩,
  ⟨0x104, 4, 1, .plain, 0x0, 0x0, 0x0, 0x0, 0x0⟩,
  ⟨0x108, 4, 1, .plain, 0x64, 0x3ff, 0x0, 0x0, 0x0⟩,
  ⟨0x10c, 4, 1, .plain, 0x1, 0x0, 0x1008, 0x0, 0x0⟩,
  ⟨0x110, 4, 1, .plain, 0x0, 0x0, 0x0, 0x0, 0x0⟩,
  ⟨0x114, 4, 1, .plain, 0x0, 0x0, 0x0, 0x0, 0x0⟩,
  ⟨0x118, 4, 1, .pair, 0x0, 0x0, 0x0, 0x0, 0x0⟩,
  ⟨0x180, 4, 1, .pair, 0x0, 0x0, 0x0, 0x0, 0x0⟩,
  ⟨0x188, 4, 1, .plain, 0x0, 0x0, 0x4000, 0x0, 0x0⟩,
  ⟨0x400, 4, 1, .plain, 0x0, 0x0, 0x7ffe, 0x0, 0x0⟩,
  ⟨0x410, 4, 1, .plain, 0x64, 0x0, 0x0, 0x0, 0x0⟩,
  ⟨0x414, 4, 1, .plain, 0x0, 0x0, 0x0, 0x0, 0x0⟩,
  ⟨0x418, 4, 1, .plain, 0x0, 0x0, 0x0, 0x0, 0x0⟩,
  ⟨0x41c, 4, 1, .plain, 0x0, 0x0, 0x7, 0x0, 0x0⟩,
  ⟨0x440, 4, 16, .plain, 0x0, 0x1fff, 0x0, 0x0, 0x0⟩,
  ⟨0x480, 4, 1, .plain, 0x0, 0x0, 0x3fff, 0x0, 0x0⟩,
  ⟨0x484, 4, 1, .plain, 0x0, 0x3fff, 0x0, 0x0, 0x0⟩,
  ⟨0x490, 4, 1, .plain, 0x0, 0x0, 0x0, 0x0, 0x0⟩,
  ⟨0x494, 4, 1, .plain, 0x0, 0x3f, 0x0, 0x0, 0x0⟩,
  ⟨0x498, 4, 1, .pair, 0x0, 0x0, 0x0, 0x0, 0x0⟩,
  ⟨0x800, 16, 64, .plain, 0x0, 0x0, 0x0, 0x0, 0x0⟩,
  ⟨0x804, 16, 64, .plain, 0x0, 0x0, 0x0, 0x0, 0x0⟩,
  ⟨0x808, 16, 64, .plain, 0x0, 0x0, 0x0, 0x0, 0x0⟩,
  ⟨0x80c, 16, 64, .plain, 0x0, 0x0, 0x0, 0x0, 0x0⟩,
  ⟨0x3000, 4, 1, .pair, 0x0, 0x0, 0x0, 0x0, 0x0⟩]

/-- The registers of block `hpart` (10_pcie Table 10-10). -/
def rows_hpart : List RegRow := [
  ⟨0x0, 4, 1, .plain, 0x0, 0x3, 0x0, 0x0, 0x0⟩,
  ⟨0x4, 4, 1, .plain, 0x0, 0xffffff, 0x0, 0x0, 0x0⟩,
  ⟨0x8, 4, 1, .plain, 0x0, 0x1ffffff, 0x0, 0x0, 0x0⟩,
  ⟨0xc, 4, 1, .plain, 0x0, 0x0, 0x0, 0x0, 0x0⟩]

/-- The registers of block `slot` (10_pcie Table 10-11). -/
def rows_slot : List RegRow := [
  ⟨0x0, 4, 1, .plain, 0x0, 0x3ff, 0x0, 0x0, 0x0⟩,
  ⟨0x4, 4, 1, .plain, 0xa01000a, 0xffff01ff, 0x0, 0x0, 0x0⟩,
  ⟨0x8, 4, 1, .plain, 0xa6403e8, 0xffff0fff, 0x0, 0x0, 0x0⟩,
  ⟨0xc, 4, 1, .plain, 0x0, 0x1, 0x0, 0x2, 0x0⟩,
  ⟨0x10, 4, 1, .plain, 0x108, 0x0, 0x0, 0x0, 0x0⟩,
  ⟨0x14, 4, 1, .plain, 0x0, 0x0, 0x1ff, 0x0, 0x0⟩,
  ⟨0x18, 4, 1, .plain, 0x0, 0x1ff, 0x0, 0x0, 0x0⟩,
  ⟨0x1c, 4, 1, .plain, 0x6400, 0xffff, 0x0, 0x0, 0x0⟩,
  ⟨0x20, 4, 1, .plain, 0x0, 0x0, 0x0, 0x0, 0x0⟩,
  ⟨0x24, 4, 1, .plain, 0x0, 0x0, 0x0, 0x0, 0x0⟩,
  ⟨0x28, 4, 1, .plain, 0x0, 0x0, 0x0, 0x0, 0x0⟩,
  ⟨0x30, 4, 1, .pair, 0x0, 0x0, 0x0, 0x0, 0x0⟩,
  ⟨0x38, 4, 1, .pair, 0x0, 0x0, 0x0, 0x0, 0x0⟩]

/-- The registers of block `ni` (17_register_map Table 17-7 (base by tile)). -/
def rows_ni : List RegRow := [
  ⟨0x0, 4, 1, .plain, 0x0, 0x0, 0x0, 0x0, 0x0⟩,
  ⟨0x8, 4, 1, .pair, 0x0, 0x0, 0x0, 0x0, 0x0⟩,
  ⟨0x10, 4, 1, .pair, 0x0, 0x0, 0x0, 0x0, 0x0⟩,
  ⟨0x18, 4, 4, .plain, 0x0, 0x0, 0x0, 0x0, 0x0⟩,
  ⟨0x28, 4, 1, .pair, 0x0, 0x0, 0x0, 0x0, 0x0⟩,
  ⟨0x30, 4, 1, .pair, 0x0, 0x0, 0x0, 0x0, 0x0⟩,
  ⟨0x38, 4, 1, .pair, 0x0, 0x0, 0x0, 0x0, 0x0⟩]

/-- The registers of block `tm` (17_register_map Table 17-3). -/
def rows_tm : List RegRow := [
  ⟨0x0, 4, 1, .plain, 0x0, 0x0, 0x0, 0x0, 0x0⟩,
  ⟨0x4, 4, 1, .plain, 0x0, 0x0, 0x0, 0x0, 0x0⟩,
  ⟨0x8, 4, 1, .plain, 0x0, 0x0, 0x0, 0x0, 0x0⟩,
  ⟨0x10, 4, 1, .plain, 0x0, 0x0, 0x1f00, 0x0, 0x0⟩,
  ⟨0x14, 4, 1, .plain, 0x0, 0x1f20, 0x0, 0x0, 0x0⟩,
  ⟨0x18, 4, 1, .plain, 0x0, 0xffffffff, 0x0, 0x0, 0x0⟩,
  ⟨0x1c, 4, 1, .plain, 0x0, 0x0, 0x0, 0x0, 0x0⟩,
  ⟨0x20, 4, 1, .plain, 0x14, 0x3fff, 0x0, 0x0, 0x0⟩,
  ⟨0x24, 4, 1, .plain, 0x10, 0xffffff, 0x0, 0x0, 0x0⟩,
  ⟨0x28, 4, 1, .plain, 0x64, 0x3fff, 0x0, 0x0, 0x0⟩,
  ⟨0x2c, 4, 1, .plain, 0x0, 0x0, 0x0, 0x0, 0x0⟩,
  ⟨0x30, 4, 1, .plain, 0x3e8, 0x1ffff, 0x0, 0x0, 0x0⟩,
  ⟨0x34, 4, 1, .plain, 0x3e8, 0xfffff, 0x0, 0x0, 0x0⟩,
  ⟨0x38, 4, 1, .plain, 0x8080, 0x3ffff, 0x0, 0x0, 0x0⟩,
  ⟨0x40, 4, 1, .plain, 0x0, 0xffffffff, 0x0, 0x0, 0x0⟩,
  ⟨0x44, 4, 1, .plain, 0x64, 0x7ffff, 0x0, 0x0, 0x0⟩,
  ⟨0x50, 4, 1, .plain, 0x0, 0xb, 0x0, 0x0, 0x0⟩,
  ⟨0x54, 4, 1, .plain, 0xf424, 0x3fffff, 0x0, 0x0, 0x0⟩,
  ⟨0x58, 4, 1, .plain, 0x0, 0x3fffff, 0x0, 0x0, 0x0⟩,
  ⟨0x5c, 4, 1, .plain, 0xf424, 0x3fffff, 0x0, 0x0, 0x0⟩,
  ⟨0x60, 4, 1, .plain, 0x0, 0x3fffff, 0x0, 0x0, 0x0⟩,
  ⟨0x64, 4, 1, .plain, 0x0, 0xffffffff, 0x0, 0x0, 0x0⟩,
  ⟨0x68, 4, 1, .plain, 0x0, 0xffffffff, 0x0, 0x0, 0x0⟩,
  ⟨0x70, 4, 1, .plain, 0x0, 0x0, 0x0, 0x0, 0x0⟩,
  ⟨0x74, 4, 1, .plain, 0x0, 0x0, 0x0, 0x0, 0x0⟩,
  ⟨0x80, 4, 1, .pair, 0x0, 0x0, 0x0, 0x0, 0x0⟩,
  ⟨0x88, 4, 1, .pair, 0x0, 0x0, 0x0, 0x0, 0x0⟩]

/-- The registers of block `pw` (13_power Table 13-12). -/
def rows_pw : List RegRow := [
  ⟨0x0, 4, 1, .plain, 0xa0a03, 0xffffff03, 0x0, 0x0, 0x0⟩,
  ⟨0x4, 4, 1, .plain, 0x3, 0x0, 0x500, 0x0, 0x0⟩,
  ⟨0x8, 4, 1, .plain, 0xc81010, 0x3ff0000, 0x0, 0x0, 0x0⟩,
  ⟨0xc, 4, 1, .plain, 0x0, 0x0, 0x0, 0x0, 0x0⟩,
  ⟨0x10, 4, 1, .plain, 0xfa0640a, 0xffffffff, 0x0, 0x0, 0x0⟩,
  ⟨0x14, 4, 1, .plain, 0x696e645f, 0xffffffff, 0x0, 0x0, 0x0⟩,
  ⟨0x18, 4, 1, .plain, 0x0, 0x0, 0x80000, 0x0, 0x0⟩,
  ⟨0x1c, 4, 1, .plain, 0x0, 0x0, 0x0, 0x2, 0x0⟩,
  ⟨0x20, 4, 1, .plain, 0x0, 0x0, 0xfff, 0x0, 0x0⟩,
  ⟨0x24, 4, 1, .plain, 0x0, 0xfff, 0x0, 0x0, 0x0⟩,
  ⟨0x28, 4, 1, .plain, 0x0, 0xffffffff, 0x0, 0x0, 0x0⟩,
  ⟨0x2c, 4, 1, .plain, 0x0, 0xffffffff, 0x0, 0x0, 0x0⟩,
  ⟨0x34, 4, 1, .plain, 0x3e80064, 0x3ff03ff, 0x0, 0x0, 0x0⟩,
  ⟨0x40, 4, 16, .plain, 0x0, 0x0, 0x0, 0x0, 0x0⟩,
  ⟨0x100, 4, 1, .plain, 0x0, 0x0, 0x0, 0x0, 0x0⟩,
  ⟨0x108, 8, 7, .pair, 0x0, 0x0, 0x0, 0x0, 0x0⟩,
  ⟨0x140, 4, 1, .pair, 0x0, 0x0, 0x0, 0x0, 0x0⟩,
  ⟨0x148, 4, 1, .pair, 0x0, 0x0, 0x0, 0x0, 0x0⟩,
  ⟨0x200, 8, 64, .plain, 0x0, 0x0, 0x0, 0x0, 0x0⟩,
  ⟨0x204, 8, 64, .plain, 0x0, 0x0, 0x0, 0x0, 0x0⟩]

/-- The registers of block `pwdom` (13_power Table 13-13). -/
def rows_pwdom : List RegRow := [
  ⟨0x0, 4, 1, .plain, 0x0, 0xf, 0x0, 0x0, 0x0⟩,
  ⟨0x4, 4, 1, .plain, 0x0, 0x7, 0x0, 0x0, 0x0⟩,
  ⟨0x8, 4, 1, .plain, 0x0, 0x0, 0x8, 0x0, 0x0⟩,
  ⟨0xc, 4, 1, .plain, 0x0, 0x0, 0x0, 0x0, 0x1⟩,
  ⟨0x10, 4, 1, .pair, 0x0, 0x0, 0x0, 0x0, 0x0⟩,
  ⟨0x18, 4, 1, .pair, 0x0, 0x0, 0x0, 0x0, 0x0⟩,
  ⟨0x20, 4, 1, .pair, 0x0, 0x0, 0x0, 0x0, 0x0⟩,
  ⟨0x28, 4, 1, .pair, 0x0, 0x0, 0x0, 0x0, 0x0⟩]

/-- The registers of block `cx` (14_control Table 14-14). -/
def rows_cx : List RegRow := [
  ⟨0x0, 4, 1, .plain, 0x0, 0x7, 0x0, 0x0, 0x0⟩,
  ⟨0x100, 4, 4, .plain, 0x0, 0xfe00001, 0x0, 0x0, 0x0⟩,
  ⟨0x110, 4, 4, .plain, 0x0, 0xfe00001, 0x0, 0x0, 0x0⟩,
  ⟨0x130, 4, 4, .plain, 0x0, 0xfe00001, 0x0, 0x0, 0x0⟩,
  ⟨0x200, 4, 3, .plain, 0x0, 0x0, 0x0, 0x0, 0x1f⟩,
  ⟨0x210, 4, 3, .plain, 0x0, 0x0, 0x0, 0x0, 0x0⟩,
  ⟨0x300, 4, 1, .pair, 0x0, 0x0, 0x0, 0x0, 0x0⟩,
  ⟨0x308, 4, 1, .pair, 0x0, 0x0, 0x0, 0x0, 0x0⟩,
  ⟨0x310, 4, 1, .pair, 0x0, 0x0, 0x0, 0x0, 0x0⟩,
  ⟨0x2000, 4, 32, .sem, 0x0, 0x0, 0x0, 0x0, 0x0⟩,
  ⟨0x2080, 4, 32, .plain, 0x0, 0x0, 0x0, 0x0, 0x0⟩,
  ⟨0x2100, 4, 1, .plain, 0x2710, 0xffff, 0x0, 0x0, 0x0⟩,
  ⟨0x2108, 4, 1, .pair, 0x0, 0x0, 0x0, 0x0, 0x0⟩,
  ⟨0x3000, 4, 1, .plain, 0x2710, 0x3fffff, 0x0, 0x0, 0x0⟩,
  ⟨0x3004, 4, 1, .plain, 0x0, 0x0, 0x80, 0x0, 0x0⟩,
  ⟨0x3008, 4, 1, .plain, 0x4, 0x3, 0x0, 0x0, 0x0⟩,
  ⟨0x3010, 4, 1, .pair, 0x0, 0x0, 0x0, 0x0, 0x0⟩,
  ⟨0x3018, 4, 1, .pair, 0x0, 0x0, 0x0, 0x0, 0x0⟩,
  ⟨0x3100, 4, 128, .plain, 0x0, 0xffffffff, 0x0, 0x0, 0x0⟩,
  ⟨0x3400, 4, 1, .plain, 0x2710, 0x7fffff, 0x0, 0x0, 0x0⟩]

/-- The registers of block `win` (03_packets Table 3-6 (base by unit)). -/
def rows_win : List RegRow := [
  ⟨0x0, 4, 1, .plain, 0x0, 0xfffff000, 0x0, 0x0, 0x0⟩,
  ⟨0x4, 4, 1, .plain, 0x0, 0xffffffff, 0x0, 0x0, 0x0⟩,
  ⟨0x8, 4, 1, .plain, 0x0, 0xff077f, 0x0, 0x0, 0x0⟩,
  ⟨0xc, 4, 1, .plain, 0x0, 0xffffff, 0x0, 0x0, 0x0⟩,
  ⟨0x10, 4, 1, .plain, 0x0, 0xfffff000, 0x0, 0x0, 0x0⟩,
  ⟨0x14, 4, 1, .plain, 0x0, 0xffffffff, 0x0, 0x0, 0x0⟩,
  ⟨0x18, 4, 2, .plain, 0x0, 0x0, 0x0, 0x0, 0x0⟩]

/-- The same outside the PT NIs, where PORT_MASK is reserved (Table 3-6). -/
def rows_winNative : List RegRow := [
  ⟨0x0, 4, 1, .plain, 0x0, 0xfffff000, 0x0, 0x0, 0x0⟩,
  ⟨0x4, 4, 1, .plain, 0x0, 0xffffffff, 0x0, 0x0, 0x0⟩,
  ⟨0x8, 4, 1, .plain, 0x0, 0x77f, 0x0, 0x0, 0x0⟩,
  ⟨0xc, 4, 1, .plain, 0x0, 0xffffff, 0x0, 0x0, 0x0⟩,
  ⟨0x10, 4, 1, .plain, 0x0, 0xfffff000, 0x0, 0x0, 0x0⟩,
  ⟨0x14, 4, 1, .plain, 0x0, 0xffffffff, 0x0, 0x0, 0x0⟩,
  ⟨0x18, 4, 2, .plain, 0x0, 0x0, 0x0, 0x0, 0x0⟩]

/-- The registers of block `mb` (14_control Table 14-9). -/
def rows_mba : List RegRow := [
  ⟨0x0, 4, 1, .plain, 0x0, 0xff, 0x0, 0x0, 0x0⟩,
  ⟨0x4, 4, 1, .plain, 0x0, 0x0, 0x0, 0x0, 0x1⟩,
  ⟨0x8, 4, 1, .plain, 0x0, 0x0, 0x20, 0x8, 0x0⟩,
  ⟨0xc, 4, 1, .plain, 0x0, 0x0, 0x0, 0x0, 0x0⟩,
  ⟨0x10, 4, 1, .plain, 0x0, 0x0, 0x0, 0x0, 0x0⟩,
  ⟨0x18, 4, 1, .pair, 0x0, 0x0, 0x0, 0x0, 0x0⟩,
  ⟨0x20, 4, 1, .pair, 0x0, 0x0, 0x0, 0x0, 0x0⟩,
  ⟨0x1000, 4, 1024, .plain, 0x0, 0xffffffff, 0x0, 0x0, 0x0⟩,
  ⟨0x2000, 4, 1024, .plain, 0x0, 0xffffffff, 0x0, 0x0, 0x0⟩]

/-- The same of MBB, whose CTL has LINE and IBI in place of VEC. -/
def rows_mbb : List RegRow := [
  ⟨0x0, 4, 1, .plain, 0x0, 0x303, 0x0, 0x0, 0x0⟩,
  ⟨0x4, 4, 1, .plain, 0x0, 0x0, 0x0, 0x0, 0x1⟩,
  ⟨0x8, 4, 1, .plain, 0x0, 0x0, 0x20, 0x8, 0x0⟩,
  ⟨0xc, 4, 1, .plain, 0x0, 0x0, 0x0, 0x0, 0x0⟩,
  ⟨0x10, 4, 1, .plain, 0x0, 0x0, 0x0, 0x0, 0x0⟩,
  ⟨0x18, 4, 1, .pair, 0x0, 0x0, 0x0, 0x0, 0x0⟩,
  ⟨0x20, 4, 1, .pair, 0x0, 0x0, 0x0, 0x0, 0x0⟩,
  ⟨0x1000, 4, 1024, .plain, 0x0, 0xffffffff, 0x0, 0x0, 0x0⟩,
  ⟨0x2000, 4, 1024, .plain, 0x0, 0xffffffff, 0x0, 0x0, 0x0⟩]

/-- The registers of block `gd` (12_guards Tables 12-6, 12-7). -/
def rows_gd : List RegRow := [
  ⟨0x0, 16, 32, .plain, 0x0, 0xffffffc0, 0x0, 0x0, 0x0⟩,
  ⟨0x4, 16, 32, .plain, 0x0, 0xffffffff, 0x0, 0x0, 0x0⟩,
  ⟨0x8, 16, 32, .plain, 0x0, 0x3f1f, 0x0, 0x0, 0x0⟩,
  ⟨0xc, 16, 32, .plain, 0x0, 0x0, 0x0, 0x0, 0x0⟩,
  ⟨0x200, 4, 1, .plain, 0x0, 0x10, 0x0, 0x0, 0x0⟩,
  ⟨0x204, 4, 1, .plain, 0x0, 0x0, 0x0, 0x0, 0x1⟩,
  ⟨0x208, 4, 1, .plain, 0x0, 0x0, 0x2, 0x0, 0x0⟩,
  ⟨0x20c, 4, 1, .plain, 0x80000000, 0x0, 0x0, 0x0, 0x0⟩,
  ⟨0x210, 4, 1, .plain, 0x0, 0x0, 0x0, 0x0, 0x0⟩,
  ⟨0x214, 4, 1, .plain, 0x0, 0x0, 0x0, 0x0, 0x0⟩,
  ⟨0x218, 4, 1, .plain, 0x0, 0x0, 0x80000000, 0x0, 0x0⟩,
  ⟨0x21c, 4, 1, .plain, 0x0, 0x0, 0x0, 0x0, 0x0⟩,
  ⟨0x220, 4, 1, .plain, 0x0, 0x0, 0x0, 0x0, 0x0⟩,
  ⟨0x228, 4, 1, .pair, 0x0, 0x0, 0x0, 0x0, 0x0⟩,
  ⟨0x230, 4, 1, .pair, 0x0, 0x0, 0x0, 0x0, 0x0⟩,
  ⟨0x240, 4, 2, .plain, 0xf, 0xf, 0x0, 0x0, 0x0⟩]

/-- The registers of block `tl` (06_gates Table 6-12). -/
def rows_tl : List RegRow := [
  ⟨0x0, 4, 1, .plain, 0x0, 0x7, 0x0, 0x0, 0x0⟩,
  ⟨0x1000, 32, 16, .plain, 0x0, 0xfffff000, 0x0, 0x0, 0x0⟩,
  ⟨0x1004, 32, 16, .plain, 0x0, 0xffffffff, 0x0, 0x0, 0x0⟩,
  ⟨0x1008, 32, 16, .plain, 0x30, 0x7f, 0x0, 0x0, 0x0⟩,
  ⟨0x100c, 32, 16, .plain, 0x0, 0x0, 0x0, 0x0, 0x0⟩,
  ⟨0x1010, 32, 16, .plain, 0x0, 0xffffff, 0x0, 0x0, 0x0⟩,
  ⟨0x1018, 32, 16, .pair, 0x0, 0x0, 0x0, 0x0, 0x0⟩]

/-- The registers of block `sc` (12_guards Table 12-8). -/
def rows_sc : List RegRow := [
  ⟨0x0, 4, 1, .plain, 0x0, 0x0, 0x0, 0x0, 0x0⟩,
  ⟨0x4, 4, 1, .plain, 0x0, 0x0, 0x0, 0x7f, 0x0⟩,
  ⟨0x8, 4, 1, .plain, 0x0, 0x1, 0x0, 0x0, 0x0⟩,
  ⟨0x10, 4, 1, .plain, 0x0, 0x0, 0x80000000, 0x0, 0x0⟩,
  ⟨0x14, 4, 1, .plain, 0x0, 0x0, 0x0, 0x0, 0x0⟩,
  ⟨0x18, 4, 1, .pair, 0x0, 0x0, 0x0, 0x0, 0x0⟩]

/-- The registers of block `pt` (17_register_map Table 17-4). -/
def rows_pt : List RegRow := [
  ⟨0x100, 4, 1, .plain, 0x0, 0xffff, 0x0, 0x0, 0x0⟩,
  ⟨0x104, 4, 1, .plain, 0x0, 0xffff, 0x0, 0x0, 0x0⟩,
  ⟨0x110, 4, 8, .plain, 0x0, 0xffffffff, 0x0, 0x0, 0x0⟩,
  ⟨0x800, 4, 8, .plain, 0x0, 0x1f, 0x0, 0x0, 0x0⟩,
  ⟨0x820, 4, 8, .plain, 0x0, 0xffffff, 0x0, 0x0, 0x0⟩,
  ⟨0x840, 4, 8, .plain, 0x0, 0x0, 0x0, 0x0, 0x0⟩,
  ⟨0x2000, 8, 1024, .plain, 0x0, 0x3fffff, 0x0, 0x0, 0x0⟩,
  ⟨0x2004, 8, 1024, .plain, 0x0, 0x1ff, 0x0, 0x0, 0x0⟩,
  ⟨0x5e00, 4, 1, .plain, 0x2710, 0x7fffff, 0x0, 0x0, 0x0⟩,
  ⟨0x5f18, 4, 1, .pair, 0x0, 0x0, 0x0, 0x0, 0x0⟩,
  ⟨0x9000, 16, 16, .pair, 0x0, 0x0, 0x0, 0x0, 0x0⟩,
  ⟨0x9008, 16, 16, .pair, 0x0, 0x0, 0x0, 0x0, 0x0⟩,
  ⟨0xc000, 4, 2048, .plain, 0x0, 0x3fffffff, 0x0, 0x0, 0x0⟩]

/-- The registers of block `sched` (06_gates Table 6-10). -/
def rows_sched : List RegRow := [
  ⟨0x0, 4, 1, .plain, 0xff00, 0xff01, 0x0, 0x0, 0x0⟩,
  ⟨0x4, 4, 1, .plain, 0xff00, 0x0, 0x60000, 0x0, 0x0⟩,
  ⟨0x8, 4, 1, .plain, 0x0, 0xffffffff, 0x0, 0x0, 0x0⟩,
  ⟨0xc, 4, 1, .plain, 0x0, 0xffffffff, 0x0, 0x0, 0x0⟩,
  ⟨0x10, 4, 1, .plain, 0x18, 0x0, 0x0, 0x0, 0x0⟩,
  ⟨0x14, 4, 1, .plain, 0x1060, 0x1fff, 0x0, 0x0, 0x0⟩,
  ⟨0x18, 4, 1, .plain, 0x10101010, 0xffffffff, 0x0, 0x0, 0x0⟩,
  ⟨0x1c, 4, 1, .plain, 0x1010, 0xffff, 0x0, 0x0, 0x0⟩,
  ⟨0x20, 4, 1, .plain, 0x28, 0xf7f, 0x0, 0x0, 0x0⟩,
  ⟨0x24, 4, 1, .plain, 0x0, 0x3fffff, 0x0, 0x0, 0x0⟩,
  ⟨0x28, 4, 1, .plain, 0x400004, 0xff00ff, 0x0, 0x0, 0x0⟩,
  ⟨0x40, 16, 8, .plain, 0x4000000, 0xffffff01, 0x0, 0x0, 0x0⟩,
  ⟨0x44, 16, 8, .plain, 0x0, 0xfffff, 0x0, 0x0, 0x0⟩,
  ⟨0x48, 16, 8, .plain, 0x0, 0xffffff, 0x0, 0x0, 0x0⟩,
  ⟨0x4c, 16, 8, .plain, 0x0, 0x0, 0x0, 0x0, 0x0⟩,
  ⟨0xc0, 4, 8, .plain, 0x0, 0x0, 0x0, 0x0, 0x0⟩,
  ⟨0xe0, 4, 1, .pair, 0x0, 0x0, 0x0, 0x0, 0x0⟩,
  ⟨0xe8, 4, 1, .pair, 0x0, 0x0, 0x0, 0x0, 0x0⟩,
  ⟨0xf0, 4, 1, .pair, 0x0, 0x0, 0x0, 0x0, 0x0⟩]

/-- The registers of block `str` (06_gates Table 6-11 (base by unit)). -/
def rows_str : List RegRow := [
  ⟨0x0, 4, 1, .plain, 0x0, 0xfffff000, 0x0, 0x0, 0x0⟩,
  ⟨0x4, 4, 1, .plain, 0x0, 0xffffffff, 0x0, 0x0, 0x0⟩,
  ⟨0x8, 4, 1, .plain, 0x0, 0xffffff7f, 0x0, 0x0, 0x0⟩,
  ⟨0xc, 4, 1, .plain, 0x0, 0xffffff, 0x0, 0x0, 0x0⟩,
  ⟨0x10, 4, 1, .plain, 0x0, 0xfffff000, 0x0, 0x0, 0x0⟩,
  ⟨0x14, 4, 1, .plain, 0x0, 0xffffffff, 0x0, 0x0, 0x0⟩,
  ⟨0x18, 4, 1, .plain, 0x0, 0x3fffff, 0x0, 0x0, 0x0⟩,
  ⟨0x1c, 4, 1, .plain, 0x0, 0x3fffff, 0x0, 0x0, 0x0⟩,
  ⟨0x20, 4, 1, .plain, 0x0, 0x7fff, 0x0, 0x0, 0x0⟩,
  ⟨0x24, 4, 1, .plain, 0x0, 0x0, 0x0, 0x0, 0x0⟩,
  ⟨0x28, 4, 1, .pair, 0x0, 0x0, 0x0, 0x0, 0x0⟩]

/-- The bindings of a cascade engine: BASE, DEST, XLAT and PORT_MASK are reserved (R171). -/
def rows_bind : List RegRow := [
  ⟨0x0, 4, 1, .plain, 0x0, 0x0, 0x0, 0x0, 0x0⟩,
  ⟨0x4, 4, 1, .plain, 0x0, 0x0, 0x0, 0x0, 0x0⟩,
  ⟨0x8, 4, 1, .plain, 0x0, 0xff00ff7f, 0x0, 0x0, 0x0⟩,
  ⟨0xc, 4, 1, .plain, 0x0, 0x0, 0x0, 0x0, 0x0⟩,
  ⟨0x10, 4, 1, .plain, 0x0, 0x0, 0x0, 0x0, 0x0⟩,
  ⟨0x14, 4, 1, .plain, 0x0, 0x0, 0x0, 0x0, 0x0⟩,
  ⟨0x18, 4, 1, .plain, 0x0, 0x3fffff, 0x0, 0x0, 0x0⟩,
  ⟨0x1c, 4, 1, .plain, 0x0, 0x3fffff, 0x0, 0x0, 0x0⟩,
  ⟨0x20, 4, 1, .plain, 0x0, 0x3ff7fff, 0x0, 0x0, 0x0⟩,
  ⟨0x24, 4, 1, .plain, 0x0, 0x0, 0x0, 0x0, 0x0⟩,
  ⟨0x28, 4, 1, .pair, 0x0, 0x0, 0x0, 0x0, 0x0⟩]

/-- The registers of block `plume` (17_register_map Table 17-8 (base by tile, group)). -/
def rows_plume : List RegRow := [
  ⟨0x0, 4, 1, .plain, 0x0, 0x3f, 0x0, 0x0, 0x0⟩,
  ⟨0x4, 4, 1, .plain, 0x0, 0x0, 0x0, 0x0, 0x0⟩,
  ⟨0x8, 4, 1, .plain, 0x0, 0xffffffff, 0x0, 0x0, 0x0⟩,
  ⟨0xc, 4, 1, .plain, 0x0, 0xffffffff, 0x0, 0x0, 0x0⟩,
  ⟨0x10, 4, 28, .plain, 0x0, 0xfffffff, 0x0, 0x0, 0x0⟩]

/-- The registers of block `elim` (05_fabric Table 5-10 (base by tile)). -/
def rows_elim : List RegRow := [
  ⟨0x0, 4, 1, .pair, 0x0, 0x0, 0x0, 0x0, 0x0⟩,
  ⟨0x8, 4, 1, .pair, 0x0, 0x0, 0x0, 0x0, 0x0⟩,
  ⟨0x10, 4, 1, .pair, 0x0, 0x0, 0x0, 0x0, 0x0⟩,
  ⟨0x20, 4, 1, .pair, 0x0, 0x0, 0x0, 0x0, 0x0⟩,
  ⟨0x28, 4, 1, .pair, 0x0, 0x0, 0x0, 0x0, 0x0⟩,
  ⟨0x100, 8, 1024, .plain, 0x0, 0xffff, 0x0, 0x0, 0x0⟩,
  ⟨0x104, 8, 1024, .plain, 0x1, 0x0, 0x0, 0x0, 0x0⟩]

/-- The registers of block `lnk` (09_runnel Table 9-14). -/
def rows_lnk_0 : List RegRow := [
  ⟨0x0, 4, 1, .plain, 0x1c, 0x3d, 0x0, 0x2, 0x0⟩,
  ⟨0x4, 4, 1, .plain, 0x0, 0x0, 0x0, 0x0, 0x0⟩,
  ⟨0x8, 4, 1, .plain, 0x2, 0x7f, 0x0, 0x0, 0x0⟩,
  ⟨0xc, 4, 1, .plain, 0x64, 0x3fff, 0x0, 0x0, 0x0⟩,
  ⟨0x10, 4, 1, .plain, 0x140040, 0x1fffff, 0x0, 0x0, 0x0⟩,
  ⟨0x14, 4, 1, .plain, 0x4007d0, 0xffffff, 0x0, 0x0, 0x0⟩,
  ⟨0x18, 4, 1, .plain, 0x0, 0x0, 0x0, 0x0, 0x0⟩,
  ⟨0x1c, 4, 1, .plain, 0x0, 0x0, 0x0, 0x0, 0x0⟩,
  ⟨0x20, 4, 1, .plain, 0x3203e8, 0x1ff3fff, 0x0, 0x0, 0x0⟩,
  ⟨0x24, 4, 1, .plain, 0x0, 0xffff07ff, 0x0, 0x0, 0x0⟩,
  ⟨0x28, 4, 1, .plain, 0x0, 0xfff, 0x0, 0x0, 0x0⟩,
  ⟨0x2c, 4, 1, .plain, 0x0, 0x7ff0000, 0x0, 0x0, 0x0⟩,
  ⟨0x40, 4, 3, .plain, 0x0, 0xfff1fff, 0x0, 0x0, 0x0⟩,
  ⟨0x4c, 4, 2, .plain, 0x0, 0x1fff, 0x0, 0x0, 0x0⟩,
  ⟨0x60, 4, 5, .plain, 0x0, 0x0, 0x0, 0x0, 0x0⟩,
  ⟨0x80, 4, 1, .plain, 0x0, 0x0, 0x0, 0x0, 0x0⟩,
  ⟨0x84, 4, 1, .plain, 0x0, 0x0, 0x0, 0x0, 0x0⟩,
  ⟨0x88, 4, 1, .plain, 0x0, 0x0, 0x0, 0x0, 0x0⟩,
  ⟨0x8c, 4, 1, .plain, 0x0, 0x0, 0x0, 0x0, 0x0⟩,
  ⟨0x90, 4, 1, .plain, 0x140000, 0xffffff, 0x0, 0x0, 0x0⟩,
  ⟨0x94, 4, 1, .plain, 0x180400, 0x1fffff, 0x0, 0x0, 0x0⟩,
  ⟨0x98, 4, 1, .plain, 0x0, 0x0, 0xfff, 0x0, 0x0⟩,
  ⟨0x9c, 4, 1, .plain, 0x0, 0xfff, 0x0, 0x0, 0x0⟩,
  ⟨0x100, 4, 1, .pair, 0x0, 0x0, 0x0, 0x0, 0x0⟩,
  ⟨0x108, 4, 1, .pair, 0x0, 0x0, 0x0, 0x0, 0x0⟩,
  ⟨0x110, 4, 1, .pair, 0x0, 0x0, 0x0, 0x0, 0x0⟩,
  ⟨0x118, 4, 1, .pair, 0x0, 0x0, 0x0, 0x0, 0x0⟩,
  ⟨0x120, 4, 1, .pair, 0x0, 0x0, 0x0, 0x0, 0x0⟩,
  ⟨0x128, 4, 1, .pair, 0x0, 0x0, 0x0, 0x0, 0x0⟩,
  ⟨0x130, 4, 1, .pair, 0x0, 0x0, 0x0, 0x0, 0x0⟩,
  ⟨0x138, 4, 1, .pair, 0x0, 0x0, 0x0, 0x0, 0x0⟩,
  ⟨0x140, 4, 1, .pair, 0x0, 0x0, 0x0, 0x0, 0x0⟩,
  ⟨0x148, 4, 1, .pair, 0x0, 0x0, 0x0, 0x0, 0x0⟩,
  ⟨0x150, 4, 1, .pair, 0x0, 0x0, 0x0, 0x0, 0x0⟩,
  ⟨0x158, 4, 1, .pair, 0x0, 0x0, 0x0, 0x0, 0x0⟩,
  ⟨0x160, 4, 1, .pair, 0x0, 0x0, 0x0, 0x0, 0x0⟩,
  ⟨0x168, 4, 1, .pair, 0x0, 0x0, 0x0, 0x0, 0x0⟩,
  ⟨0x170, 4, 1, .pair, 0x0, 0x0, 0x0, 0x0, 0x0⟩,
  ⟨0x178, 4, 1, .pair, 0x0, 0x0, 0x0, 0x0, 0x0⟩,
  ⟨0x180, 4, 1, .pair, 0x0, 0x0, 0x0, 0x0, 0x0⟩,
  ⟨0x188, 4, 1, .pair, 0x0, 0x0, 0x0, 0x0, 0x0⟩]

/-- The registers of block `lnk` (09_runnel Table 9-14). -/
def rows_lnk_1 : List RegRow := [
  ⟨0x190, 4, 1, .pair, 0x0, 0x0, 0x0, 0x0, 0x0⟩,
  ⟨0x198, 4, 1, .pair, 0x0, 0x0, 0x0, 0x0, 0x0⟩,
  ⟨0x1a0, 4, 1, .pair, 0x0, 0x0, 0x0, 0x0, 0x0⟩,
  ⟨0x1a8, 4, 1, .pair, 0x0, 0x0, 0x0, 0x0, 0x0⟩]

def rows_lnk : List RegRow := rows_lnk_0 ++ rows_lnk_1

/-- The registers of block `pcfg` (10_pcie Table 10-8). -/
def rows_pcfg : List RegRow := [
  ⟨0x0, 4, 1, .plain, 0xe, 0x1f07ff, 0x0, 0x0, 0x0⟩,
  ⟨0x4, 4, 1, .plain, 0x0, 0xffff, 0x0, 0x0, 0x0⟩,
  ⟨0xc, 4, 1, .plain, 0x2710, 0x3fffff, 0x0, 0x0, 0x0⟩,
  ⟨0x10, 4, 1, .plain, 0x0, 0x0, 0x0, 0x0, 0x0⟩,
  ⟨0x14, 4, 1, .plain, 0x0, 0x0, 0x0, 0x0, 0x0⟩,
  ⟨0x18, 4, 1, .plain, 0x0, 0xfffff000, 0x0, 0x0, 0x0⟩,
  ⟨0x1c, 4, 1, .plain, 0x0, 0xffffffff, 0x0, 0x0, 0x0⟩,
  ⟨0x20, 4, 1, .plain, 0x0, 0x7f, 0x0, 0x0, 0x0⟩,
  ⟨0x40, 4, 1, .pair, 0x0, 0x0, 0x0, 0x0, 0x0⟩,
  ⟨0x48, 4, 1, .pair, 0x0, 0x0, 0x0, 0x0, 0x0⟩,
  ⟨0x50, 4, 1, .pair, 0x0, 0x0, 0x0, 0x0, 0x0⟩,
  ⟨0x58, 4, 1, .pair, 0x0, 0x0, 0x0, 0x0, 0x0⟩,
  ⟨0x60, 4, 1, .pair, 0x0, 0x0, 0x0, 0x0, 0x0⟩,
  ⟨0x68, 4, 1, .pair, 0x0, 0x0, 0x0, 0x0, 0x0⟩,
  ⟨0x70, 4, 1, .pair, 0x0, 0x0, 0x0, 0x0, 0x0⟩]

/-- The registers of block `rt` (04_die Tables 4-9..4-11). -/
def rows_rt : List RegRow := [
  ⟨0x0, 4, 1, .plain, 0x0, 0x0, 0x0, 0x0, 0x0⟩,
  ⟨0x4, 4, 1, .plain, 0x3, 0x1f, 0x0, 0x0, 0x0⟩,
  ⟨0x8, 4, 1, .plain, 0x0, 0x1f, 0x0, 0x0, 0x0⟩,
  ⟨0xc, 4, 1, .plain, 0x0, 0x0, 0x0, 0x0, 0x0⟩,
  ⟨0x10, 4, 1, .plain, 0x0, 0x0, 0xf, 0x0, 0x0⟩,
  ⟨0x18, 4, 1, .pair, 0x0, 0x0, 0x0, 0x0, 0x0⟩,
  ⟨0x100, 8, 5, .pair, 0x0, 0x0, 0x0, 0x0, 0x0⟩]

/-- The registers of block `ct` (07_cistern Table 7-11). -/
def rows_ct : List RegRow := [
  ⟨0x0, 4, 1, .plain, 0x10000, 0x0, 0x0, 0x0, 0x0⟩,
  ⟨0x4, 4, 1, .plain, 0x21, 0x3f, 0x0, 0x0, 0x0⟩,
  ⟨0x8, 4, 1, .plain, 0x4, 0xf, 0x0, 0x0, 0x0⟩,
  ⟨0xc, 4, 1, .plain, 0x0, 0x0, 0x1f, 0x0, 0x0⟩,
  ⟨0x10, 4, 1, .plain, 0x0, 0x0, 0x0, 0x0, 0x0⟩,
  ⟨0x14, 4, 1, .plain, 0x0, 0x0, 0x0, 0x1, 0x0⟩,
  ⟨0x18, 4, 1, .pair, 0x0, 0x0, 0x0, 0x0, 0x0⟩,
  ⟨0x20, 4, 1, .pair, 0x0, 0x0, 0x0, 0x0, 0x0⟩,
  ⟨0x28, 4, 1, .pair, 0x0, 0x0, 0x0, 0x0, 0x0⟩,
  ⟨0x30, 4, 1, .pair, 0x0, 0x0, 0x0, 0x0, 0x0⟩,
  ⟨0x38, 4, 1, .pair, 0x0, 0x0, 0x0, 0x0, 0x0⟩]

/-- The registers of block `ctc` (07_cistern Tables 7-12, 7-13). -/
def rows_ctc : List RegRow := [
  ⟨0x0, 16, 32, .plain, 0x0, 0x7ff0000, 0x0, 0x0, 0x0⟩,
  ⟨0x4, 16, 32, .plain, 0x0, 0x7ff, 0x0, 0x0, 0x0⟩,
  ⟨0x8, 16, 32, .plain, 0x0, 0x1ff, 0x0, 0x200, 0x0⟩,
  ⟨0xc, 16, 32, .plain, 0x0, 0x0, 0x0, 0x0, 0x0⟩,
  ⟨0x200, 4, 1, .pair, 0x0, 0x0, 0x0, 0x0, 0x0⟩,
  ⟨0x210, 4, 1, .plain, 0x8, 0xf, 0x0, 0x0, 0x0⟩,
  ⟨0x300, 4, 2, .plain, 0x0, 0x0, 0xffffffff, 0x0, 0x0⟩,
  ⟨0x308, 4, 1, .plain, 0x0, 0xffffffff, 0x0, 0x0, 0x0⟩,
  ⟨0x30c, 4, 1, .plain, 0x0, 0xffffffff, 0x0, 0x0, 0x0⟩,
  ⟨0x400, 32, 64, .plain, 0x0, 0xffff000, 0x0, 0x0, 0x0⟩,
  ⟨0x404, 32, 64, .plain, 0x60, 0xff, 0x0, 0x0, 0x0⟩,
  ⟨0x408, 32, 64, .plain, 0xe4, 0x0, 0x0, 0x0, 0x0⟩,
  ⟨0x40c, 32, 64, .plain, 0x0, 0x0, 0x0, 0x0, 0x0⟩,
  ⟨0x410, 32, 64, .plain, 0x0, 0x0, 0x0, 0x0, 0x0⟩,
  ⟨0x414, 32, 64, .cntLo, 0x0, 0x0, 0x0, 0x0, 0x0⟩,
  ⟨0x418, 32, 64, .cntLo, 0x0, 0x0, 0x0, 0x0, 0x0⟩,
  ⟨0xc00, 8, 64, .cntHi, 0x0, 0x0, 0x0, 0x0, 0x0⟩,
  ⟨0xc04, 8, 64, .cntHi, 0x0, 0x0, 0x0, 0x0, 0x0⟩]

/-- The registers of block `kt` (07_cistern Table 7-14). -/
def rows_kt : List RegRow := [
  ⟨0x5e00, 4, 1, .plain, 0x2710, 0x7fffff, 0x0, 0x0, 0x0⟩,
  ⟨0x8000, 4, 1, .plain, 0x0, 0x7, 0x0, 0x0, 0x0⟩,
  ⟨0x8004, 4, 1, .plain, 0x0, 0x0, 0x0, 0x0, 0x0⟩,
  ⟨0x8008, 4, 1, .plain, 0x0, 0x0, 0x7, 0x0, 0x0⟩,
  ⟨0x8400, 16, 64, .plain, 0x2000000, 0x1fffffff, 0x0, 0x0, 0x0⟩,
  ⟨0x8404, 16, 64, .plain, 0x0, 0x3ffff, 0x0, 0x0, 0x0⟩,
  ⟨0x8408, 16, 64, .plain, 0x0, 0x0, 0x0, 0x0, 0x0⟩,
  ⟨0x8800, 64, 8, .plain, 0x0, 0x7ffffff, 0x0, 0x0, 0x0⟩,
  ⟨0x8804, 64, 8, .plain, 0x0, 0x3fffff, 0x0, 0x0, 0x0⟩,
  ⟨0x8808, 64, 8, .plain, 0x0, 0x3fffff, 0x0, 0x0, 0x0⟩,
  ⟨0x880c, 64, 8, .plain, 0x0, 0x3fffff, 0x0, 0x0, 0x0⟩,
  ⟨0x8810, 64, 8, .plain, 0x0, 0x0, 0x0, 0x0, 0x0⟩,
  ⟨0x8818, 64, 8, .plain, 0x0, 0x0, 0x0, 0x0, 0x0⟩,
  ⟨0x881c, 64, 8, .plain, 0x0, 0x0, 0x0, 0x0, 0x0⟩,
  ⟨0x8c00, 4, 1, .pair, 0x0, 0x0, 0x0, 0x0, 0x0⟩,
  ⟨0x8c08, 4, 1, .pair, 0x0, 0x0, 0x0, 0x0, 0x0⟩,
  ⟨0x8c10, 4, 1, .pair, 0x0, 0x0, 0x0, 0x0, 0x0⟩,
  ⟨0x8c18, 4, 1, .pair, 0x0, 0x0, 0x0, 0x0, 0x0⟩,
  ⟨0x8c20, 4, 1, .pair, 0x0, 0x0, 0x0, 0x0, 0x0⟩,
  ⟨0x8c28, 4, 1, .pair, 0x0, 0x0, 0x0, 0x0, 0x0⟩]

/-- The registers of block `rte` (05_fabric Tables 5-2, 5-8). -/
def rows_rte : List RegRow := [
  ⟨0x0, 4, 1, .plain, 0x0, 0x7, 0x0, 0x0, 0x0⟩,
  ⟨0x4, 4, 1, .plain, 0x0, 0xff00, 0x0, 0x0, 0x0⟩,
  ⟨0x8, 4, 1, .plain, 0x12, 0x0, 0x0, 0x0, 0x0⟩,
  ⟨0x10, 4, 1, .plain, 0x4e20, 0xffffff, 0x0, 0x0, 0x0⟩,
  ⟨0x14, 4, 1, .plain, 0x3e8, 0xfffff, 0x0, 0x0, 0x0⟩,
  ⟨0x18, 4, 1, .plain, 0xa, 0xff, 0x0, 0x0, 0x0⟩,
  ⟨0x20, 4, 2, .plain, 0x0, 0x0, 0x0, 0x0, 0x0⟩,
  ⟨0x30, 8, 2, .pair, 0x0, 0x0, 0x0, 0x0, 0x0⟩,
  ⟨0x40, 4, 1, .pair, 0x0, 0x0, 0x0, 0x0, 0x0⟩,
  ⟨0x48, 4, 1, .pair, 0x0, 0x0, 0x0, 0x0, 0x0⟩,
  ⟨0x50, 4, 1, .pair, 0x0, 0x0, 0x0, 0x0, 0x0⟩,
  ⟨0x58, 4, 1, .pair, 0x0, 0x0, 0x0, 0x0, 0x0⟩,
  ⟨0x8000, 4, 8192, .plain, 0x0, 0x3ffffff, 0x0, 0x0, 0x0⟩,
  ⟨0x10000, 4, 2048, .plain, 0x0, 0xffffffff, 0x0, 0x0, 0x0⟩]

/-- The registers of block `bsn` (11_basins Table 11-6). -/
def rows_bsn : List RegRow := [
  ⟨0x0, 4, 1, .plain, 0x0, 0x0, 0x0, 0x0, 0x0⟩,
  ⟨0x4, 4, 1, .plain, 0x0, 0x0, 0x0, 0x0, 0x0⟩,
  ⟨0x8, 4, 1, .plain, 0x0, 0x0, 0x0, 0x0, 0x0⟩,
  ⟨0xc, 4, 1, .plain, 0x0, 0x0, 0x0, 0x0, 0x0⟩,
  ⟨0x20, 4, 1, .plain, 0x0, 0x0, 0x0, 0x0, 0x0⟩,
  ⟨0x24, 4, 1, .plain, 0x0, 0x0, 0x0, 0x0, 0x0⟩,
  ⟨0x40, 16, 8, .plain, 0x0, 0x0, 0x0, 0x0, 0x0⟩,
  ⟨0x44, 16, 8, .plain, 0x0, 0x0, 0x0, 0x0, 0x0⟩,
  ⟨0x48, 16, 8, .plain, 0x0, 0x0, 0x0, 0x0, 0x0⟩,
  ⟨0x4c, 16, 8, .plain, 0x0, 0x0, 0x0, 0x0, 0x0⟩,
  ⟨0x100, 16, 8, .plain, 0x0, 0x0, 0x0, 0x0, 0x0⟩,
  ⟨0x104, 16, 8, .plain, 0x0, 0x0, 0x0, 0x0, 0x0⟩,
  ⟨0x108, 16, 8, .plain, 0x0, 0x0, 0x0, 0x0, 0x0⟩,
  ⟨0x10c, 16, 8, .plain, 0x1, 0x1, 0x0, 0x0, 0x0⟩,
  ⟨0x200, 4, 1, .plain, 0x0, 0x0, 0x0, 0x0, 0x0⟩,
  ⟨0x204, 4, 1, .plain, 0x0, 0x0, 0x0, 0x0, 0x0⟩,
  ⟨0x208, 4, 1, .plain, 0x30, 0x0, 0x0, 0x0, 0x0⟩,
  ⟨0x20c, 4, 1, .plain, 0x0, 0x0, 0x0, 0x0, 0x0⟩,
  ⟨0x210, 4, 1, .plain, 0x0, 0x0, 0x0, 0x0, 0x0⟩,
  ⟨0x218, 4, 1, .pair, 0x0, 0x0, 0x0, 0x0, 0x0⟩,
  ⟨0x220, 4, 1, .pair, 0x0, 0x0, 0x0, 0x0, 0x0⟩,
  ⟨0x300, 4, 1, .pair, 0x0, 0x0, 0x0, 0x0, 0x0⟩,
  ⟨0x308, 4, 1, .pair, 0x0, 0x0, 0x0, 0x0, 0x0⟩,
  ⟨0x310, 4, 1, .pair, 0x0, 0x0, 0x0, 0x0, 0x0⟩,
  ⟨0x318, 4, 1, .pair, 0x0, 0x0, 0x0, 0x0, 0x0⟩]


/-! ### Tiles and their regions -/

/-- The tiles of CT0 to CT23 in order (Table 4-1). -/
def ctTiles : List Nat := [8, 10, 13, 14, 15, 16, 17, 18, 19, 20, 21, 22, 23, 25, 26, 28, 29, 30, 33, 34, 35, 37, 38, 40]
/-- The tiles of KT0 to KT11 in order (Table 4-1). -/
def ktTiles : List Nat := [41, 42, 43, 44, 45, 46, 47, 48, 49, 50, 53, 55]
/-- The tiles of TB0, TB1, WH, CX, SC and TL (Table 4-1). -/
def singleTiles : List Nat := [9, 54, 11, 12, 51, 52]
/-- The pass tiles (Table 0-3). -/
def passTiles : List Nat := [24, 27, 31, 32, 36, 39]
/-- The port tile of cluster `c` (R101). -/
def ptTile (c : Nat) : Nat := if c < 8 then c else 48 + c
def ctTile (b : Nat) : Nat := ctTiles.getD b 0
def ktTile (e : Nat) : Nat := ktTiles.getD e 0
def whTile : Nat := 11
def cxTile : Nat := 12
def tlTile : Nat := 52

/-- What stands at a tile position (Table 4-1). -/
inductive TileUnit where
  | pt (c : Nat) | ct (b : Nat) | kt (e : Nat) | single (j : Nat) | pass
  deriving DecidableEq, Repr

def tileUnit (t : Nat) : TileUnit :=
  if t < 8 then .pt t
  else if 56 ≤ t then .pt (t - 48)
  else match ctTiles.findIdx? (· == t) with
    | some b => .ct b
    | none => match ktTiles.findIdx? (· == t) with
      | some e => .kt e
      | none => match singleTiles.findIdx? (· == t) with
        | some j => .single j
        | none => .pass

/-- The 58 tiles that hold a network interface (R17). -/
def niTiles : List Nat := (List.range 64).filter (fun t => !passTiles.contains t)

def ptBase (c : Nat) : Nat := 0x100000 + c * 0x10000
def ctBase (b : Nat) : Nat := 0x300000 + b * 0x8000
def ktBase (e : Nat) : Nat := 0x400000 + e * 0x10000

/-- Base of the NI common block of tile `t` (R442). -/
def niBase (t : Nat) : Nat :=
  match tileUnit t with
  | .pt c => ptBase c + 0x5C00
  | .ct b => ctBase b + 0x5C00
  | .kt e => ktBase e + 0x5C00
  | .single j => 0x3400 + j * 0x100
  | .pass => 0

/-- Base of the elimination counters of a PT, CT or KT tile (Table 5-10); 0 where the tile has none. -/
def elimBase (t : Nat) : Nat :=
  match tileUnit t with
  | .pt c => ptBase c + 0x5F00
  | .ct b => ctBase b + 0x5F00
  | .kt e => ktBase e + 0x5F00
  | _ => 0

/-- Base of plume group `g` of a PT, CT or KT tile (R443). -/
def plumeBase (t g : Nat) : Nat :=
  match tileUnit t with
  | .pt c => ptBase c + 0x5800 + g * 0x80
  | .ct b => ctBase b + 0x5800 + g * 0x80
  | .kt e => ktBase e + 0x5800 + g * 0x80
  | _ => 0

/-- Base of window `n` of a requester tile (R441). -/
def winBase (t n : Nat) : Nat :=
  match tileUnit t with
  | .pt c => ptBase c + 0xE000 + n * 0x20
  | .kt e => ktBase e + 0xE000 + n * 0x20
  | _ => 0x31000 + n * 0x20

/-- Number of windows a requester tile has (R87). -/
def winCount (t : Nat) : Nat :=
  match tileUnit t with
  | .pt _ => 128
  | .kt _ => 64
  | .single 2 => 64
  | _ => 0

/-- Base of stream window `w` of a PT or KT tile (Tables 17-4, 17-6). -/
def strBase (t w : Nat) : Nat :=
  match tileUnit t with
  | .pt c => ptBase c + 0x4800 + w * 0x40
  | .kt e => ktBase e + 0x4800 + w * 0x40
  | _ => 0

def strCount (t : Nat) : Nat :=
  match tileUnit t with
  | .pt _ => 64
  | .kt _ => 16
  | _ => 0

/-! ### Power domains of registers (Table 17-1) -/

/-- Domain numbers: 0 to 15 PD_PT, 16 to 39 PD_CT, 40 to 51 PD_KT, 52 to 55 PD_PA, 56 to 59 PD_PB,
60 PD_WH, 61 PD_TL, 62 PD_CORE (Table 0-3 in the order of PW_DOMd); 63 stands for PD_AO. -/
def domCore : Nat := 62
def domAO : Nat := 63

/-- The quadrant of tile `t` (R102). -/
def quadrant (t : Nat) : Nat := (t % 8) / 4 + 2 * (t / 32)

/-- The domain of the NI at tile `t` (Table 1-1). -/
def tileDomain (t : Nat) : Nat :=
  match tileUnit t with
  | .pt c => c
  | .ct b => 16 + b
  | .kt e => 40 + e
  | .single 2 => 60
  | .single 5 => 61
  | _ => domCore

/-- The domain of the unit that guard `n` serves (Table 17-1). -/
def guardDomain (n : Nat) : Nat :=
  if n < 16 then n else if n < 28 then 40 + (n - 16) else if n = 28 then 60 else domCore

/-- Link stages of the mesh link from tile `t` in direction `d`; 0 where the grid has no link (Table 4-2). -/
def linkStages (t d : Nat) : Nat :=
  let x := t % 8
  let y := t / 8
  let nb : Option Nat :=
    if d = 0 then (if y = 0 then none else some (t - 8))
    else if d = 1 then (if x = 7 then none else some (t + 1))
    else if d = 2 then (if y = 7 then none else some (t + 8))
    else if d = 3 then (if x = 0 then none else some (t - 1))
    else none
  match nb with
  | none => 0
  | some u =>
    if passTiles.contains t || passTiles.contains u then 3
    else if (d = 1 || d = 3) && (y = 0 || y = 7) then 2
    else if (d = 0 || d = 2) && (y = 0 || y = 7 || u / 8 = 0 || u / 8 = 7) then 2
    else 1

/-! ### Decode of an offset -/

/-- A decoded offset: the rows of its block, the offset in the block and the power domain (R434). -/
structure RegPlace where
  rows : List RegRow
  rel  : Nat
  dom  : Nat
  deriving DecidableEq, Repr

/-- Rows of the NI common block without the entries Table 17-7 marks absent for the tile's kind. -/
def niRows (t : Nat) : List RegRow :=
  match tileUnit t with
  | .pt _ => rows_ni
  | .kt _ => rows_ni.filter (fun r => r.off != 0x38)
  | .single 2 => rows_ni.filter (fun r => r.off != 0x38)
  | .single 3 => rows_ni.filter (fun r => r.off != 0x38 && r.off != 0x28)
  | _ => rows_ni.filter (fun r => r.off < 0x28)

def decodeGlb (o : Nat) : RegPlace :=
  if 0x3400 ≤ o ∧ o < 0x3A00 then
    let j := (o - 0x3400) / 0x100
    let t := singleTiles.getD j 9
    ⟨niRows t, (o - 0x3400) % 0x100, tileDomain t⟩
  else if 0x1010 ≤ o ∧ o < 0x11E0 then ⟨rows_hpart, o % 0x10, domCore⟩
  else if 0x2000 ≤ o ∧ o < 0x3000 then ⟨rows_slot, (o - 0x2000) % 0x40, domCore⟩
  else if 0x1000 ≤ o ∧ o < 0x3000 then ⟨[], 0, domCore⟩
  else ⟨rows_glb, o, domCore⟩

/-- The part of a PT, CT or KT region that every such tile lays out alike: plumes, NI common block,
elimination counters and entries. -/
def decodeTileCommon (t o : Nat) (elimRows : List RegRow) (dom : Nat) (rest : RegPlace) : RegPlace :=
  if 0x5800 ≤ o ∧ o < 0x5C00 then ⟨rows_plume, (o - 0x5800) % 0x80, dom⟩
  else if 0x5C00 ≤ o ∧ o < 0x5D00 then ⟨niRows t, o - 0x5C00, dom⟩
  else if 0x5F00 ≤ o ∧ o < 0x6000 ∧ o ≠ 0x5F18 ∧ o ≠ 0x5F1C then ⟨elimRows, o - 0x5F00, dom⟩
  else if 0x6000 ≤ o ∧ o < 0x8000 then ⟨elimRows, o - 0x5F00, dom⟩
  else rest

def decodePt (c o : Nat) : RegPlace :=
  let rest : RegPlace :=
    if 0x4000 ≤ o ∧ o < 0x4800 then ⟨rows_sched, (o - 0x4000) % 0x100, c⟩
    else if 0x4800 ≤ o ∧ o < 0x5800 then ⟨rows_str, (o - 0x4800) % 0x40, c⟩
    else if 0x8000 ≤ o ∧ o < 0x9000 then ⟨rows_lnk, (o - 0x8000) % 0x200, c⟩
    else if 0xA000 ≤ o ∧ o < 0xA800 then ⟨rows_pcfg, (o - 0xA000) % 0x100, c⟩
    else if 0xE000 ≤ o ∧ o < 0xF000 then ⟨rows_win, (o - 0xE000) % 0x20, c⟩
    else ⟨rows_pt, o, c⟩
  decodeTileCommon (ptTile c) o rows_elim c rest

def decodeKt (e o : Nat) : RegPlace :=
  let rest : RegPlace :=
    if 0x4800 ≤ o ∧ o < 0x4C00 then ⟨rows_bind, (o - 0x4800) % 0x40, 40 + e⟩
    else if 0xE000 ≤ o ∧ o < 0xE800 then ⟨rows_winNative, (o - 0xE000) % 0x20, 40 + e⟩
    else ⟨rows_kt, o, 40 + e⟩
  decodeTileCommon (ktTile e) o rows_elim (40 + e) rest

/-- The block and relative offset of a block-window offset, by Table 17-1; `none` in every gap of R435. -/
def decodeOffset (off : Nat) : Option RegPlace :=
  if off % 4 ≠ 0 then none
  else if off < 0x10000 then some (decodeGlb off)
  else if off < 0x20000 then some ⟨rows_tm, off - 0x10000, domCore⟩
  else if off < 0x30000 then
    if 0x21000 ≤ off ∧ off < 0x21000 + 63 * 0x40 then some ⟨rows_pwdom, (off - 0x21000) % 0x40, domAO⟩
    else if off < 0x21000 then some ⟨rows_pw, off - 0x20000, domAO⟩
    else none
  else if off < 0x40000 then
    if 0x31000 ≤ off ∧ off < 0x31800 then some ⟨rows_winNative, (off - 0x31000) % 0x20, domCore⟩
    else some ⟨rows_cx, off - 0x30000, domCore⟩
  else if off < 0x48000 then some ⟨if off < 0x44000 then rows_mba else rows_mbb, (off - 0x40000) % 0x4000, domCore⟩
  else if off < 0x50000 then none
  else if off < 0x57800 then
    let n := (off - 0x50000) / 0x400
    some ⟨rows_gd, (off - 0x50000) % 0x400, guardDomain n⟩
  else if off < 0x60000 then none
  else if off < 0x70000 then some ⟨rows_tl, off - 0x60000, 61⟩
  else if off < 0x80000 then some ⟨rows_sc, off - 0x70000, domCore⟩
  else if off < 0x100000 then none
  else if off < 0x200000 then some (decodePt ((off - 0x100000) / 0x10000) (off % 0x10000))
  else if off < 0x300000 then
    let p := (off - 0x200000) / 0x80000
    let t := (off - 0x200000) % 0x80000 / 0x2000
    some ⟨rows_rt, off % 0x2000, (if p = 0 then 52 else 56) + quadrant t⟩
  else if off < 0x3C0000 then
    let b := (off - 0x300000) / 0x8000
    let o := (off - 0x300000) % 0x8000
    some (decodeTileCommon (ctTile b) o rows_elim (16 + b) ⟨rows_ct, o, 16 + b⟩)
  else if off < 0x3F0000 then none
  else if off < 0x3F0E00 then some ⟨rows_ctc, off - 0x3F0000, domCore⟩
  else if off < 0x400000 then none
  else if off < 0x4C0000 then some (decodeKt ((off - 0x400000) / 0x10000) (off % 0x10000))
  else if off < 0x500000 then none
  else if off < 0x512000 then some ⟨rows_rte, off - 0x500000, domCore⟩
  else if off < 0x600000 then none
  else if off < 0x700000 then some ⟨rows_bsn, (off - 0x600000) % 0x400, domCore⟩
  else none

/-- Does row `r` hold relative offset `rel`? A pair row holds its low and its high word. -/
def RegRow.holds (r : RegRow) (rel : Nat) : Bool :=
  if r.kind = .pair then
    let st := if r.count = 1 then 8 else r.stride
    r.off ≤ rel && rel < r.off + st * r.count && decide ((rel - r.off) % st = 0 ∨ (rel - r.off) % st = 4)
  else r.off ≤ rel && rel < r.off + r.stride * r.count && (rel - r.off) % r.stride == 0

/-- Is `rel` the high word of counter-pair row `r`? -/
def RegRow.isHi (r : RegRow) (rel : Nat) : Bool :=
  r.kind == .cntHi || (r.kind == .pair && (rel - r.off) % 8 == 4)

/-- The row of an offset, with the power domain; `none` where nothing occupies it (R13, R435). -/
def regRow (off : Nat) : Option (RegRow × Nat) :=
  match decodeOffset off with
  | none => none
  | some p => match p.rows.find? (·.holds p.rel) with
    | none => none
    | some r => some (r, p.dom)

/-- RTPt_ID at reset: tile, plane, pass bit and link stages (Tables 4-2 and 4-9). -/
def rtIdWord (p t : Nat) : Nat :=
  t + p * 64 + (if passTiles.contains t then 128 else 0) + linkStages t 0 * 256 + linkStages t 1 * 1024
    + linkStages t 2 * 4096 + linkStages t 3 * 16384

/-- The reset value of the register at an offset: the value its field map gives, with the registers whose
reset value depends on the index computed (Tables 4-9, 13-13, 11-6). -/
def resetWord (off : Nat) : Nat :=
  if 0x200000 ≤ off ∧ off < 0x300000 ∧ off % 0x2000 = 0 then
    rtIdWord ((off - 0x200000) / 0x80000) ((off - 0x200000) % 0x80000 / 0x2000)
  else if off = 0x600000 then 1
  else if 0x21000 + 52 * 0x40 ≤ off ∧ off < 0x21000 + 60 * 0x40 ∧ off % 0x40 = 0 then 3
  else if 0x21000 + 52 * 0x40 ≤ off ∧ off < 0x21000 + 60 * 0x40 ∧ off % 0x40 = 8 then 6
  else match regRow off with
    | some (r, _) => if r.kind = .plain then r.rst else 0
    | none => 0

/-- The lock group of SC_LOCK that covers the writable fields of a register (Table 17-9). -/
def lockGroup (off : Nat) : Option Nat :=
  if 0x50000 ≤ off ∧ off < 0x57800 then
    let n := (off - 0x50000) / 0x400
    let o := off % 0x400
    if o < 0x208 ∨ (0x240 ≤ o ∧ o < 0x248) then
      some (if n < 16 then 0 else if n < 28 then 1 else if n = 28 then 2 else 3)
    else none
  else if 0x3F0000 ≤ off ∧ off < 0x3F0200 then (if off % 0x10 = 0xC then none else some 4)
  else if 0x3F0400 ≤ off ∧ off < 0x3F0C00 ∧ off % 0x20 = 0 then some 5
  else if off = 0x70008 then some 6
  else none

/-- The bits of a register that its lock group covers (R447). -/
def lockMask (off : Nat) : Nat :=
  if 0x3F0000 ≤ off ∧ off < 0x3F0200 ∧ off % 0x10 = 8 then 0x1FF else 0xFFFFFFFF

/-- The saturation group of a counter by its region (R420). -/
def satGroup (off : Nat) : Nat :=
  if off < 0x10000 then 0 else if off < 0x20000 then 1 else if off < 0x30000 then 2
  else if off < 0x40000 then 3 else if off < 0x50000 then 4 else if off < 0x60000 then 5
  else if off < 0x70000 then 6 else if off < 0x80000 then 7 else if off < 0x200000 then 8
  else if off < 0x300000 then 9 else if off < 0x400000 then 10 else if off < 0x500000 then 11
  else if off < 0x600000 then 12 else 13

end Sys2Proof.Machine
end

