-- ==== Sys2Proof/Machine/Tables.lean ====
section
/-! DEFINITION. Finite tables held as lists sorted by key, and the bit fields of a register word. Memories,
register files and every indexed store of State are such tables. -/

namespace Sys2Proof.Machine

/-- The entry of a table at a key. -/
def tget {α : Type} : List (Nat × α) → Nat → Option α
  | [], _ => none
  | (a, v) :: r, k => if a = k then some v else if k < a then none else tget r k

/-- A table with the entry at `k` set to `v`; keys stay strictly rising. -/
def tset {α : Type} : List (Nat × α) → Nat → α → List (Nat × α)
  | [], k, v => [(k, v)]
  | (a, w) :: r, k, v =>
    if k < a then (k, v) :: (a, w) :: r
    else if a = k then (k, v) :: r
    else (a, w) :: tset r k v

/-- A table without the entry at `k`. -/
def tdel {α : Type} : List (Nat × α) → Nat → List (Nat × α)
  | [], _ => []
  | (a, w) :: r, k => if a = k then r else if k < a then (a, w) :: r else (a, w) :: tdel r k

/-- A table with the entry at `k` set, or removed where the value is what an unlisted key reads as. -/
def tput {α : Type} [DecidableEq α] (d : α) (t : List (Nat × α)) (k : Nat) (v : α) : List (Nat × α) :=
  if v = d then tdel t k else tset t k v

/-- Reads a table whose unlisted keys read as `d`. -/
def tgetD {α : Type} (t : List (Nat × α)) (k : Nat) (d : α) : α := (tget t k).getD d

/-- The keys of a table rise strictly. -/
def tsorted {α : Type} : List (Nat × α) → Bool
  | [] => true
  | [_] => true
  | (a, _) :: (b, w) :: r => decide (a < b) && tsorted ((b, w) :: r)

/-- `w` with the field of width `n` at bit `lo` set to `v`. -/
def insBits (w lo n v : Nat) : Nat :=
  w / 2 ^ (lo + n) * 2 ^ (lo + n) + v % 2 ^ n * 2 ^ lo + w % 2 ^ lo

/-- Bit `i` of a number. -/
def bit (w i : Nat) : Bool := w / 2 ^ i % 2 == 1

/-- The bits of `w` from `lo`, `n` of them. -/
def bits (w lo n : Nat) : Nat := w / 2 ^ lo % 2 ^ n

/-- The value of a Bool as a bit. -/
def b2n (b : Bool) : Nat := if b then 1 else 0

/-- A signed value read from an `n`-bit two's complement field. -/
def toSigned (n v : Nat) : Int := if v % 2 ^ n < 2 ^ (n - 1) then ((v % 2 ^ n : Nat) : Int) else ((v % 2 ^ n : Nat) : Int) - (2 ^ n : Nat)

/-- An `n`-bit two's complement field that holds a signed value. -/
def fromSigned (n : Nat) (v : Int) : Nat := (v % ((2 ^ n : Nat) : Int)).toNat

/-- A value forced into a range (an out-of-range value acts as the nearest bound). -/
def clampN (lo hi v : Nat) : Nat := if v < lo then lo else if hi < v then hi else v

def clampI (lo hi v : Int) : Int := if v < lo then lo else if hi < v then hi else v

/-- Division rounding up. -/
def ceilDiv (a b : Nat) : Nat := (a + b - 1) / b

/-- Base-2 logarithm rounded down; 0 at 0. -/
def log2 (n : Nat) : Nat := Nat.log2 n

/-- Little-endian bytes of a value. -/
def leBytes : Nat → Nat → List Nat
  | 0, _ => []
  | n + 1, v => v % 256 :: leBytes n (v / 256)

/-- The value of little-endian bytes. -/
def ofLeBytes : List Nat → Nat
  | [] => 0
  | b :: r => b % 256 + 256 * ofLeBytes r

end Sys2Proof.Machine
end

