-- ==== Sys2Proof/Machine/State.lean ====
section
/-! DEFINITION. The state of one OFC-256 block as plain data: every register, buffer, queue, timer, record and
pin the manual gives it, the block's own outputs, and the queue of commands that wait. -/

namespace Sys2Proof.Machine

/-! ### Registers and accesses (00, 14, 17) -/

/-- The outcome of a control master's last access: its Table 3-3 status and read data. -/
structure Acc where
  status : Status := .ok
  data   : Word := 0
  deriving DecidableEq, Repr

/-! ### Fabric time (02) -/

/-- A grandmaster dataset as an ANNOUNCE carries it (Table 2-5). -/
structure GmSet where
  prio1 : Nat
  cls   : Nat
  prio2 : Nat
  tier  : Nat
  steps : Nat
  node  : Nat
  deriving DecidableEq, Repr

/-- A time exchange in progress on a child port (R38): times in 2^-16 ns. -/
structure Exch where
  xseq : Nat
  t1   : Nat
  t2   : Nat
  t3   : Nat
  deriving DecidableEq, Repr

structure TimeSt where
  /-- Fabric time in units of 2^-32 ns since the fabric epoch (R32, R34). -/
  now      : Nat := 0
  /-- TCLK runs (R406). -/
  tclk     : Bool := true
  /-- Frame anchor (T0 in ns, F0) of R54. -/
  t0       : Nat := 0
  f0       : Nat := 0
  /-- Number of the last tick fired. -/
  last     : Option Nat := none
  /-- Number of the last frame boundary that has fired its tick, been counted as missed or been skipped. -/
  hdl      : Int := -1
  /-- Instant (ns) of the last tick fired. -/
  lastNs   : Int := 0
  /-- TCLK cycles since the last tick: e of R161. -/
  e        : Nat := 0
  /-- TCLK cycles since cold reset: what refills, sampling intervals and other periods in ns run on. -/
  cyc      : Nat := 0
  /-- Fabric time has stepped since the last tick (R177). -/
  stepped  : Bool := false
  /-- Frame number S of an armed frame switch (R57). -/
  swS      : Option Nat := none
  /-- Period and phase that it brings. -/
  swPer    : Nat := 62500
  swPhase  : Nat := 0
  /-- Consecutive exchanges past TM_STEP_THRESH (R39), and within 1 ns (Table 2-2). -/
  badRun   : Nat := 0
  lockRun  : Nat := 0
  /-- Servo residual in 2^-4 ns (R51). -/
  residual : Nat := 0
  /-- TM_HOLD_ERR grows (R51), with the part of its growth below 2^-4 ns in units of 2^-4 ns × 10^-9. -/
  growing  : Bool := false
  holdFrac : Nat := 0
  /-- The exchange in progress on each child port (R38). -/
  exch     : List (Nat × Exch) := []
  /-- XSEQ of the last SYNC sent by each fabric port. -/
  xseq     : List (Nat × Nat) := []
  /-- The parent port of the time tree (R44). -/
  parent   : Option Nat := none
  /-- The dataset each fabric port announced last. -/
  cands    : List (Nat × GmSet) := []
  /-- The last PPS edge as timestamped (2^-16 ns), and its age in ns. -/
  ppsEdge  : Option Nat := none
  ppsAge   : Nat := 0
  /-- CLASS the node advertises for itself: 0, 1 or 2 (Table 2-5). -/
  cls      : Nat := 2
  /-- TCLK cycles for which TM_PPS_OUT stays high; 0 while it is low (R49). -/
  ppsLeft  : Nat := 0
  /-- PTP timestamp queues: (port, TAG, time in 2^-16 ns), oldest first (R50). -/
  ptpq     : List (Nat × Nat × Nat) := []
  /-- Retired timebase tiles (R62). -/
  retired  : List Nat := []
  /-- Time ledger: fabric time of the entry edge while it runs (R64). -/
  entryAt  : Option Nat := none
  deriving DecidableEq, Repr

/-! ### Mesh (03, 04) -/

/-- A packet on the mesh: source NI, DTILE, plane, VC, ISEQ and RET of R105 beside it; its number, and how many of its
flits the NI has injected and the egress NI has taken (R91). -/
structure Flight where
  id    : Nat
  src   : Nat
  dtile : Nat
  plane : Nat
  vc    : Nat
  iseq  : Nat
  ret   : Bool
  /-- The fabric or PCI Express port the packet leaves on, if any. -/
  port  : Option Nat
  pkt   : Pkt
  out   : Nat
  got   : Nat
  deriving DecidableEq, Repr

/-- A flit in an input buffer of a router: plane, tile, input and VC (R103), its packet and DTILE, the sideband bits HEAD and
TAIL (R91), and the FCLK cycle from which it may leave. -/
structure RFlit where
  plane : Nat
  tile  : Nat
  inp   : Nat
  vc    : Nat
  id    : Nat
  dtile : Nat
  head  : Bool
  tail  : Bool
  at_   : Nat
  deriving DecidableEq, Repr

/-- A retained packet (R116), with the guard and set it was checked under (R345), and the domain whose
INFLIGHT counts it (R364). -/
structure Kept where
  /-- The packet's number since its first launch, which a resend keeps. -/
  id    : Nat
  tile  : Nat
  dtile : Nat
  plane : Nat
  vc    : Nat
  iseq  : Nat
  port  : Option Nat
  pkt   : Pkt
  guard : Option (Nat × Nat)
  deriving DecidableEq, Repr

/-- Why an NI holds a packet before injection. -/
inductive HoldWhy where
  | retention | fence | domain (d : Nat) | postedFirst | quiet | noPlane | reset
  deriving DecidableEq, Repr

/-- A packet that an NI holds before injection (R113, R118, R150, R240, R253, R363), and why. -/
structure Held where
  /-- The packet's number, which it keeps on the mesh. -/
  id    : Nat
  tile  : Nat
  why   : HoldWhy
  /-- The packet has no epoch yet and counts in no epoch (R150); this NI has created it, so that it takes its STAMP when it
  enters the mesh (R72). -/
  fresh : Bool
  born  : Bool
  pkt   : Pkt
  guard : Option (Nat × Nat)
  deriving DecidableEq, Repr

/-- A flow fence of R118: packets of `tile` for (`dtile`, `vc`) whose hash names `hash` wait until receipts
on plane `from_` reach `mark`. -/
structure Fence where
  tile  : Nat
  dtile : Nat
  vc    : Nat
  hash  : Nat
  from_ : Nat
  mark  : Nat
  deriving DecidableEq, Repr

/-- A receipt word (Table 4-4). -/
structure Receipt where
  tgt   : Nat
  egr   : Nat
  pl    : Nat
  vc    : Nat
  cseq  : Nat
  fin   : Bool
  deriving DecidableEq, Repr

structure MeshSt where
  fly      : List Flight := []
  kept     : List Kept := []
  held     : List Held := []
  /-- Last ISEQ issued per (tile, DTILE, plane, VC). -/
  iseq     : List (Nat × Nat) := []
  /-- ISEQ of the last packet delivered per (egress tile, source tile, plane, VC) (R117). -/
  egr      : List (Nat × Nat) := []
  rcpts    : List Receipt := []
  /-- Packets an egress NI delivered to the unit of its tile, which has not acted on them. -/
  arrived  : List (Nat × Pkt) := []
  fences   : List Fence := []
  /-- Flits in the input buffers of the routers, oldest first (R103). -/
  rbuf     : List RFlit := []
  /-- Credits in use per (plane, router, output, VC): the counter of R108 is the depth less this; and credits on their way
  back to them, with the cycle of their arrival. -/
  credUsed : List (Nat × Nat) := []
  crBack   : List (Nat × Nat) := []
  /-- The packet that holds each output's VC (R109). -/
  owner    : List (Nat × Nat) := []
  /-- Round-robin pointers of each output: the input and VC served last, per class (R110); and the grants in a row that VC1,
  VC3 and VC5 have had there. -/
  rrAt     : List (Nat × Nat) := []
  hiRun    : List (Nat × Nat) := []
  /-- FCLK cycles that the planes have run, and the number of the next packet on the mesh. -/
  fcyc     : Nat := 0
  nextFly  : Nat := 0
  /-- END words a source NI still waits for: (plane, tile, DTILE) (R122). -/
  ends     : List (Nat × Nat × Nat) := []
  /-- Quiet switch: NIs that have not switched to the new epoch, and the fabric time (ns) at which each NI last
  injected a remote-bound packet (R150). -/
  unswitched : List Nat := []
  recent   : List (Nat × Nat) := []
  /-- Elimination windows: per (tile, entry) the 64 marks of H−63..H, bit 0 for H (R147), and how many of these values are not
  older than the first one accepted (assumption log 97). -/
  elimWin  : List (Nat × Nat) := []
  elimSpan : List (Nat × Nat) := []
  /-- Transit filter keys per PT: (tile, TAG, SEQ, STAMP), oldest first; and those that have aged out without a second copy
  (R146, assumption log 98). -/
  transit  : List (Nat × Nat × Nat × Nat) := []
  aged     : List (Nat × Nat × Nat × Nat) := []
  /-- Newest epoch delivered per (tile, source node) (R153). -/
  epochSeen : List (Nat × Nat) := []
  deriving DecidableEq, Repr

/-! ### Requests (03, 15) -/

/-- What a reorder entry's completion goes to. -/
inductive Org where
  /-- Part of an access, at a dword position of its result; `mirror` for the copy of a mirrored write. -/
  | native (acc pos : Nat)
  | mirror (acc pos : Nat)
  | flush (bar : Nat)
  deriving DecidableEq, Repr

/-- A reorder buffer entry (R96 to R98, R416): 0 free, 1 outstanding, 2 in quarantine. -/
structure RoEntry where
  /-- The request's own number, which barriers know it by. -/
  num   : Nat
  st    : Nat
  gen   : Nat
  fgen  : Nat
  org   : Org
  req   : Pkt
  guard : Option (Nat × Nat)
  /-- Bytes or responses still to come. -/
  left  : Nat
  deriving DecidableEq, Repr

/-- Who takes the result of an access. -/
inductive AccTo where
  /-- A native master, in the order of its accesses (R236). -/
  | master
  /-- A TLP of a port, for its completion. -/
  | tlp (port : Nat) (t : Tlp)
  /-- The job that an engine runs. -/
  | job (e : Nat)
  /-- The fetch of a descriptor of a ring: basin and binding (R325). -/
  | ring (b i : Nat)
  /-- A spilled flit of a port, by its FSEQ, and the oldest packet of a virtual network of a port (R274, R272). -/
  | flit (port fseq : Nat)
  | spilled (port vn : Nat)
  deriving DecidableEq, Repr

/-- A master's access while its parts are out (R89, R236): the parts still to answer, the status so far, the data
read, the first answers of mirrored writes (position, status code), and who takes the result. -/
structure MAcc where
  id     : Nat
  tile   : Nat
  kind   : Nat
  left   : Nat
  status : Status
  data   : List Word
  pair   : List (Nat × Nat) := []
  taker  : AccTo := .master
  deriving DecidableEq, Repr

/-- A request that waits for a reorder entry. -/
structure RoWait where
  num   : Nat
  tile  : Nat
  org   : Org
  req   : Pkt
  guard : Option (Nat × Nat)
  left  : Nat
  deriving DecidableEq, Repr

structure ReqSt where
  ro     : List (Nat × RoEntry) := []
  /-- First tag each NI has never used, and retired tags in order of retirement (R96). -/
  roNext : List (Nat × Nat) := []
  roFree : List (Nat × Nat) := []
  /-- Requests that wait for a free entry of their NI (R113), oldest first. -/
  roWait : List RoWait := []
  accs   : List MAcc := []
  nextId : Nat := 0
  /-- Number of the next request. -/
  nextNum : Nat := 0
  /-- Completed native accesses, in the order of their issue, newest first. -/
  done   : List MAcc := []
  /-- Finished accesses of engines and links, which have not taken them yet, oldest first. -/
  ready  : List MAcc := []
  deriving DecidableEq, Repr

/-! ### Cistern and cascade (07) -/

/-- A commit that its NI holds: the tile, the object, and the numbers of the earlier packets to the WORK0 bank that no receipt
covers yet (R199). -/
structure Commit where
  tile : Nat
  obj  : Nat
  pend : List Nat
  deriving DecidableEq, Repr

structure CisSt where
  /-- Bytes of the 24 banks at cistern addresses (R183). -/
  mem     : List Host.Cell := []
  /-- Poisoned 64-bit words, and words that hold a single-bit error (R186). -/
  poison  : List (Nat × Nat) := []
  soft    : List (Nat × Nat) := []
  /-- Rows retired without a spare, and correctable errors per row in this scrub pass (R188). -/
  rowOut  : List (Nat × Nat) := []
  rowCe   : List (Nat × Nat) := []
  /-- Next row each bank scrubs (R187). -/
  scrub   : List (Nat × Nat) := []
  /-- Banks whose return of R419 is running. -/
  back    : List Nat := []
  /-- Commits that NIs hold until the earlier packets to the WORK0 bank are receipted (R199). -/
  commits : List Commit := []
  deriving DecidableEq, Repr

/-- A queued cascade job (R205). -/
structure QJob where
  e     : Nat
  q     : Nat
  desc  : List Word
  basin : Nat
  gen   : Nat
  deriving DecidableEq, Repr

/-- What an access of a job has answered: the bytes, the status, and whether the bytes are poisoned. -/
structure Ans where
  bs  : List Nat
  st  : Status
  bad : Bool
  deriving DecidableEq, Repr

/-- The job an engine runs: its queue, its program and index there (queue 0). `log` holds what its accesses have answered so
far, oldest first, and `wait` the identifier of the one that is out; `fin` is the count finished and `ops` the operand bytes
done; `pst` the first failing packet status; `jst` its job status once its accesses are all made; `stop` the operand boundary
at which it yields (R219); `t` and `per` the T of R213 and the frame period when it started. -/
structure RunJob where
  e      : Nat
  q      : Nat
  fp     : Nat
  idx    : Nat
  job    : QJob
  id     : Nat
  log    : List Ans
  wait   : Option Nat
  fin    : Nat
  ops    : Nat
  pst    : Nat
  jst    : Option Nat
  stop   : Option Nat
  t      : Int
  per    : Nat
  deriving DecidableEq, Repr

/-- A running job as its accesses see it: engine, queue, basin, its program (for a frame program), whether writes
go to WORK1 (R197), and the identifier of its outstanding requests. -/
structure EJ where
  e     : Nat
  q     : Nat
  basin : Nat
  prog  : Option Nat
  sec   : Bool
  id    : Nat
  deriving DecidableEq, Repr

/-- A SCATTER record that waits for its TIME, or for its stream's window (R210, R171): the job, the destination of
its list entry, the bytes, whether they are poisoned, and the stream binding and record number with BIND_EN. -/
structure ScatRec where
  at_  : Nat
  job  : EJ
  eid  : Option Nat
  addr : Nat
  data : List Nat
  bad  : Bool
  bind : Option (Nat × Nat)
  deriving DecidableEq, Repr

/-- A pending program swap (R224): slot numbers e × 8 + p. -/
structure FpSwapSt where
  /-- The slots it enables, those it disables, and the frame number at which it takes effect. -/
  on_  : List Nat
  off_ : List Nat
  s    : Nat
  deriving DecidableEq, Repr

structure KtSt where
  /-- Local stores: byte at e × 2^18 + offset (R202); and the poisoned 64-bit words of them (assumption log 96). -/
  ls      : List Host.Cell := []
  lsBad   : List Nat := []
  queue   : List QJob := []
  /-- Program store: 16 dwords at e × 256 + slot (R202). -/
  prog    : List (Nat × List Word) := []
  run     : List RunJob := []
  /-- Jobs that yielded to a frame program (R219). -/
  yielded : List RunJob := []
  /-- Programs due and waiting, in order: e × 8 + p (R219). -/
  due     : List Nat := []
  /-- Outcome of each program this frame: e × 8 + p to 1 completed, 2 overrun, 3 fault. -/
  outcome : List (Nat × Nat) := []
  /-- Signature accumulated by each running program (R210). -/
  sig     : List (Nat × Nat) := []
  /-- Frames an engine still runs as SHADOW, and the engines that have run a twin program in this frame (R226). -/
  shadow  : List (Nat × Nat) := []
  shRan   : List Nat := []
  /-- Deficit of each queue: e × 64 + q, and the queue each engine serves (R204). -/
  deficit : List (Nat × Nat) := []
  drrAt   : List (Nat × Nat) := []
  scat    : List ScatRec := []
  /-- Plume buffers: (tile, packet), oldest first (R218). -/
  plume   : List (Nat × Pkt) := []
  swap    : Option FpSwapSt := none
  /-- SWAP_BAD of FP_SWAP, and the level each loaded program was checked at: e × 8 + p (R223, R224). -/
  swapBad : Bool := false
  fpPl    : List (Nat × Nat) := []
  /-- Decision per object: 1 WORK0, 2 WORK1, with OUTCOME 0 or 1 (R225). -/
  decided : List (Nat × Nat × Nat) := []
  /-- SAG1 is in force, so the cascade suspends at the next tick; and the cascade is suspended (R372, R374). -/
  suspend : Bool := false
  stopped : Bool := false
  deriving DecidableEq, Repr

/-! ### Ordering (08) -/

/-- A barrier open at an NI (R244): phase 0 LOCAL, 1 own remote flush, 2 at CX. -/
structure Bar where
  tile   : Nat
  scope  : Nat
  seq    : Nat
  phase  : Nat
  status : Status
  /-- PCI Express barrier: port, partition and token of the VDM (R307). -/
  vdm    : Option (Nat × Nat × Nat)
  /-- What LOCAL still waits for (`State.outNow`), and the flush of phase 1. -/
  pend   : List Nat
  fid    : Nat
  deriving DecidableEq, Repr

/-- A flush order at a requester NI (R244): phase 0 LOCAL, 1 remote flush. -/
structure FlushOrd where
  tile   : Nat
  remote : Bool
  tag    : Nat
  seq    : Nat
  dest   : Nat
  phase  : Nat
  pend   : List Nat
  fid    : Nat
  deriving DecidableEq, Repr

/-- A barrier request at CX: who sent it and what it asks. -/
structure DieReq where
  src   : Nat
  scope : Nat
  tag   : Nat
  seq   : Nat
  deriving DecidableEq, Repr

/-- A reservation (R247), oldest first in its list. -/
structure Resv where
  bank    : Nat
  granule : Nat
  src     : Nat
  pasid   : Nat
  basin   : Option Nat
  deriving DecidableEq, Repr

/-- A set of flushing reads under way: how many are outstanding and the worst status so far (R240, R332). -/
structure Flush where
  id    : Nat
  left  : Nat
  worst : Status
  deriving DecidableEq, Repr

structure OrdSt where
  flushes : List Flush := []
  /-- LOCAL barriers of basin commands: (flush, KT tile, accesses not yet complete) (R332, R335). -/
  locs : List (Nat × Nat × List Nat) := []
  nextFlush : Nat := 0
  /-- Remote flows that carried posted packets since the NI's last remote flush: (tile, SRC_EID, DEST_EID, TC), oldest
  first (R240). -/
  flows   : List (Nat × Nat × Nat × Nat) := []
  bars    : List Bar := []
  barNum  : List (Nat × Nat) := []
  dieq    : List DieReq := []
  /-- The die flush that runs, the tiles that have not acknowledged, and the worst status so far. -/
  die     : Option DieReq := none
  dieLeft : List Nat := []
  dieSt   : Status := .ok
  dieSeq  : Nat := 0
  /-- Flush orders that NIs are carrying out. -/
  orders  : List FlushOrd := []
  /-- A SYSTEM barrier of this CX towards other nodes: its request and the nodes still to answer. -/
  sys     : Option DieReq := none
  sysLeft : List Nat := []
  sysSt   : Status := .ok
  sysSeq  : Nat := 0
  /-- SYSTEM barriers of this die that have completed their die flush and wait their turn towards other nodes. -/
  sysq    : List (DieReq × Status) := []
  resv    : List Resv := []
  deriving DecidableEq, Repr

/-! ### Guards, Wellhead and outputs (12, 14, 18) -/

structure GdSt where
  /-- Parts not retired, by access and guard: (2 × access + set) × 32 + guard (R345). -/
  open_ : List (Nat × Nat) := []
  /-- Number of the access that was checked last. -/
  acc : Nat := 0
  /-- The debug master's outstanding access of the cistern (R349), OVERRUN and DONE (R452). -/
  dbgOut  : Option Nat := none
  dbgOver : Bool := false
  dbgDone : Bool := false
  deriving DecidableEq, Repr

/-- An access of the Wellhead that waits for its barrier (R240): kind, address, LEN, PASID and data. -/
structure WAcc where
  kind  : Nat
  addr  : Nat
  len   : Nat
  pasid : Nat
  data  : List Word
  deriving DecidableEq, Repr

/-- An access at an input of CX that has not completed (R365, R381 to R384): its master, its offset, the data of a
write, whether it is a dword of a longer transfer, and the data-path access it waits for (R383). -/
structure CxAcc where
  m   : Master
  off : Nat
  w   : Option Word
  job : Bool
  out : Option Nat
  deriving DecidableEq, Repr

/-- A transfer of several dwords at input `m` (R384 to R386): dwords to come, outcomes so far, and the TLP it serves; a
Control Port B frame without one. -/
structure CxJob where
  m    : Nat
  left : Nat
  got  : List Acc
  read : Bool
  tlp  : Option Pkt
  deriving DecidableEq, Repr

/-- What an open mailbox command waits for when it is PARKED (R393). -/
inductive Parked where
  | guardSwap (mask : Nat)
  | linkWidth (port : Nat)
  | basin (b : Nat) (destroy : Bool)
  | harvest (b : Nat)
  deriving DecidableEq, Repr

/-- The command a mailbox has open: header fields of Table 14-4. -/
structure OpenCmd where
  op    : Nat
  flags : Nat
  tag   : Nat
  len   : Nat
  seq   : Nat
  issuer : Nat
  wait  : Option Parked
  deriving DecidableEq, Repr

structure WhSt where
  accq   : List WAcc := []
  /-- The Wellhead's private RAM (R17). -/
  ram    : List Host.Cell := []
  /-- The open command of MBA (0) and MBB (1). -/
  cmds   : List (Nat × OpenCmd) := []
  /-- Mailboxes rung and not taken, in doorbell order (R393). -/
  rung   : List Nat := []
  /-- Journal format in use, 0 while the journal is empty (R395, R397). -/
  jfmt   : Nat := 0
  /-- JFMT of the image that runs (Table 14-8a). -/
  imgFmt : Nat := 0
  /-- Frame S of an armed update (R400), and the slot that ran before a handover. -/
  armS   : Option Nat := none
  oldSlot : Nat := 0
  /-- The Wellhead has booted since cold reset (R399). -/
  booted : Bool := false
  /-- PD_WH has left power since the Wellhead last booted, so it boots when the domain wakes (R399). -/
  whLost  : Bool := false
  /-- An image has been entered and runs (R398). -/
  entered : Bool := false
  /-- The handover's target boot has begun (Table 14-10). -/
  hoBoot : Bool := false
  /-- Image load: IMG_READY, an IMG_DONE held before it, IMG_SLOT, and the wait for IMG_DONE (R454). -/
  imgReady : Bool := false
  imgHeld  : Option Nat := none
  imgSlot  : Nat := 0
  imgWait  : Bool := true
  /-- Fuse words 2 to 14: minimum MAJOR and key hash; `none` for a word that failed to read (Table 18-4). -/
  minMajor : Option Nat := none
  keyHash  : Option (List Word) := none
  /-- Trim of each sensor is readable, and the FIO trim (Table 18-4). -/
  tsTrim : List Bool := []
  fioTrim : Option Nat := none
  /-- Control Port B: what the next read frame returns, and the status and count of the last write (R386). -/
  pbSetup  : Option (Option (Nat × Nat)) := none
  pbStat   : Nat := 0
  pbCount  : Nat := 0
  /-- Burst holds: master to accesses left and target, once it has one (R384). -/
  holds  : List (Nat × Nat × Option Nat) := []
  /-- Accesses that wait at the inputs of CX, oldest first, and the transfers they belong to. -/
  cxq    : List CxAcc := []
  jobs   : List CxJob := []
  /-- The master that each target of Table 14-1 served last (R381). -/
  served : List (Nat × Nat) := []
  /-- Instant (ns) of the last HB, and at which each semaphore's lease started (R387, R399). -/
  hbAt   : Nat := 0
  semAt  : List (Nat × Nat) := []
  /-- RST_BUSY, and a warm reset held in PD_AO (R461). -/
  rstBusy : Bool := false
  /-- Instant (ns) at which the warm reset's drain began (R253). -/
  rstAt : Nat := 0
  warmHeld : Bool := false
  coldLow : Bool := false
  safeOut : Bool := false
  deriving DecidableEq, Repr

/-- What the block has put on its ports and pins. -/
inductive Sent where
  /-- `n` Runnel flits of the same 320 bytes, back to back, on the lanes of a map from byte `pos` of the stream after the last
  map marker on (R259, R261). -/
  | flit (port n map pos : Nat) (bytes : List Nat)
  /-- The 16 dwords of a training block, on a lane of a port (Table 9-8). -/
  | train (port lane : Nat) (words : List Nat)
  /-- The 16 bytes of a map marker on a lane of a port (Table 9-11). -/
  | marker (port lane : Nat) (bytes : List Nat)
  /-- A TLP on a PCI Express port, with its data. -/
  | tlp (port : Nat) (t : Tlp) (data : List Word)
  /-- Flow-control credit that a PCI Express port grants its partner: type, headers and data (R297). -/
  | fc (port cls hdr data : Nat)
  /-- An MSI-X message of a partition's management function. -/
  | msix (hpart vec : Nat)
  /-- An MSI-X write of a basin vector: address, data and PASID. -/
  | vec (hpart addr data : Nat)
  /-- The in-band interrupt of Control Port B. -/
  | ibi
  /-- Bytes returned on Control Port B. -/
  | pb (bytes : List Nat)
  /-- A VID request (code). -/
  | vid (code : Nat)
  /-- A PMBus read of a slot's controller. -/
  | pmb (slot : Nat)
  /-- The tick pulse on IRQ_SB1 (R455). -/
  | tick
  deriving DecidableEq, Repr

structure IrqSt where
  /-- Levels of the 16 sources, and of MBA and MBB (bits 16, 17), when last looked at (R410, R392). -/
  prev : Nat := 0
  deriving DecidableEq, Repr

/-! ### Gates, shapers, streams (06) -/

/-- A packet in an egress class queue, and the fabric time (ns) of its arrival. -/
structure QEnt where
  port : Nat
  q    : Nat
  enq  : Nat
  pkt  : Pkt
  deriving DecidableEq, Repr

/-- The packet a port is transmitting: its queue, the end its start check allowed for (2^-16 ns) and the close of
its gate at that check (ns). -/
structure RunPkt where
  port  : Nat
  q     : Nat
  done  : Nat
  close : Option Nat
  deriving DecidableEq, Repr

/-- A stream packet held until its window opens (R170). -/
structure SHold where
  win  : Nat
  tile : Nat
  pkt  : Pkt
  guard : Option (Nat × Nat)
  deriving DecidableEq, Repr

/-- An admitted reservation record (Table 6-5) with what firmware keeps beside it: the register block it
programmed, the domain it votes for, and the width and twice the lane rate of its ports at admission; width 0 where the
record has no such port. -/
structure Adm where
  r    : StreamRec
  blk  : Nat
  dom  : Nat
  inW  : Nat
  inR  : Nat
  outW : Nat
  outR : Nat
  deriving DecidableEq, Repr

/-- Start and finish tags of a bulk queue, and the head packet that F was computed for (R168). -/
structure FqTag where
  s    : Nat
  f    : Nat
  head : Option Pkt
  deriving DecidableEq, Repr

structure SchSt where
  /-- Egress class queues, oldest packet first. -/
  eq_     : List QEnt := []
  run     : List RunPkt := []
  /-- Staged shaper words by register offset (R167). -/
  staged  : List (Nat × Nat) := []
  /-- Fair queuing per port × 8 + queue: tags S and F with the head packet they belong to, once it is known; V per port;
  and the queues that were eligible at the last selection (R168). -/
  fqTag   : List (Nat × FqTag) := []
  fqV     : List (Nat × Nat) := []
  fqOk    : List Nat := []
  /-- TCLK cycle of the last refill of each shaper, port × 8 + queue; that of the port's configuration before (R167). -/
  refAt   : List (Nat × Nat) := []
  /-- Packets accepted this frame per stream window block, and per engine × 1024 + stream (R170, R171). -/
  accN    : List (Nat × Nat) := []
  ktAcc   : List (Nat × Nat) := []
  /-- Sequence counters of the engines' stream bindings: engine × 1024 + counter (R171). -/
  ktSeq   : List (Nat × Nat) := []
  shold   : List SHold := []
  adm     : List Adm := []
  /-- Frame S of the gate list swap pending on each port (R162). -/
  gclS    : List (Nat × Nat) := []
  /-- SAMPLE_SEQ per port, and the largest wait per port × 8 + queue since the last sample (R180). -/
  tseq    : List (Nat × Nat) := []
  tmax    : List (Nat × Nat) := []
  /-- Ports sampled in this frame in frame mode (R180). -/
  telAt   : List Nat := []
  deriving DecidableEq, Repr

/-! ### Basins (11) -/

/-- An entry of the basin lookup map (R323). -/
structure MapEnt where
  hpart : Nat
  rid   : Nat
  pasid : Nat
  any   : Bool
  basin : Nat
  deriving DecidableEq, Repr

structure BsnSt where
  map    : List MapEnt := []
  /-- HEAD and TAIL of each ring: basin × 8 + binding (R325). -/
  ring   : List (Nat × Nat × Nat) := []
  /-- Basins whose consumed counters wait to be written back (R328). -/
  cons   : List Nat := []
  /-- Flows a basin has used since its last reset: (basin, engine, DEST_EID, TC) (R332). -/
  flows  : List (Nat × Nat × Nat × Nat) := []
  /-- Recently marked pages per engine: (engine, basin, page), newest first (R334). -/
  cache  : List (Nat × Nat × Nat) := []
  /-- Engines that have marked since a basin's last harvest: (basin, engine). -/
  marked : List (Nat × Nat) := []
  /-- The flush job that a basin's running command waits for: (basin, flush) (R332, R335). -/
  wait   : List (Nat × Nat) := []
  deriving DecidableEq, Repr

/-! ### Runnel links (09) -/

/-- A DATA flit that a sender keeps until an ACK covers it (R268): its port and FSEQ, the fabric time (ns) of its last
transmission, START, TS and NLW of its header, its packet area, the packets whose tails it holds, and the cistern address
of its spill slot (R274). The area of a spilled flit is empty until it has been read back. -/
structure KFlit where
  port  : Nat
  fseq  : Nat
  at_   : Nat
  start : Nat
  ts    : Bool
  nlw   : Nat
  area  : List Nat
  tails : List Pkt
  spill : Option Nat
  deriving DecidableEq, Repr

/-- A packet in ingress storage (R272): `done` once its tail flit has been accepted; its spill address if it lies in
the cistern; `old` if a flush has reset the credits since it came; the instant its header came (2^-16 ns); `asked` once it
is being read back from spill. -/
structure InPkt where
  port  : Nat
  pkt   : Pkt
  at_   : Nat
  done  : Bool
  spill : Option Nat
  old   : Bool
  asked : Bool
  deriving DecidableEq, Repr

/-- A packet that has started on a link, and how many of its bytes flits have taken (R262). -/
structure TxPkt where
  pkt : Pkt
  pos : Nat
  deriving DecidableEq, Repr

/-- An open planned map change (R287). Phase 0: MAP_REQ without its response; 1: added lanes come up; 2: markers. -/
structure MapChg where
  rid   : Nat
  kind  : Nat
  lane  : Nat
  map   : Nat
  mine  : Bool
  phase : Nat
  myRdy : Bool
  deriving DecidableEq, Repr

/-- What a Runnel port holds beside its registers. -/
structure LnkP where
  /-- Next FSEQ to send, and NEXT_RX (R267). -/
  nextTx : Nat := 0
  nextRx : Nat := 0
  nak    : Bool := false
  /-- ACKSEQ and instant (ns) of the replay a NAK started last (R268). -/
  lastNak : Option (Nat × Nat) := none
  /-- Replays in a row without an ACK that advances (R270). -/
  replays : Nat := 0
  /-- Flits and bad flits in the current block (R277), and flits in the current lane window (R289). -/
  seen   : Nat := 0
  bad    : Nat := 0
  laneSeen : Nat := 0
  /-- Corrected symbols per lane in the lane window. -/
  laneCorr : List (Nat × Nat) := []
  /-- Maps of the transmit and receive directions (R286), and lanes that leave after a marker. -/
  txMap  : Nat := 0
  rxMap  : Nat := 0
  leaving : Nat := 0
  /-- Transmit map that a fault marker will bring in at the next flit boundary (R289). -/
  fault  : Option Nat := none
  /-- The spare lane while it is trained and unused (R257). -/
  spare  : Option Nat := none
  /-- Instant (ns) of the first loss of lock since the link was whole (R277). -/
  lost   : Option Nat := none
  /-- Consecutive good training blocks with ACK_SEEN per lane, and whether good blocks have come at all (R278). -/
  blocks : List (Nat × Nat) := []
  acked  : Bool := false
  /-- The last TSTAMP received, and the LCLK count at its receipt (Table 9-8). -/
  echo   : Nat := 0
  echoAt : Nat := 0
  /-- Skew measured at the last training between each lane and the port's lowest-numbered one, in 2^-16 ns (R260). -/
  skew   : List (Nat × Int) := []
  /-- LCLK and signal: lanes on which the PHY reports signal, and lock. -/
  signal : Nat := 0
  /-- Map change open at this port, and the RID last used. -/
  chg    : Option MapChg := none
  rid    : Nat := 0
  /-- Lane under recalibration, with 0 going out, 1 at the PHY, 2 passed (R290), and the next lane in turn. -/
  recal  : Option (Nat × Nat) := none
  turn   : Nat := 0
  /-- The power controller orders electrical idle; STOP has been sent or received and ACKs are awaited (R285). -/
  idleOrd : Bool := false
  stopping : Bool := false
  stopSent : Bool := false
  /-- Packets that have started and are not wholly in flits yet, oldest first (R262). -/
  txq    : List TxPkt := []
  /-- Link words that wait for the next flit: an ACK (1) or NAK (2) word, CREDIT words by their VN, and others (R263). -/
  ack    : Nat := 0
  cred   : List Nat := []
  words  : List Nat := []
  /-- FSEQs of the flits a replay has still to send, and of the spilled flit that is being read back (R268, R274). -/
  rpl    : List Nat := []
  fetch  : Option Nat := none
  /-- Bytes received of the packet in progress (R262). -/
  rxBuf  : List Nat := []
  /-- Bytes of the stream since the last map marker, modulo the width, sent and received (R259). -/
  txPos  : Nat := 0
  rxPos  : Nat := 0
  /-- Line time free since the last flit, in units of 1/2 bit; negative while flits have taken more than has passed. -/
  line   : Int := 0
  /-- Instant (ns) at which the last NAK was sent (R267). -/
  nakAt  : Nat := 0
  deriving DecidableEq, Repr

structure LnkSt where
  ports  : List (Nat × LnkP) := []
  keep   : List KFlit := []
  inq    : List InPkt := []
  /-- Link-local packets that a PT NI has taken and not acted on: port, instant of arrival (2^-16 ns), packet (R37, R134). -/
  near   : List (Nat × Nat × Pkt) := []
  /-- Per port × 8 + VN, modulo 2^32: units charged, last CUM accepted, and units granted by this end (R271). -/
  charged : List (Nat × Nat) := []
  cum     : List (Nat × Nat) := []
  granted : List (Nat × Nat) := []
  /-- Credit units of each port × 8 + VN written to its ingress spill so far (R272). -/
  spillAt : List (Nat × Nat) := []
  deriving DecidableEq, Repr

/-! ### PCI Express ports (10) -/

/-- A tag of a downstream port's pool in use (R305): what its completion restores, the bytes still to come, and
whether it is the zero-length read that follows the MemWr of a WRITE_NP (R306). -/
structure OutTag where
  port : Nat
  tag  : Nat
  req  : Pkt
  left : Nat
  wnp  : Bool
  deriving DecidableEq, Repr

/-- A virtual downstream port of a partition (R301): its device number and the EID of the physical port. -/
structure VPort where
  hpart : Nat
  dev   : Nat
  eid   : Nat
  deriving DecidableEq, Repr

/-- A reservation context of a NI (R248, R308): its (partition, PASID) pair and the granule it holds. Least recently
used first. -/
structure ResCtx where
  tile  : Nat
  hpart : Nat
  pasid : Nat
  held  : Option (Nat × Nat)
  deriving DecidableEq, Repr

/-- A TLP in ingress storage of a port, behind a barrier (R307). `late`: it came while a warm reset drained, so that the NI has
not accepted it (R253). -/
structure WaitTlp where
  port : Nat
  tlp  : Tlp
  data : List Word
  late : Bool
  deriving DecidableEq, Repr

structure PcSt where
  tags   : List OutTag := []
  /-- Virtual ports, and shadow registers at (partition × 128 + device) × 2^12 + register (R301, log 20). -/
  vports : List VPort := []
  shadow : List (Nat × Word) := []
  /-- DPC Trigger Status: (port, partition) (R311). -/
  dpc    : List (Nat × Nat) := []
  /-- AER errors logged and not cleared: (partition, port, error) (R310). -/
  aer    : List (Nat × Nat × Nat) := []
  /-- Flow-control credit of each port's partner: port × 8 + type × 2 + (0 header, 1 data) (R297). -/
  credit : List (Nat × Nat) := []
  /-- TLPs that wait behind a barrier, oldest first. -/
  wait   : List WaitTlp := []
  /-- TLPs that a PT NI has built for its own link and that wait for room in their class queue: port and packet, oldest first
  (R157). -/
  back   : List (Nat × Pkt) := []
  ctx    : List ResCtx := []
  /-- Power requests of virtual ports for slots: (slot, partition) (R315). -/
  power  : List (Nat × Nat) := []
  /-- Slots whose card was seen gone in SETTLE, and slots whose sequencer has cleared its own request. -/
  gone   : List Nat := []
  deriving DecidableEq, Repr

/-! ### Power (13) -/

structure PwSt where
  /-- Full retention: 0 no, 1 entering, 2 asleep (R366). -/
  full   : Nat := 0
  /-- Planes that return to service once their FCLK is locked after an exit from full retention (Table 4-5). -/
  exit   : List Nat := []
  /-- Forced retention, or the hold of R407: every clock but AREF and SCLK is stopped (R373). -/
  halted : Bool := false
  /-- Level change in progress: the new level, and whether it is the faster (R369). -/
  chg    : Option (Nat × Bool) := none
  /-- Level of the thermal limit, and T_CRIT in force (R375). -/
  thLim  : Nat := 0
  crit   : Bool := false
  /-- Instant (ns) of the debug master's last access to each domain (R361). -/
  dbgAt  : List (Nat × Nat) := []
  /-- Ports the power controller holds in electrical idle, and PCI Express ports whose L1 it awaits (R372). -/
  idle   : List Nat := []
  l1Wait : List Nat := []
  /-- Domains whose supply is lost (R407). -/
  lost   : List Nat := []
  /-- Domains that finished their retention save (R360). -/
  saved  : List Nat := []
  /-- Domains whose entry is SAG2 shedding. -/
  shed   : List Nat := []
  deriving DecidableEq, Repr

/-! ### The whole state -/

/-- Faults: conditions the block assumes its environment never causes (R2), for which the manual gives no
behaviour at all. A fault is safe: the machine stops. -/
inductive Fault where
  /-- Raised when a credit returns to a counter that is already at the depth of its buffer (R108): the manual
  names no check and no effect. Safe. -/
  | creditOverflow
  deriving DecidableEq, Repr

/-- Refusals. `notModelled` is answered only by an arm of Machine/Dispatch.lean for a command that has no
meaning yet; a refusal is safe. -/
inductive Refusal where
  | notModelled (mnemonic : String)
  deriving DecidableEq, Repr

/-- The state of the block. -/
structure State where
  /-- Register words that differ from reset, by block-window offset; every other register reads its reset
  value (`resetWord`). -/
  regs  : List (Nat × Word) := []
  /-- The 48-bit statistics counters by the offset of their low word; unlisted counters read 0 (R420). -/
  ctrs  : List (Nat × Nat) := []
  /-- High words latched per master (R10, R35): master × 2^24 + offset. -/
  latch : List (Nat × Nat) := []
  /-- Low words staged per master (R12): master × 2^24 + offset. -/
  staged : List (Nat × Nat) := []
  /-- Outcome of each control master's last access. -/
  acc   : List (Nat × Acc) := []
  /-- The model's own counter of free values (assumption log 1). -/
  fv    : Nat := 0
  tm    : TimeSt := {}
  mesh  : MeshSt := {}
  req   : ReqSt := {}
  cis   : CisSt := {}
  kt    : KtSt := {}
  ord   : OrdSt := {}
  gd    : GdSt := {}
  wh    : WhSt := {}
  irq   : IrqSt := {}
  sch   : SchSt := {}
  bsn   : BsnSt := {}
  lnk   : LnkSt := {}
  pc    : PcSt := {}
  pw    : PwSt := {}
  /-- What has left the block on its ports and pins, newest first (the model's own record, log 4). -/
  sent  : List Sent := []
  /-- The commands that wait, first in, first out. -/
  pending : List Instr := []
  deriving DecidableEq, Repr

/-- The block right after cold reset: every register at its reset value, every memory and queue empty. -/
def State.reset : State := {}

end Sys2Proof.Machine
end

