-- ==== Sys2Proof/Machine/Ops.lean ====
section
/-! DEFINITION. The named operations every meaning is written in: registers and fields, statistics counters,
free values, results of accesses, fabric time, fault records, events and the end of a step. -/

namespace Sys2Proof.Machine

/-- What a meaning answers. -/
abbrev Out := Host.Outcome State Fault Refusal

/-! ### Registers -/

/-- The word a register holds (R8). -/
def State.rd (s : State) (off : Nat) : Nat :=
  match tget s.regs off with
  | some w => w.toNat
  | none => resetWord off

/-- Sets a register word. -/
def State.wr (s : State) (off v : Nat) : State := { s with regs := tset s.regs off (BitVec.ofNat 32 v) }

/-- Reads a field. -/
def State.get (s : State) (f : Fld) : Nat := bits (s.rd f.off) f.lo f.w

/-- Sets a field and leaves the rest of its register. -/
def State.put (s : State) (f : Fld) (v : Nat) : State := s.wr f.off (insBits (s.rd f.off) f.lo f.w v)

/-- A field read as a flag. -/
def State.on (s : State) (f : Fld) : Bool := s.get f != 0

/-- Sets a flag when a condition holds. -/
def State.putIf (s : State) (c : Bool) (f : Fld) (v : Nat) : State := if c then s.put f v else s

/-- Applies a change when a condition holds. -/
def State.doIf (s : State) (c : Bool) (g : State → State) : State := if c then g s else s

/-- Performs a change for each element of a list, in order. -/
def State.forEach {α : Type} (s : State) (l : List α) (g : α → State → State) : State :=
  l.foldl (fun t a => g a t) s

/-! ### Counters -/

/-- The largest count; a counter at it reads with SAT set (R420). -/
def ctrMax : Nat := 2 ^ 48 - 1

def State.cnt (s : State) (off : Nat) : Nat := tgetD s.ctrs off 0

/-- Adds to a statistics counter. The increment that reaches the largest count sets SAT and the group's
saturation bit; later increments are lost (R420). -/
def State.bump (s : State) (off n : Nat) : State :=
  let c := s.cnt off
  let c' := min (c + n) ctrMax
  let s' := { s with ctrs := tset s.ctrs off c' }
  if c < ctrMax ∧ c' = ctrMax then
    s'.wr R_GLB_SAT_EVT (s'.rd R_GLB_SAT_EVT ||| 2 ^ satGroup off)
  else s'

/-- Counts one event. -/
def State.count (s : State) (off : Nat) : State := s.bump off 1

/-- An event that a state table does not list is ignored and counted (R16). -/
def State.smIgnored (s : State) : State := s.count C_GLB_SM_IGNORED

/-- A register write dropped with BUSY is counted (R437). -/
def State.cfgBusy (s : State) : State := s.count C_GLB_CFG_BUSY

/-! ### Free values -/

/-- The next free value of `w` bits, and the state with the counter advanced (assumption log 1). -/
def State.free (s : State) (w : Nat) : Nat × State := (Config.free s.fv % 2 ^ w, { s with fv := s.fv + 1 })

/-- `n` free dwords. -/
def freeWords : Nat → Nat → List Word
  | 0, _ => []
  | n + 1, k => BitVec.ofNat 32 (Config.free k) :: freeWords n (k + 1)

def State.freeList (s : State) (n : Nat) : List Word × State := (freeWords n s.fv, { s with fv := s.fv + n })

/-! ### Results of control accesses -/

/-- The number of a control master (R382). -/
def masterIdx : Master → Nat
  | .portA _ => 0 | .portB => 1 | .wellhead => 2 | .debug => 3

/-- Delivers the outcome of an access to its control master. -/
def State.answer (s : State) (m : Master) (st : Status) (d : Nat) : State :=
  { s with acc := tset s.acc (masterIdx m) ⟨st, BitVec.ofNat 32 d⟩ }

/-- Records something that leaves the block. -/
def State.send (s : State) (x : Sent) : State := { s with sent := x :: s.sent }

/-! ### Fabric time (R32 to R34) -/

/-- Fabric time in whole ns since the epoch. -/
def State.ns (s : State) : Nat := s.tm.now / 2 ^ 32
/-- The NS part. -/
def State.nowNs (s : State) : Nat := s.ns % 1000000000
/-- The SEC part. -/
def State.nowSec (s : State) : Nat := s.ns / 1000000000
/-- The FRAC part, in 2^-16 ns. -/
def State.nowFrac (s : State) : Nat := s.tm.now / 2 ^ 16 % 2 ^ 16
/-- Fabric time as a timestamp in 2^-16 ns. -/
def State.stamp16 (s : State) : Nat := s.tm.now / 2 ^ 16

/-! ### Fault records (R404, R408, R409) -/

/-- The offsets of dwords 0 to 3 of fault record `i`. -/
def fltOff (i d : Nat) : Nat := 0x800 + i * 16 + d * 4

/-- Time of fault record `i` in ns. -/
def State.fltNs (s : State) (i : Nat) : Nat := s.rd (fltOff i 2) * 1000000000 + s.rd (fltOff i 1)

/-- Does a fault of class `c` and unit `u` fold into the newest record (R409)? -/
def State.folds (s : State) (c u : Nat) : Bool :=
  let i := (s.get GLB_FLT_WR_NEXT + 63) % 64
  let secNow := s.nowSec % 2 ^ 32
  s.get GLB_FLT_WR_UNREAD != 0
    && bits (s.rd (fltOff i 0)) 0 8 == c && bits (s.rd (fltOff i 0)) 8 8 == u
    && decide (secNow * 1000000000 + s.nowNs ≤ s.fltNs i + 1000000 ∧ s.fltNs i ≤ secNow * 1000000000 + s.nowNs + 1000000)

/-- Writes a fault record, or folds it into the newest one (R408, R409). `flags` are bits 24 and 25 of
dword 0: PARTNER_LOST and INJECTED. -/
def State.logFault (s : State) (c u detail flags : Nat) : State :=
  let w := s.get GLB_FLT_WR_NEXT
  if s.folds c u then
    let i := (w + 63) % 64
    let d0 := s.rd (fltOff i 0)
    s.wr (fltOff i 0) (insBits d0 16 8 (min (bits d0 16 8 + 1) 255))
  else
    let second := b2n (bits (s.rd R_GLB_ERR_SUM) 1 11 != 0)
    let unread := s.get GLB_FLT_WR_UNREAD
    let s1 := s.wr (fltOff w 0) (c + u % 256 * 2 ^ 8 + flags % 4 * 2 ^ 24 + second * 2 ^ 26)
    let s2 := ((s1.wr (fltOff w 1) s.nowNs).wr (fltOff w 2) s.nowSec).wr (fltOff w 3) detail
    let s3 := s2.put GLB_FLT_WR_NEXT ((w + 1) % 64)
    let s4 := if unread = 64 then
        (s3.put GLB_FLT_RD_OLDEST ((s.get GLB_FLT_RD_OLDEST + 1) % 64)).count C_GLB_FLT_OVF
      else s3.put GLB_FLT_WR_UNREAD (unread + 1)
    s4.wr R_GLB_ERR_SUM (s4.rd R_GLB_ERR_SUM ||| 2 ^ c)

/-- A fault with no record flag. -/
def State.fault (s : State) (c u detail : Nat) : State := s.logFault c u detail 0

/-- GLB_FAULT_GEN advances (R416). -/
def State.faultGen (s : State) : State := s.put GLB_FAULT_GEN_GEN (s.get GLB_FAULT_GEN_GEN + 1)

/-! ### Events and the end of a step (R410, R392) -/

def State.streamEvent (s : State) : State := s.put GLB_EVT_LATCH_STREAM 1
def State.queueEvent (s : State) : State := s.put GLB_EVT_LATCH_QUEUE 1

/-- An RTE event: source 4 has no status bit, so the event sends its message at once (assumption log 5). -/
def State.rteEvent (s : State) : State :=
  if s.get (GLB_EVMAP_HPART 4) ≠ 0 then s.send (.msix (s.get (GLB_EVMAP_HPART 4)) (s.get (GLB_EVMAP_VEC 4))) else s

/-- Does the register at `off`, holding `w`, drive event source `n` high (Table 15-4)? The scan of explicit
register words suffices, because every underlying bit resets to 0. -/
def evtReg (s : State) (n off w : Nat) : Bool :=
  match n with
  | 0 => off == R_GLB_FLT_WR && bits w 8 7 != 0
  | 1 => off == R_TM_STATUS && (w &&& s.rd R_TM_INT_EN &&& 0x1F20) != 0
  | 2 => off == R_GLB_PLANE_STAT && bits w 8 2 != 0
  | 3 => decide (0x200000 ≤ off ∧ off < 0x300000 ∧ off % 0x2000 = 0x10) && bit w 0 && bit (s.rd (off - 0xC)) 4
  | 5 => off == R_GLB_EVT_LATCH && bits w 0 2 != 0
  | 6 => decide (0x100000 ≤ off ∧ off < 0x200000 ∧ 0x8000 ≤ off % 0x10000 ∧ off % 0x10000 < 0x9000 ∧ off % 0x200 = 0x98)
          && (w &&& s.rd (off + 4)) != 0
  | 7 => decide (0x2000 ≤ off ∧ off < 0x3000 ∧ off % 0x40 = 0x14) && (w &&& s.rd (off + 4)) != 0
  | 9 => decide (0x300000 ≤ off ∧ off < 0x3C0000 ∧ off % 0x8000 = 0xC) && (w &&& 0x1A) != 0
  | 10 => decide (0x400000 ≤ off ∧ off < 0x4C0000 ∧ off % 0x10000 = 0x8008) && bit w 0
  | 11 => (off == R_SNAP_EVT 0) && (w &&& s.rd R_SNAP_INT_EN_LO) != 0
          || (off == R_SNAP_EVT 1 && (w &&& s.rd R_SNAP_INT_EN_HI) != 0)
  | 12 => decide (0x50000 ≤ off ∧ off < 0x57800 ∧ off % 0x400 = 0x218) && bit w 31 && bit (s.rd (off - 0x18)) 4
  | 13 => off == R_PW_EVT && (w &&& s.rd R_PW_INT_EN) != 0
  | 14 => (off == R_GLB_WH_STAT && (bit w 3 || bit w 12)) || (off == R_GLB_EVT_LATCH && bit w 2)
  | 15 => off == R_GLB_SAT_EVT && (w &&& s.rd R_GLB_SAT_EN) != 0
  | _ => false

/-- AER errors logged in any virtual port (source 8, R310). -/
def State.pcieErr (s : State) : Bool := !s.pc.aer.isEmpty

/-- The level of source `n` (R410): the OR of its underlying bits, each with its own enable. -/
def State.level (s : State) (n : Nat) : Bool :=
  if n = 8 then s.pcieErr else s.regs.any (fun e => evtReg s n e.1 e.2.toNat)

/-- The interrupt level of mailbox `m` (R392). -/
def State.mbLevel (s : State) (m : Nat) : Bool :=
  (s.on (MB_CTL_INT_EN m) && s.get (MB_STAT_STATE m) == 4) || (s.on (MB_CTL_UP_INT_EN m) && s.on (MB_STAT_UP_EVT m))

/-- GLB_EVT_PEND (R410). -/
def State.evtPend (s : State) : Nat :=
  (List.range 16).foldl (fun a n => a + b2n (s.level n) * 2 ^ n) 0

/-- Levels of all sources, with MBA in bit 16 and MBB in bit 17. -/
def State.levels (s : State) : Nat := s.evtPend + b2n (s.mbLevel 0) * 2 ^ 16 + b2n (s.mbLevel 1) * 2 ^ 17

/-- The message that a rise of level `n` sends: the MSI-X message of its map entry, of the mailbox's own vector,
or an in-band interrupt (R410, R392). -/
def State.rise (s : State) (n : Nat) : List Sent :=
  if n < 16 then
    if s.get (GLB_EVMAP_HPART n) = 0 then [] else [.msix (s.get (GLB_EVMAP_HPART n)) (s.get (GLB_EVMAP_VEC n))]
  else if n = 16 then [.msix (s.get (MB_ISSUER_HPART 0)) (s.get (MB_CTL_VEC 0))]
  else if s.on (MB_CTL_IBI 1) then [.ibi] else []

/-! ### Answers of mailbox commands (R390 to R393) -/

/-! Status codes of Table 14-5. -/

def mOK : Nat := 0
def mREFUSED : Nat := 1
def mBUSY : Nat := 2
def mLOCKED : Nat := 3
def mTIMEOUT : Nat := 4
def mUNAVAILABLE : Nat := 5
def mABORTED : Nat := 6
def mBAD_OPCODE : Nat := 7
def mBAD_LENGTH : Nat := 8
def mSEQ_ERROR : Nat := 9
def mDENIED : Nat := 10
def mFABRIC : Nat := 11

/-! ### Mailbox states (Table 14-9) -/

def mbIDLE : Nat := 0
def mbPENDING : Nat := 1
def mbRUNNING : Nat := 2
def mbPARKED : Nat := 3
def mbDONE : Nat := 4

def State.openCmd (s : State) (mb : Nat) : Option OpenCmd := tget s.wh.cmds mb

/-- Writes consecutive words of a response area. -/
def State.putRsp (s : State) (mb i : Nat) : List Nat → State
  | [] => s
  | w :: r => (s.wr (R_MB_RSP mb i) w).putRsp mb (i + 1) r

/-- Answers the open command of a mailbox: header of Table 14-4, body, MBx_SEQ, DONE (R390, R392). -/
def State.reply (s : State) (mb code reason rflags detail : Nat) (body : List Nat) : State :=
  match s.openCmd mb with
  | none => s
  | some c =>
    let s := s.putRsp mb 0 ((code + reason * 2 ^ 8 + rflags * 2 ^ 16) :: (c.tag + 4 * body.length * 2 ^ 16) :: c.seq :: detail :: body)
    let s := s.doIf (code != mSEQ_ERROR && code != mUNAVAILABLE) (·.put (MB_SEQ_LAST mb) c.seq)
    let s := (s.put (MB_STAT_STATE mb) mbDONE).count (C_MB_CMDS mb)
    { s with wh := { s.wh with cmds := tdel s.wh.cmds mb, rung := s.wh.rung.filter (· ≠ mb) } }

/-- A command that changed the Wellhead's records answers OK after its journal entry (R399). -/
def State.ok (s : State) (mb : Nat) (body : List Nat) : State :=
  ({ s with wh := { s.wh with jfmt := if s.wh.jfmt = 0 then s.wh.imgFmt else s.wh.jfmt } }).reply mb mOK 0 0 0 body

/-- A GUARD_SWAP with WAIT answers once every guard it names shows DONE (R352). -/
def State.guardWaits (s : State) : State :=
  match s.wh.cmds.find? (fun e => match e.2.wait with
    | some (.guardSwap m) => (List.range 30).all (fun n => !bit m n || s.on (GD_FENCE_DONE n))
    | _ => false) with
  | some e => s.ok e.1 []
  | none => s

/-- The end of a step: a message for each level that rose. -/
def State.settle (s : State) : State :=
  let s := s.guardWaits.guardWaits
  let lv := s.levels
  let out := (List.range 18).foldl (fun a n => if bit lv n && !bit s.irq.prev n then s.rise n ++ a else a) []
  { s with irq := { prev := lv }, sent := out ++ s.sent }

/-- The next state of a meaning. -/
def fin (s : State) : Out := .next s.settle

/-- Do the block's clocks stand still: forced retention, or full retention with PD_CORE asleep (R366, R373, R407)? -/
def State.stopped (s : State) : Bool := s.pw.halted || s.pw.full == 2

/-- The next state of what happens in logic that a clock runs: `t`, and nothing at all while the clocks stand still, when every
flit, buffer, timer and state machine keeps its value (R373). -/
def act (s t : State) : Out := .next (if s.stopped then s else t.settle)

end Sys2Proof.Machine
end

