-- ==== Sys2Proof/Machine/Flags.lean ====
section
/-! DEFINITION. Check codes and arithmetic that several rules share: the header check, the flow hash, the CRCs of
CHECK jobs, and the floating-point rules of REDUCE, ALIGN and LIMIT. -/

namespace Sys2Proof.Machine

/-! ### Cyclic redundancy checks -/

/-- Eight shift steps of a most-significant-bit-first CRC of width `w`. -/
def crcShift (w poly : Nat) : Nat → Nat → Nat
  | 0, c => c
  | k + 1, c =>
    let c' := c * 2 % 2 ^ w
    crcShift w poly k (if c / 2 ^ (w - 1) % 2 = 1 then c' ^^^ poly else c')

/-- A CRC without reflection over bytes. -/
def crcMsb (w poly init : Nat) (bs : List Nat) : Nat :=
  bs.foldl (fun c b => crcShift w poly 8 (c ^^^ (b % 256) * 2 ^ (w - 8))) init

/-- Eight shift steps of a reflected CRC with the reflected polynomial. -/
def crcShiftR (poly : Nat) : Nat → Nat → Nat
  | 0, c => c
  | k + 1, c => crcShiftR poly k (if c % 2 = 1 then (c / 2) ^^^ poly else c / 2)

/-- A reflected CRC over bytes, with final XOR. -/
def crcLsb (poly init fin : Nat) (bs : List Nat) : Nat :=
  (bs.foldl (fun c b => crcShiftR poly 8 (c ^^^ (b % 256))) init) ^^^ fin

/-- The CRC-16 of HDR_CHK (R71). -/
def crc16 (bs : List Nat) : Nat := crcMsb 16 0x1021 0xFFFF bs
/-- The CRC-8 of the flow hash and of Control Port B frames (R115, R386). -/
def crc8 (bs : List Nat) : Nat := crcMsb 8 0x07 0 bs
/-- CRC-32C (R214): the polynomial 0x1EDC6F41 reflected. -/
def crc32c (bs : List Nat) : Nat := crcLsb 0x82F63B78 0xFFFFFFFF 0xFFFFFFFF bs
/-- CRC-64 (R214): the polynomial 0x42F0E1EBA9EA3693 reflected. -/
def crc64 (bs : List Nat) : Nat := crcLsb 0xC96C5795D7870F42 0xFFFFFFFFFFFFFFFF 0xFFFFFFFFFFFFFFFF bs

/-- Bytes of dwords, little-endian (R6). -/
def wordsBytes (ws : List Word) : List Nat := ws.flatMap (fun w => leBytes 4 w.toNat)

/-- Dwords of bytes, little-endian; a short tail is filled with zeros. -/
def bytesWords : List Nat → List Word
  | [] => []
  | [a] => [BitVec.ofNat 32 (ofLeBytes [a])]
  | [a, b] => [BitVec.ofNat 32 (ofLeBytes [a, b])]
  | [a, b, c] => [BitVec.ofNat 32 (ofLeBytes [a, b, c])]
  | a :: b :: c :: d :: r => BitVec.ofNat 32 (ofLeBytes [a, b, c, d]) :: bytesWords r

/-! ### Packet header (Table 3-1) -/

/-- Header dword `i` of a packet. -/
def hdrWord (p : Pkt) (i : Nat) : Nat :=
  match i with
  | 0 => p.kind % 256 + p.tc % 8 * 2 ^ 8 + p.vn % 8 * 2 ^ 11 + p.plane % 2 * 2 ^ 14 + p.twin % 2 * 2 ^ 15
          + p.len % 2 ^ 11 * 2 ^ 16 + p.hops % 8 * 2 ^ 27 + p.rsv0 % 4 * 2 ^ 30
  | 1 => p.dest % 2 ^ 24 + p.repoch % 2 * 2 ^ 24 + p.priv % 2 * 2 ^ 25 + p.status % 16 * 2 ^ 26 + p.rsv1 % 4 * 2 ^ 30
  | 2 => p.src % 2 ^ 24 + p.gen % 256 * 2 ^ 24
  | 3 => p.tag % 2 ^ 16 + p.seq % 2 ^ 16 * 2 ^ 16
  | 4 => p.addr % 2 ^ 32
  | 5 => p.addr / 2 ^ 32 % 2 ^ 32
  | 6 => p.pasid % 2 ^ 20 + p.basin % 2 ^ 10 * 2 ^ 20 + p.rsv6 % 4 * 2 ^ 30
  | _ => p.chk % 2 ^ 16 + p.stamp % 2 ^ 16 * 2 ^ 16

/-- HDR_CHK over header bytes 0 to 27, 30 and 31 (R71). -/
def hdrChk (p : Pkt) : Nat :=
  crc16 ((List.range 7).flatMap (fun i => leBytes 4 (hdrWord p i)) ++ leBytes 2 p.stamp)

/-- A packet with its HDR_CHK computed afresh (R70). -/
def reChk (p : Pkt) : Pkt := { p with chk := hdrChk p }

/-- The CRC-8 of a flow: SRC_EID, DEST_EID and TC (R115). -/
def flowHash (src dest tc : Nat) : Nat := crc8 (leBytes 3 src ++ leBytes 3 dest ++ [tc % 8])

/-! ### Floating point (R212, R213, R215) -/

/-- An unpacked floating value: NaN, an infinity, or ± m × 2^e exactly. -/
inductive FVal where
  | nan
  | inf (neg : Bool)
  | num (neg : Bool) (m : Nat) (e : Int)
  deriving DecidableEq, Repr

/-- Unpacks a value with `eb` exponent bits and `mb` fraction bits. -/
def fUnpack (eb mb v : Nat) : FVal :=
  let neg := bit v (eb + mb)
  let ex := bits v mb eb
  let fr := bits v 0 mb
  let bias : Int := 2 ^ (eb - 1) - 1
  if ex = 2 ^ eb - 1 then (if fr = 0 then .inf neg else .nan)
  else if ex = 0 then .num neg fr (1 - bias - mb)
  else .num neg (2 ^ mb + fr) ((ex : Int) - bias - mb)

/-- The canonical quiet NaN of a format (R212). -/
def fNaN (eb mb : Nat) : Nat := (2 ^ eb - 1) * 2 ^ mb + 2 ^ (mb - 1)

/-- Packs with round to nearest, ties to even; subnormals are kept (R212). -/
def fPack (eb mb : Nat) (x : FVal) : Nat :=
  match x with
  | .nan => fNaN eb mb
  | .inf neg => b2n neg * 2 ^ (eb + mb) + (2 ^ eb - 1) * 2 ^ mb
  | .num neg m e =>
    let sgn := b2n neg * 2 ^ (eb + mb)
    if m = 0 then sgn
    else
      let bias : Int := 2 ^ (eb - 1) - 1
      let top : Int := (Nat.log2 m : Int) + e
      let q : Int := max top (1 - bias) - mb
      let mant : Nat :=
        if q ≤ e then m * 2 ^ (e - q).toNat
        else
          let sh := (q - e).toNat
          let lo := m % 2 ^ sh
          let hi := m / 2 ^ sh
          if lo * 2 > 2 ^ sh ∨ (lo * 2 = 2 ^ sh ∧ hi % 2 = 1) then hi + 1 else hi
      let (mant, q) := if 2 ^ (mb + 1) ≤ mant then (mant / 2, q + 1) else (mant, q)
      if mant < 2 ^ mb then sgn + mant
      else
        let f := (q + mb + bias).toNat
        if 2 ^ eb - 1 ≤ f then sgn + (2 ^ eb - 1) * 2 ^ mb
        else sgn + f * 2 ^ mb + (mant - 2 ^ mb)

/-- A signed integer multiple of a power of two, as a value; `zneg` is the sign of a zero result. -/
def fOfInt (v : Int) (e : Int) (zneg : Bool) : FVal :=
  if v = 0 then .num zneg 0 0 else .num (decide (v < 0)) v.natAbs e

/-- ± m as an integer. -/
def fInt (neg : Bool) (m : Nat) : Int := if neg then -(m : Int) else m

/-- Exact sum. -/
def fAdd (a b : FVal) : FVal :=
  match a, b with
  | .nan, _ => .nan
  | _, .nan => .nan
  | .inf n, .inf k => if n = k then .inf n else .nan
  | .inf n, _ => .inf n
  | _, .inf k => .inf k
  | .num n m e, .num k p f =>
    let q := min e f
    let v := fInt n m * 2 ^ (e - q).toNat + fInt k p * 2 ^ (f - q).toNat
    fOfInt v q (n && k)

/-- Exact product. -/
def fMul (a b : FVal) : FVal :=
  match a, b with
  | .nan, _ => .nan
  | _, .nan => .nan
  | .inf n, .inf k => .inf (n != k)
  | .inf n, .num k p _ => if p = 0 then .nan else .inf (n != k)
  | .num n m _, .inf k => if m = 0 then .nan else .inf (n != k)
  | .num n m e, .num k p f => .num (n != k) (m * p) (e + f)

def fNeg : FVal → FVal
  | .nan => .nan
  | .inf n => .inf (!n)
  | .num n m e => .num (!n) m e

/-- Is `a` below `b`? False when either is NaN. -/
def fLt (a b : FVal) : Bool :=
  match a, b with
  | .nan, _ => false
  | _, .nan => false
  | .inf n, .inf k => n && !k
  | .inf n, _ => n
  | _, .inf k => !k
  | .num n m e, .num k p f =>
    let q := min e f
    decide (fInt n m * 2 ^ (e - q).toNat < fInt k p * 2 ^ (f - q).toNat)

/-- A value rounded to a format and unpacked again. -/
def fRound (eb mb : Nat) (x : FVal) : FVal := fUnpack eb mb (fPack eb mb x)

/-- n / d rounded to FP32 (R213): enough quotient bits and a sticky bit decide the rounding. -/
def fRatio (n d : Int) : FVal :=
  if d ≤ 0 then .nan
  else
    let a := n.natAbs
    let q := a * 2 ^ 160 / d.natAbs
    let r := a * 2 ^ 160 % d.natAbs
    fRound 8 23 (.num (decide (n < 0)) (q * 2 + (if r = 0 then 0 else 1)) (-161))

/-! ### Data types of cascade jobs (Table 7-4) -/

/-- Width in bytes of a DTYPE; 0 for a reserved code. -/
def dtBytes (d : Nat) : Nat := [1, 2, 4, 8, 1, 2, 4, 8, 2, 4, 2, 2, 4].getD d 0
/-- Is the DTYPE signed (integers and Q formats)? -/
def dtSigned (d : Nat) : Bool := d < 4 || d == 8 || d == 9
def dtFloat (d : Nat) : Bool := d == 10 || d == 11 || d == 12
/-- Exponent and fraction bits of a floating DTYPE. -/
def dtFmt (d : Nat) : Nat × Nat := if d = 10 then (5, 10) else if d = 11 then (8, 7) else (8, 23)

/-- An integer of a DTYPE read from its bits. -/
def dtInt (d v : Nat) : Int := if dtSigned d then toSigned (8 * dtBytes d) v else (v : Int)

/-- The smallest and largest integer of a DTYPE. -/
def dtMin (d : Nat) : Int := if dtSigned d then -(2 ^ (8 * dtBytes d - 1)) else 0
def dtMax (d : Nat) : Int := if dtSigned d then 2 ^ (8 * dtBytes d - 1) - 1 else 2 ^ (8 * dtBytes d) - 1

/-- Saturates an exact integer to a DTYPE. -/
def dtSat (d : Nat) (v : Int) : Nat := fromSigned (8 * dtBytes d) (clampI (dtMin d) (dtMax d) v)

/-- Rounds p / q (q > 0) to the nearest integer, ties to even (R213). -/
def roundHalfEven (p q : Int) : Int :=
  let f := p / q
  let r := p % q
  if r * 2 > q ∨ (r * 2 = q ∧ f % 2 = 1) then f + 1 else f

end Sys2Proof.Machine
end

