-- ==== Sys2Proof/Machine/Operands.lean ====
section
/-! DEFINITION. How commands name what they act on: endpoint identifiers, address windows, guard addresses and
rule sets, and the cistern decode (R80 to R89, R183 to R199, R338 to R342). -/

namespace Sys2Proof.Machine

/-! ### Endpoint identifiers (R80 to R83) -/

def eidNode (e : Nat) : Nat := e / 4096 % 4096
def eidPort (e : Nat) : Nat := e / 32 % 128
def eidSub (e : Nat) : Nat := e % 32

/-- The EID of the NI at tile `t` of a node. -/
def tileEid (node t : Nat) : Nat := node * 4096 + t * 32 + 31

def State.node (s : State) : Nat := s.get GLB_NODE_ID

/-- Cluster and slot of port number `p` (R82). -/
def portC (p : Nat) : Nat := p / 8
def portK (p : Nat) : Nat := p % 8

def State.portKind (s : State) (p : Nat) : Nat := s.get (PORT_CFG_KIND (portC p) (portK p))
/-- Port kinds of PORT_CFG.KIND (Table 10-8): 0 none, 1 host, 2 downstream, 3 Runnel. -/
def kindHost : Nat := 1
def kindDown : Nat := 2
def kindRunnel : Nat := 3

/-- Index of entry `i` of a port's function map. -/
def fnIdx (p i : Nat) : Nat := portK p * 256 + i

def State.shared (s : State) (p : Nat) : Bool := s.on (PCFG_SHARED (portC p) (portK p))

/-- Partitions a downstream port is bound to (R300). -/
def State.boundParts (s : State) (p : Nat) : List Nat :=
  if s.shared p then
    (((List.range 256).map (fun i => s.get (PORT_FNMAP_HPART (portC p) (fnIdx p i)))).filter (· ≠ 0)).dedup
  else
    let h := s.get (PCFG_DEF_HPART (portC p) (portK p))
    if h = 0 then [] else [h]

/-- The view of partition `h` at a port; partition 0 stands for the port's data path (R300, Table 3-4). -/
def State.viewEid (s : State) (p h : Nat) : Nat := s.node * 4096 + p * 32 + (if h = 0 then 0 else h + 1)

/-- Does port `p` serve the enabled partition `h`: a host port that HOST_A or HOST_B names, or a downstream port bound to it
(R300, R302)? -/
def State.portServes (s : State) (p h : Nat) : Bool :=
  s.on (GLB_HPART_CTL_EN h) &&
    (if s.portKind p = kindHost then
      s.get (GLB_HPART_HOST_A_EID h) == s.viewEid p h || (s.on (GLB_HPART_HOST_B_B_EN h) && s.get (GLB_HPART_HOST_B_EID h) == s.viewEid p h)
    else s.portKind p == kindDown && (s.boundParts p).contains h)

/-- Is partition view `sub` of port `p` allocated: view n + 1 stands for partition n, where the port serves it (R80, R300)? -/
def State.viewAlloc (s : State) (p sub : Nat) : Bool := decide (2 ≤ sub ∧ sub ≤ 30) && s.portServes p (sub - 1)

/-- Is an EID of this node valid (R81)? -/
def State.eidValid (s : State) (e : Nat) : Bool :=
  if eidSub e = 31 then decide (eidPort e < 64) && !passTiles.contains (eidPort e)
  else if s.portKind (eidPort e) = 0 then false
  else if eidSub e < 2 then true
  else s.viewAlloc (eidPort e) (eidSub e)

/-- The tile of the NI that takes a packet for a local EID off the mesh (R105). -/
def localTile (e : Nat) : Nat := if eidSub e = 31 then eidPort e % 64 else ptTile (eidPort e / 8)

/-! ### Kinds and virtual channels (R75, R84) -/

def kREAD : Nat := 0x01
def kWRITE_P : Nat := 0x02
def kWRITE_NP : Nat := 0x03
def kCPL : Nat := 0x04
def kCPL_D : Nat := 0x05
def kMSG : Nat := 0x06
def kATOMIC : Nat := 0x07
def kRESERVE : Nat := 0x08
def kCOND : Nat := 0x09
def kBARRIER : Nat := 0x0A
def kBACK : Nat := 0x0B
def kTLP : Nat := 0x10
def kTIME : Nat := 0x20
def kMGMT : Nat := 0x21
def kJOB : Nat := 0x30

/-- Class of a packet: 0 posted, 1 non-posted, 2 response, 3 control; 4 for an invalid kind (Table 3-2). -/
def pktClass (p : Pkt) : Nat :=
  if p.kind = kREAD ∨ p.kind = kWRITE_NP ∨ p.kind = kATOMIC ∨ p.kind = kRESERVE ∨ p.kind = kCOND then 1
  else if p.kind = kWRITE_P ∨ p.kind = kMSG ∨ p.kind = kJOB then 0
  else if p.kind = kCPL ∨ p.kind = kCPL_D then 2
  else if p.kind = kBARRIER ∨ p.kind = kBACK ∨ p.kind = kTIME ∨ p.kind = kMGMT then 3
  else if p.kind = kTLP then (match p.tlp with | some t => t.cls | none => 4)
  else 4

/-- Virtual network of a class at a traffic class (Table 3-5). -/
def vnOf (cls tc : Nat) : Nat := if tc = 7 then 3 else if cls = 1 then 0 else if cls = 2 then 1 else if cls = 3 then 4 else 2

/-- Virtual channel of a VN at a traffic class (Table 3-5). -/
def vcOf (vn tc : Nat) : Nat :=
  if vn = 4 then 7 else if vn = 3 then 6 else vn * 2 + (if tc = 4 ∨ tc = 5 then 1 else 0)

/-- Do VN, TC and KIND agree with Table 3-5? -/
def kindOk (p : Pkt) : Bool :=
  let c := pktClass p
  if c = 4 then false
  else if c = 3 then p.tc == 6 && p.vn == 4
  else if p.tc = 7 then p.vn == 3 && c == 0 && p.kind != kJOB
  else decide (p.tc < 6) && p.vn == vnOf c p.tc

/-- Packet size in bytes (R90). -/
def pktBytes (p : Pkt) : Nat :=
  if p.kind = kREAD ∨ p.kind = kRESERVE then 32
  else if p.kind = kTLP then 96 + 4 * p.len else 32 + 4 * p.len

/-- Flits on die (R90). -/
def pktFlits (p : Pkt) : Nat := ceilDiv (pktBytes p) 128

/-- Payload length in dwords that R90 gives. -/
def payloadLen (p : Pkt) : Nat := if p.kind = kREAD ∨ p.kind = kRESERVE then 0 else p.len

/-- LEN that the kind fixes (Table 3-9, order 3). -/
def lenOk (p : Pkt) : Bool :=
  decide (p.len ≤ 1024)
    && (if p.kind = kATOMIC then p.len == 6 else if p.kind = kTIME then p.len == 8
        else if p.kind = kJOB then p.len == 16
        else if p.kind = kCPL ∨ p.kind = kBARRIER ∨ p.kind = kBACK then p.len == 0 else true)
    && p.data.length == payloadLen p

/-- Size of an ATOMIC operand in bytes (R77). -/
def atomicSize (p : Pkt) : Nat := if bit ((p.data.getD 0 0).toNat) 4 then 8 else 4

/-- Does ADDRESS obey R76? -/
def addrOk (p : Pkt) : Bool :=
  let inPage (n : Nat) : Bool := n == 0 || p.addr / 4096 == (p.addr + n - 1) / 4096
  if p.kind = kREAD ∨ p.kind = kWRITE_P ∨ p.kind = kWRITE_NP ∨ p.kind = kRESERVE ∨ p.kind = kCOND then
    p.addr % 4 == 0 && inPage (4 * p.len)
  else if p.kind = kATOMIC then p.addr % atomicSize p == 0 && inPage (atomicSize p)
  else if p.kind = kMSG then p.addr % 65536 != 0
  else if p.kind = kCPL ∨ p.kind = kCPL_D ∨ p.kind = kBACK ∨ p.kind = kTIME then p.addr == 0
  else true

/-- The first check of Table 3-9 that a packet fails at an NI of this node; 0 when it passes all. Check 4 asks
only about EIDs of this node. -/
def State.hdrFail (s : State) (p : Pkt) : Nat :=
  if p.chk ≠ hdrChk p then 1
  else if !kindOk p then 2
  else if !lenOk p then 3
  else if eidNode p.dest = s.node ∧ !s.eidValid p.dest then 4
  else if !addrOk p then 5
  else if pktClass p = 2 ∧ 12 ≤ p.status then 6
  else 0

/-! ### Address windows (R87 to R89) -/

structure WinHit where
  dest : Nat
  addr : Nat
  tc   : Nat
  deriving DecidableEq, Repr

/-- A 64-bit value held in two registers. -/
def State.rd64 (s : State) (lo : Nat) : Nat := s.rd lo + s.rd (lo + 4) * 2 ^ 32

/-- Does the window or stream window at block base `b` match an address from port slot `slot` (R88)? -/
def State.winHit (s : State) (b a : Nat) (slot : Option Nat) : Bool :=
  let sz := s.get (WIN_CTL_SIZE b)
  let base := s.rd64 b
  let xlat := s.rd64 (b + 0x10)
  s.on (WIN_CTL_EN b) && decide (12 ≤ sz ∧ sz ≤ 48) && decide (base % 2 ^ sz = 0 ∧ xlat % 2 ^ sz = 0)
    && decide (base ≤ a ∧ a < base + 2 ^ sz)
    && (match slot with | none => true | some k => bit (s.get (WIN_CTL_PORT_MASK b)) k)

/-- The lowest-numbered window of tile `t` that matches (R88). -/
def State.winLookup (s : State) (t a : Nat) (slot : Option Nat) : Option WinHit :=
  match (List.range (winCount t)).find? (fun n => s.winHit (winBase t n) a slot && decide (s.get (WIN_CTL_TC (winBase t n)) < 6)) with
  | none => none
  | some n =>
    let b := winBase t n
    some ⟨s.get (WIN_DEST_DEST_EID b), s.rd64 (b + 0x10) + (a - s.rd64 b), s.get (WIN_CTL_TC b)⟩

/-- Cuts a byte range at every multiple of `q` it crosses; `fuel` bounds the number of parts. -/
def cutEvery (q : Nat) : Nat → Nat → Nat → List (Nat × Nat)
  | 0, _, _ => []
  | fuel + 1, a, n =>
    if n = 0 then []
    else
      let room := q - a % q
      if n ≤ room then [(a, n)] else (a, room) :: cutEvery q fuel (a + room) (n - room)

/-- The parts of R89: windows are 4 KiB-aligned, so every window boundary is a 4 KiB boundary. -/
def pageParts (a n : Nat) : List (Nat × Nat) := cutEvery 4096 (n / 4096 + 2) a n

/-! ### Guards (R338 to R342) -/

inductive Perm where
  | r | w | atomic
  deriving DecidableEq, Repr

/-- Base of region `r` of set `st` of guard `n` (Table 12-6). -/
def rgnBase (n st r : Nat) : Nat := 0x50000 + n * 0x400 + st * 0x100 + r * 0x10

structure Rgn where
  base : Nat
  size : Nat
  ctl  : Nat
  deriving DecidableEq, Repr

/-- Enabled regions of a set. -/
def State.rgns (s : State) (n st : Nat) : List Rgn :=
  ((List.range 16).map (fun r =>
    let b := rgnBase n st r
    (⟨s.rd64 b, bits (s.rd (b + 8)) 8 6, s.rd (b + 8)⟩ : Rgn))).filter (fun g => bit g.ctl 0)

def Rgn.wellFormed (g : Rgn) : Bool := decide (6 ≤ g.size ∧ g.size ≤ 48) && decide (g.base % 2 ^ g.size = 0)

def Rgn.hasPerm (g : Rgn) (p : Perm) : Bool := bit g.ctl (match p with | .r => 1 | .w => 2 | .atomic => 3)

/-- Cuts a range at the boundaries in a list (R341). -/
def cutAt (bs : List Nat) (a n : Nat) : List (Nat × Nat) :=
  let inner := (bs.filter (fun b => decide (a < b ∧ b < a + n))).insertionSort (· ≤ ·) |>.dedup
  let pts := a :: inner ++ [a + n]
  (pts.zip pts.tail).map (fun e => (e.1, e.2 - e.1))

/-- Parts of a range under a set: split at every boundary of an enabled, well-formed region. -/
def State.guardParts (s : State) (n st a len : Nat) : List (Nat × Nat) :=
  let gs := (s.rgns n st).filter (·.wellFormed)
  cutAt (gs.flatMap (fun g => [g.base, g.base + 2 ^ g.size])) a len

/-- The verdict on one part: 0 passes, otherwise its VKIND (R341, Table 12-7). -/
def State.guardPart (s : State) (n st : Nat) (priv : Bool) (pm : Perm) (a len : Nat) : Nat :=
  let m := ((s.rgns n st).filter (·.wellFormed)).filter (fun g => decide (g.base ≤ a ∧ a + len ≤ g.base + 2 ^ g.size))
  match m with
  | [] =>
    if priv then
      (if s.on (match pm with | .r => GD_SCTL_DEF_R n st | .w => GD_SCTL_DEF_W n st | .atomic => GD_SCTL_DEF_ATOMIC n st)
       then 0 else 5)
    else 1
  | [g] => if bit g.ctl 4 && !priv then 3 else if g.hasPerm pm then 0 else 4
  | _ => 2

/-- The active set of a guard. -/
def State.activeSet (s : State) (n : Nat) : Nat := s.get (GD_STAT_ACTIVE n)

/-- The permission a kind or TLP needs (Table 12-2); `none` where it is not checked against regions. -/
def permOf (kind : Nat) : Option Perm :=
  if kind = kREAD ∨ kind = kRESERVE then some .r
  else if kind = kWRITE_P ∨ kind = kWRITE_NP ∨ kind = kCOND then some .w
  else if kind = kATOMIC then some .atomic else none

/-- What a first-violation record says of the access. -/
structure GuardWho where
  kind  : Nat
  priv  : Bool
  port  : Nat
  basin : Nat
  rid   : Nat
  src   : Nat
  deriving DecidableEq, Repr

/-- Counts a failing part and records the first one, with its class 12 record (R343). -/
def State.guardViol (s : State) (n st vk a : Nat) (g : GuardWho) : State :=
  let s := s.count (C_GD_VIOL n)
  if s.on (GD_FIRST2_VALID n) then s
  else
    let w2 := g.kind % 256 + vk * 2 ^ 8 + st * 2 ^ 12 + b2n g.priv * 2 ^ 13 + g.port % 128 * 2 ^ 14
                + g.basin % 1024 * 2 ^ 21 + 2 ^ 31
    let s := ((s.wr (R_GD_FIRST0 n) a).wr (R_GD_FIRST1 n) (a / 2 ^ 32)).wr (R_GD_FIRST2 n) w2
    let s := (s.wr (R_GD_FIRST3 n) (g.rid % 65536 + g.src % 4096 * 65536)).wr (R_GD_FIRST4 n) s.nowNs
    s.fault 12 n vk

/-- RGN_BAD at a check made under a set with a malformed enabled region (R340). -/
def State.guardBad (s : State) (n st : Nat) : State :=
  s.putIf ((s.rgns n st).any (fun g => !g.wellFormed)) (GD_STAT_RGN_BAD n) 1

/-- A guard checks one more access; it gets a number, which all its parts share (R345). -/
def State.guardNext (s : State) : State := { s with gd := { s.gd with acc := s.gd.acc + 1 } }

/-- The tag of a part of the access that guard `n` checked last: the guard, and the number of the access with the set used. -/
def State.guardTag (s : State) (n : Nat) : Nat × Nat := (n, 2 * s.gd.acc + s.activeSet n)

/-- Checks an access given as its parts of R89: the parts that pass, and the state with failures counted. A whole
access (RESERVE_READ, COND_WRITE, ATOMIC) is never divided (R342). -/
def State.guardCheck (s : State) (n : Nat) (pm : Perm) (whole : Bool) (g : GuardWho) (ps : List (Nat × Nat)) :
    List (Nat × Nat) × State :=
  let st := s.activeSet n
  let s := (s.guardNext).guardBad n st
  let parts := ps.flatMap (fun p => s.guardParts n st p.1 p.2)
  let s := s.doIf (!whole && decide (ps.length < parts.length)) (·.count (C_GD_SPLIT n))
  let vk := parts.map (fun p => (p, s.guardPart n st g.priv pm p.1 p.2))
  if whole then
    match vk.find? (fun e => e.2 ≠ 0) with
    | some e => ([], s.guardViol n st e.2 e.1.1 g)
    | none => if ps.length < parts.length then ([], s.guardViol n st 7 ((ps.head?.map (·.1)).getD 0) g) else (ps, s)
  else
    ((vk.filter (fun e => e.2 == 0)).map (·.1), s.forEach (vk.filter (fun e => e.2 != 0)) (fun e t => t.guardViol n st e.2 e.1.1 g))

/-- The check of a MSG or CASCADE_JOB (R339). -/
def State.guardMsg (s : State) (n : Nat) (g : GuardWho) (a : Nat) : Bool × State :=
  let st := s.activeSet n
  let s := (s.guardNext).guardBad n st
  if g.priv || s.on (GD_SCTL_MSG_EN n st) then (true, s) else (false, s.guardViol n st 6 a g)

/-- Accesses of guard `n` that were checked under set `st` and have a part that has not retired. -/
def State.guardCount (s : State) (n st : Nat) : Nat := (s.gd.open_.filter (fun e => e.1 % 32 == n && e.1 / 32 % 2 == st)).length

/-- FENCE shows the accesses of the set that is not active (R345). -/
def State.showFence (s : State) (n : Nat) : State :=
  let c := s.guardCount n (1 - s.activeSet n)
  (s.put (GD_FENCE_OLD n) c).put (GD_FENCE_DONE n) (b2n (c = 0))

/-- A part of access `k` of guard `n` enters, or retires (R345). -/
def State.guardOpen (s : State) (n k : Nat) (up : Bool) : State :=
  let c := tgetD s.gd.open_ (k * 32 + n) 0
  let c' := if up then c + 1 else c - 1
  let s := { s with gd := { s.gd with open_ := tput 0 s.gd.open_ (k * 32 + n) c' } }
  if k % 2 = s.activeSet n then s else s.showFence n

/-- A write to both copies of a mirrored partition counts once more under its guard set. -/
def State.guardOpenAgain (s : State) (g : Option (Nat × Nat)) : State :=
  match g with | some (n, st) => s.guardOpen n st true | none => s

def State.guardRetire (s : State) (g : Option (Nat × Nat)) : State :=
  match g with
  | none => s
  | some (n, st) => s.guardOpen n st false

/-! ### Cistern decode (R183 to R199) -/

def cisEnd : Nat := 0x6000000
def viewBase : Nat := 0x8000000
def viewEnd : Nat := 0xC000000

/-- Bank of a real cistern address. -/
def bankOf (a : Nat) : Nat := a / 0x400000

/-- Base and end of partition `n`. -/
def State.partBase (s : State) (n : Nat) : Nat := s.get (PART_BASE_BASE n) * 65536
def State.partEnd (s : State) (n : Nat) : Nat := s.partBase n + s.get (PART_SIZE_UNITS n) * 65536

/-- The partition that governs an address: the lowest-numbered enabled one (R190). -/
def State.partOf (s : State) (a : Nat) : Option Nat :=
  (List.range 32).find? (fun n => s.on (PART_CTL_EN n) && decide (s.partBase n ≤ a ∧ a < s.partEnd n))

/-- The mirror offset in bytes of a partition; 0 where it acts as unmirrored (R192). -/
def State.mirrorOf (s : State) (n : Nat) : Nat :=
  let m := s.get (PART_CTL_MOFS n)
  if 1 ≤ m ∧ m ≤ 23 ∧ s.partEnd n + m * 0x400000 ≤ cisEnd then m * 0x400000 else 0

/-- Is an address, primary or copy, inside a sealed partition that is enabled (R185, R194; assumption log 80)? -/
def State.sealed (s : State) (a : Nat) : Bool :=
  (List.range 32).any (fun n => s.on (PART_CTL_EN n) && s.on (PART_CTL_SEAL n) &&
    (decide (s.partBase n ≤ a ∧ a < s.partEnd n) ||
      (s.mirrorOf n != 0 && decide (s.partBase n + s.mirrorOf n ≤ a ∧ a < s.partEnd n + s.mirrorOf n))))

/-- Is an address in a mirrored partition or its copy? -/
def State.mirrored (s : State) (a : Nat) : Bool :=
  (List.range 32).any (fun n => s.on (PART_CTL_EN n) && s.mirrorOf n != 0 &&
    (decide (s.partBase n ≤ a ∧ a < s.partEnd n) || decide (s.partBase n + s.mirrorOf n ≤ a ∧ a < s.partEnd n + s.mirrorOf n)))

/-- Buffers of snapshot object `n`. -/
def State.snapBufs (s : State) (n : Nat) : Nat := if s.on (SNAP_CTL_TWIN n) then 4 else 3
def State.snapSize (s : State) (n : Nat) : Nat := clampN 12 20 (s.get (SNAP_CTL_SIZE n))
def State.snapBase (s : State) (n : Nat) : Nat := s.get (SNAP_BASE_BASE n) * 4096

/-- Is object `n` enabled: EN set and every buffer inside a SNAP partition (R191, R196)? -/
def State.snapOn (s : State) (n : Nat) : Bool :=
  s.on (SNAP_CTL_EN n) && s.snapBase n % 2 ^ s.snapSize n == 0 &&
    (match s.partOf (s.snapBase n) with
     | none => false
     | some q => s.get (PART_CTL_USE q) == 2 && decide (s.snapBase n + s.snapBufs n * 2 ^ s.snapSize n ≤ s.partEnd q))

/-- Is trace ring `r` enabled: EN set and its range inside a TRACE partition (R181, R191)? -/
def State.ringOn (s : State) (r : Nat) : Bool :=
  let base := s.rd64 (R_TL_BASE_LO r)
  s.on (TL_CTL_EN r) &&
    (match s.partOf base with
     | none => false
     | some q => s.get (PART_CTL_USE q) == 4 && decide (base + 2 ^ clampN 12 24 (s.get (TL_CTL_SIZE r)) ≤ s.partEnd q))

/-- Where a cistern address leads: nowhere, a commit of an object, or a real address with its copy. -/
inductive CisPlace where
  | bad
  | commit (n : Nat)
  | at_ (a : Nat) (copy : Option Nat) (part : Option Nat) (obj : Option (Nat × Nat))
  deriving DecidableEq, Repr

/-- A real address under its partition. -/
def State.cisReal (s : State) (a : Nat) (obj : Option (Nat × Nat)) : CisPlace :=
  if cisEnd ≤ a then .bad
  else match s.partOf a with
    | none => .at_ a none none obj
    | some n => .at_ a (if s.mirrorOf n = 0 then none else some (a + s.mirrorOf n)) (some n) obj

/-- The cistern decode of R185; `secondary` is a frame program with ROLE secondary (R197). -/
def State.cisDecode (s : State) (a : Nat) (write secondary : Bool) : CisPlace :=
  if a < cisEnd then s.cisReal a none
  else if viewBase ≤ a ∧ a < viewEnd then
    let n := (a - viewBase) / 0x100000
    let v := (a - viewBase) % 0x100000
    if !s.snapOn n then .bad
    else if write && s.on (SNAP_CTL_MODE n) && v / 4 == 0xFFFF8 / 4 then .commit n
    else if 2 ^ s.snapSize n ≤ v then .bad
    else
      let buf := if !write then s.get (SNAP_STAT_PUB n) else if secondary then s.get (SNAP_STAT_WORK1 n) else s.get (SNAP_STAT_WORK0 n)
      s.cisReal (s.snapBase n + buf * 2 ^ s.snapSize n + v) (some (n, v))
  else .bad

/-- A write is divided at the commit dword of a HOST-mode object's view, which takes no data (R197). -/
def State.commitCuts (s : State) (a n : Nat) : List (Nat × Nat) :=
  let c := a / 0x100000 * 0x100000 + 0xFFFF8
  if viewBase ≤ a ∧ a < viewEnd ∧ s.on (SNAP_CTL_MODE ((a - viewBase) / 0x100000)) then cutAt [c, c + 4] a n else [(a, n)]

/-- The copy a read goes to (R192): the primary, unless it is lost. -/
def State.readCopy (s : State) (a : Nat) (copy part : Option Nat) : Nat :=
  match copy, part with
  | some c, some n => if s.on (PART_STAT_DEGRADED n) && !s.on (PART_STAT_LOST n) then c else a
  | _, _ => a

/-- The copies a write goes to (R192). -/
def State.writeCopies (s : State) (a : Nat) (copy part : Option Nat) : List Nat :=
  match copy, part with
  | some c, some n =>
    if s.on (PART_STAT_DEGRADED n) then (if s.on (PART_STAT_LOST n) then [a] else [c]) else [a, c]
  | _, _ => [a]

/-! ### Cistern bytes -/

/-- A byte of the cistern; a byte nothing has written reads 0 (assumption log 2). -/
def memByte (m : List Host.Cell) (a : Nat) : Nat := (tgetD m a (0 : BitVec 8)).toNat

def memSet (m : List Host.Cell) (a v : Nat) : List Host.Cell := tput (0 : BitVec 8) m a (BitVec.ofNat 8 v)

def memRead (m : List Host.Cell) (a : Nat) : Nat → List Nat
  | 0 => []
  | n + 1 => memByte m a :: memRead m (a + 1) n

def memWrite (m : List Host.Cell) (a : Nat) : List Nat → List Host.Cell
  | [] => m
  | b :: r => memWrite (memSet m a b) (a + 1) r

/-- The canonical form of a memory: addresses strictly rising, and no entry that reads as an unlisted one. -/
def memWf (m : List Host.Cell) : Bool := tsorted m && m.all (fun c => c.2 != 0)

def State.cisRead (s : State) (a n : Nat) : List Nat := memRead s.cis.mem a n
def State.cisWrite (s : State) (a : Nat) (bs : List Nat) : State := { s with cis := { s.cis with mem := memWrite s.cis.mem a bs } }

end Sys2Proof.Machine
end

