-- ==== Sys2Proof/Machine/Wire.lean ====
section
/-! DEFINITION. What packets and link flits are in bytes: the PCI Express encapsulation block, the flits of the die, the Runnel
flit with its link header, link words, CRC-64 and Reed–Solomon code, training blocks and map markers (R68, R90 to R92,
R259, R261 to R266, R278, R286). -/

namespace Sys2Proof.Machine

/-! ### TLPs (R92) -/

/-- A TLP with every field zero. -/
def tlp0 : Tlp := ⟨0, 0, 4, 0, 0, 0, 0, 0, 0, 0, 0, 0, 0, none, false, 0, 0⟩

/-- TLP types by which the block steers (the codes are the model's, assumption log 16). -/
def tyMRd : Nat := 0
def tyMWr : Nat := 1
def tyDMWr : Nat := 2
def tyAtomic : Nat := 3
def tyCfgRd : Nat := 4
def tyCfgWr : Nat := 5
def tyMsg : Nat := 6
def tyVdm : Nat := 7
def tyCpl : Nat := 8
def tyCplD : Nat := 9
def tyAts : Nat := 10
def tyBad : Nat := 11

/-- Bytes of a number, the most significant first, as a TLP header carries it. -/
def beBytes (n v : Nat) : List Nat := (leBytes n v).reverse
def ofBeBytes (bs : List Nat) : Nat := ofLeBytes bs.reverse

/-- The TYPE field of a TLP, of 5 bits (log 88). -/
def tlpCode (x : Tlp) : Nat :=
  if x.typ = tyDMWr then 27 else if x.typ = tyAtomic then 12 else if x.typ = tyCfgRd ∨ x.typ = tyCfgWr then 4
  else if x.typ = tyMsg ∨ x.typ = tyVdm then 16 else if x.typ = tyCpl ∨ x.typ = tyCplD then 10 else 0

/-- Does the TLP carry data, and is its header four dwords long without prefixes? -/
def tlpHasData (x : Tlp) : Bool := [tyMWr, tyDMWr, tyAtomic, tyCfgWr, tyCplD].contains x.typ
def tlpLong (x : Tlp) : Bool := x.typ == tyMsg || x.typ == tyVdm || ([tyMRd, tyMWr, tyDMWr, tyAtomic, tyAts].contains x.typ && decide (2 ^ 32 ≤ x.addr))

/-- Dwords of the header without prefixes. -/
def tlpBase (x : Tlp) : Nat := if tlpLong x then 4 else 3

/-- The header of a TLP in link transmission order: its prefixes, a PASID first, then the request, completion or message
header, with `n` data dwords (assumption log 88). -/
def tlpHeader (x : Tlp) (n : Nat) : List Nat :=
  let pre := x.hlen - tlpBase x
  let pas := match x.pasid with | some v => [0x91] ++ beBytes 3 v | none => [0x9E, 0, 0, 0]
  let prefixes := if pre = 0 then [] else pas ++ (List.replicate (pre - 1) [0x9E, 0, 0, 0]).flatten
  let len := if x.typ = tyMRd ∨ x.typ = tyAts then x.bytes / 4 % 1024 else n % 1024
  let w0 := (b2n (tlpHasData x) * 2 + b2n (tlpLong x)) * 2 ^ 29 + tlpCode x * 2 ^ 24 + x.tag / 512 % 2 * 2 ^ 23 + x.ptc % 8 * 2 ^ 20
    + x.tag / 256 % 2 * 2 ^ 19 + x.attr / 4 % 2 * 2 ^ 18 + b2n x.ep * 2 ^ 14 + (x.attr / 2 % 2 * 2 + x.attr % 2) * 2 ^ 12
    + x.attr / 16 % 2 * 2 ^ 15 + (if x.typ = tyAts then 1 else x.attr / 8 % 2 * 2) * 2 ^ 10 + len
  let rest :=
    if x.typ = tyCpl ∨ x.typ = tyCplD then
      beBytes 2 x.cid ++ beBytes 2 (x.cplst % 8 * 2 ^ 13 + x.bytes % 4096) ++ beBytes 2 x.rid ++ [x.tag % 256, x.addr % 128]
    else if x.typ = tyMsg then beBytes 2 x.rid ++ [x.tag % 256, x.msg % 256] ++ beBytes 4 x.cid ++ beBytes 4 (x.msg / 256)
    else if x.typ = tyVdm then beBytes 2 x.rid ++ [x.tag % 256, 0x7F] ++ beBytes 4 x.cid ++ beBytes 4 x.msg
    else beBytes 2 x.rid ++ [x.tag % 256, x.lbe % 16 * 16 + x.fbe % 16] ++
      (if x.typ = tyCfgRd ∨ x.typ = tyCfgWr then beBytes 2 x.cid ++ beBytes 2 (x.addr % 1024 * 4)
       else if tlpLong x then beBytes 8 (x.addr / 4 * 4) else beBytes 4 (x.addr / 4 * 4))
  prefixes ++ beBytes 4 w0 ++ rest

/-- The 64-byte encapsulation block of a TLP with `n` data dwords (R92). -/
def tlpBlock (x : Tlp) (n : Nat) : List Nat :=
  let h := (tlpHeader x n).take 60
  [x.hlen % 16 + x.cls % 4 * 16, x.part % 256, 0, 0] ++ h ++ List.replicate (60 - h.length) 0

/-- Dwords of prefixes at the head of a TLP header, and the PASID they carry. -/
def tlpPrefixes : Nat → List Nat → Nat × Option Nat
  | 0, _ => (0, none)
  | f + 1, bs =>
    if bs.headD 0 / 32 ≠ 4 then (0, none)
    else
      let r := tlpPrefixes f (bs.drop 4)
      (r.1 + 1, if bs.headD 0 = 0x91 then some (ofBeBytes ((bs.drop 1).take 3) % 2 ^ 20) else r.2)

/-- The type of a TLP by the first dword of its header and the message code. -/
def tlpTypeOf (w0 code : Nat) : Nat :=
  let t := bits w0 24 5
  let d := bit w0 30
  if t = 27 then tyDMWr else if 12 ≤ t ∧ t ≤ 14 then tyAtomic else if t = 4 ∨ t = 5 then (if d then tyCfgWr else tyCfgRd)
  else if 16 ≤ t ∧ t ≤ 23 then (if code = 0x7F ∨ code = 0x7E then tyVdm else tyMsg) else if t = 10 then (if d then tyCplD else tyCpl)
  else if t = 0 then (if d then tyMWr else if bits w0 10 2 = 1 then tyAts else tyMRd) else tyBad

/-- The TLP that an encapsulation block holds (R92, assumption log 88). -/
def tlpOfBlock (bs : List Nat) : Tlp :=
  let hlen := bs.getD 0 0 % 16
  let hb := (bs.drop 4).take (4 * hlen)
  let (pre, pas) := tlpPrefixes 12 hb
  let h := hb.drop (4 * pre)
  let w0 := ofBeBytes (h.take 4)
  let be (i n : Nat) : Nat := ofBeBytes ((h.drop i).take n)
  let ty := tlpTypeOf w0 (be 7 1)
  let long := bit w0 29
  let x : Tlp := { tlp0 with
    cls := bs.getD 0 0 / 16 % 4, part := bs.getD 1 0, hlen := hlen, typ := ty, ptc := bits w0 20 3, ep := bit w0 14, pasid := pas
    attr := bits w0 12 2 + bits w0 18 1 * 4 + (if bits w0 10 2 = 2 then 8 else 0) + bits w0 15 1 * 16, tag := be 6 1 + bits w0 19 1 * 256 + bits w0 23 1 * 512, rid := be 4 2 }
  if ty = tyCpl ∨ ty = tyCplD then
    { x with cid := be 4 2, cplst := be 6 2 / 2 ^ 13, bytes := be 6 2 % 4096, rid := be 8 2, tag := be 10 1 + bits w0 19 1 * 256 + bits w0 23 1 * 512, addr := be 11 1 }
  else if ty = tyMsg then { x with cid := be 8 4, msg := be 7 1 + be 12 4 * 256 }
  else if ty = tyVdm then { x with cid := be 8 4, msg := be 12 4 }
  else if ty = tyCfgRd ∨ ty = tyCfgWr then { x with fbe := be 7 1 % 16, lbe := be 7 1 / 16, cid := be 8 2, addr := be 10 2 / 4 }
  else
    let len := bits w0 0 10
    let bytes := if ty = tyMRd ∨ ty = tyAts then 4 * (if len = 0 then 1024 else len) else 0
    { x with fbe := be 7 1 % 16, lbe := be 7 1 / 16, addr := (if long then be 8 8 else be 8 4), bytes := bytes }

/-! ### Packets (R68, R90) -/

/-- The 32 header bytes of a packet (Table 3-1). -/
def hdrBytes (p : Pkt) : List Nat := (List.range 8).flatMap (fun i => leBytes 4 (hdrWord p i))

/-- A packet in bytes: header, encapsulation block of a PCIE_TLP, payload. -/
def pktWire (p : Pkt) : List Nat :=
  hdrBytes p ++ (if p.kind = kTLP then tlpBlock (p.tlp.getD tlp0) p.data.length else []) ++ wordsBytes (p.data.take (payloadLen p))

/-- The header that 32 bytes hold, with no payload. -/
def pktOfHdr (bs : List Nat) : Pkt :=
  let w (i : Nat) : Nat := ofLeBytes ((bs.drop (4 * i)).take 4)
  { kind := bits (w 0) 0 8, tc := bits (w 0) 8 3, vn := bits (w 0) 11 3, plane := bits (w 0) 14 1, twin := bits (w 0) 15 1
    len := bits (w 0) 16 11, hops := bits (w 0) 27 3, rsv0 := bits (w 0) 30 2
    dest := bits (w 1) 0 24, repoch := bits (w 1) 24 1, priv := bits (w 1) 25 1, status := bits (w 1) 26 4, rsv1 := bits (w 1) 30 2
    src := bits (w 2) 0 24, gen := bits (w 2) 24 8, tag := bits (w 3) 0 16, seq := bits (w 3) 16 16
    addr := w 4 + w 5 * 2 ^ 32, pasid := bits (w 6) 0 20, basin := bits (w 6) 20 10, rsv6 := bits (w 6) 30 2
    chk := bits (w 7) 0 16, stamp := bits (w 7) 16 16, data := [], tlp := none }

/-- The packet that bytes hold. -/
def pktOfWire (bs : List Nat) : Pkt :=
  let p := pktOfHdr bs
  if p.kind = kTLP then { p with tlp := some (tlpOfBlock ((bs.drop 32).take 64)), data := bytesWords ((bs.drop 96).take (4 * p.len)) }
  else { p with data := bytesWords ((bs.drop 32).take (4 * payloadLen p)) }

/-- Bytes filled with zeros up to a length. -/
def padTo (n : Nat) (bs : List Nat) : List Nat := bs ++ List.replicate (n - bs.length) 0

/-- A flit of the die: sideband bits HEAD and TAIL, and 128 bytes (R90, R91). -/
structure DieFlit where
  head  : Bool
  tail  : Bool
  bytes : List Nat
  deriving DecidableEq, Repr

/-- Flit `i` of a packet: 128 packet bytes, the last flit's unused tail zero. -/
def dieFlit (p : Pkt) (i : Nat) : DieFlit :=
  ⟨i == 0, i + 1 == pktFlits p, padTo 128 (((pktWire p).drop (128 * i)).take 128)⟩

/-- The flits of a packet. -/
def dieFlits (p : Pkt) : List DieFlit := (List.range (pktFlits p)).map (dieFlit p)

/-! ### Link words (Table 9-4) -/

def lwEMPTY : Nat := 0
def lwACK : Nat := 1
def lwCREDIT : Nat := 2
def lwMAP_REQ : Nat := 3
def lwMAP_RSP : Nat := 4
def lwLANES_READY : Nat := 5
def lwLANE_FAIL : Nat := 6
def lwSTOP : Nat := 7
def lwRETRAIN : Nat := 8

def ackWord (seq : Nat) (nak : Bool) : Nat := lwACK + seq % 2 ^ 16 * 2 ^ 8 + b2n nak * 2 ^ 24
def creditWord (vn cum : Nat) : Nat := lwCREDIT + vn % 8 * 2 ^ 8 + cum % 2 ^ 32 * 2 ^ 32
def mapReqWord (rid kind width lane map node : Nat) : Nat :=
  lwMAP_REQ + rid % 256 * 2 ^ 8 + kind % 4 * 2 ^ 16 + width % 32 * 2 ^ 18 + lane % 16 * 2 ^ 24 + map % 2 ^ 16 * 2 ^ 32 + node % 4096 * 2 ^ 48
def mapRspWord (rid : Nat) (accept : Bool) (reason : Nat) : Nat := lwMAP_RSP + rid % 256 * 2 ^ 8 + b2n accept * 2 ^ 16 + reason % 8 * 2 ^ 17
def readyWord (rid : Nat) : Nat := lwLANES_READY + rid % 256 * 2 ^ 8
def laneFailWord (lane cause : Nat) : Nat := lwLANE_FAIL + lane % 16 * 2 ^ 8 + cause % 4 * 2 ^ 12

/-! ### The CRC and the code of a flit (R264, R265) -/

/-- The CRC-64 of a flit: not reflected (R264). -/
def flitCrc (bs : List Nat) : Nat := crcMsb 64 0x42F0E1EBA9EA3693 0xFFFFFFFFFFFFFFFF bs

/-- Multiplication in GF(2^8) with polynomial 0x11D: `a` times the `n` low bits of `b`. -/
def gfMulBits : Nat → Nat → Nat → Nat
  | 0, _, _ => 0
  | n + 1, a, b =>
    let a' := if a < 128 then 2 * a else (2 * a) ^^^ 0x11D
    (if b % 2 = 1 then a else 0) ^^^ gfMulBits n a' (b / 2)

def gfMul (a b : Nat) : Nat := gfMulBits 8 a b

/-- α^n for α = 2. -/
def gfPow : Nat → Nat
  | 0 => 1
  | n + 1 => gfMul 2 (gfPow n)

/-- The inverse of a nonzero element: its 254th power. -/
def gfInv (a : Nat) : Nat :=
  let a2 := gfMul a a
  let a4 := gfMul a2 a2
  let a8 := gfMul a4 a4
  let a16 := gfMul a8 a8
  let a32 := gfMul a16 a16
  let a64 := gfMul a32 a32
  gfMul a2 (gfMul a4 (gfMul a8 (gfMul a16 (gfMul a32 (gfMul a64 (gfMul a64 a64))))))

/-- The generator polynomial with roots α^0 to α^3, its leading coefficient 1 left out. -/
def rsGen : List Nat := [15, 54, 120, 64]

/-- The four parity bytes of data bytes, of which the first has the highest power (assumption log 89). -/
def rsParity (d : List Nat) : List Nat :=
  d.foldl (fun r x =>
    let f := (r.headD 0) ^^^ (x % 256)
    (rsGen.zip (r.drop 1 ++ [0])).map (fun e => gfMul f e.1 ^^^ e.2)) [0, 0, 0, 0]

/-- Value of a codeword, first byte of the highest power, at α^i. -/
def rsSyn (i : Nat) (c : List Nat) : Nat := c.foldl (fun a x => gfMul a (gfPow i) ^^^ (x % 256)) 0

/-- Replaces the byte at a place by its sum with `e`. -/
def fixAt (c : List Nat) (k e : Nat) : List Nat := c.set k (c.getD k 0 ^^^ e)

/-- What the decoder makes of a codeword: its bytes, and the places it corrected; nothing when it is uncorrectable. -/
def rsDecode (c : List Nat) : Option (List Nat × List Nat) :=
  let n := c.length
  let s0 := rsSyn 0 c
  let s1 := rsSyn 1 c
  let s2 := rsSyn 2 c
  let s3 := rsSyn 3 c
  if s0 = 0 ∧ s1 = 0 ∧ s2 = 0 ∧ s3 = 0 then some (c, [])
  else
    let det := gfMul s1 s1 ^^^ gfMul s0 s2
    let places := List.range n
    -- X of the byte at place k is α^(n − 1 − k).
    let x (k : Nat) : Nat := gfPow (n - 1 - k)
    if det = 0 then
      match places.find? (fun k => s0 != 0 && gfMul s0 (x k) == s1 && gfMul s1 (x k) == s2 && gfMul s2 (x k) == s3) with
      | some k => some (fixAt c k s0, [k])
      | none => none
    else
      let l1 := gfMul (gfMul s0 s3 ^^^ gfMul s1 s2) (gfInv det)
      let l2 := gfMul (gfMul s1 s3 ^^^ gfMul s2 s2) (gfInv det)
      match places.filter (fun k => (gfMul (x k) (x k) ^^^ gfMul l1 (x k) ^^^ l2) == 0) with
      | [j, k] =>
        let e := gfMul (gfMul s0 (x k) ^^^ s1) (gfInv (x j ^^^ x k))
        some (fixAt (fixAt c j e) k (s0 ^^^ e), [j, k])
      | _ => none

/-- Bytes of a flit that interleave `i` covers: those of 0 to 307 with j mod 3 = i, then its parity bytes (R265). -/
def rsPlaces (i : Nat) : List Nat := (List.range 308).filter (fun j => j % 3 == i) ++ (List.range 4).map (fun m => 308 + 3 * m + i)

/-- The 12 parity bytes of the 308 bytes before them. -/
def fecParity (bs : List Nat) : List Nat :=
  let r := (List.range 3).map (fun i => rsParity ((List.range 308).filterMap (fun j => if j % 3 = i then some (bs.getD j 0) else none)))
  (List.range 12).map (fun k => (r.getD (k % 3) []).getD (k / 3) 0)

/-- FEC of a received flit: the flit with what the three interleaves corrected, and the bytes they corrected; nothing when one
of them is uncorrectable. -/
def fecDecode (bs : List Nat) : Option (List Nat × List Nat) :=
  (List.range 3).foldl (fun acc i => match acc with
    | none => none
    | some (b, fixed) =>
      let pl := rsPlaces i
      match rsDecode (pl.map (fun j => b.getD j 0)) with
      | none => none
      | some (_, []) => some (b, fixed)
      | some (c, ks) =>
        let js := ks.map (fun k => pl.getD k 0)
        some ((ks.zip js).foldl (fun b e => b.set e.2 (c.getD e.1 0)) b, fixed ++ js)) (some (bs, []))

/-! ### The Runnel flit (Tables 9-2 and 9-3) -/

def ftIDLE : Nat := 0
def ftDATA : Nat := 1

/-- A flit before its CRC and parity: link header fields, packet area, link words. -/
structure LinkFlit where
  fseq  : Nat
  ft    : Nat
  start : Nat
  ts    : Bool
  area  : List Nat
  words : List Nat
  deriving DecidableEq, Repr

/-- START of a flit in which no packet begins. -/
def noStart : Nat := 0x7F

/-- The 320 bytes of a flit (R261, R264, R265). -/
def LinkFlit.bytes (f : LinkFlit) : List Nat :=
  let n := f.words.length
  let h := f.fseq % 2 ^ 16 + f.ft % 4 * 2 ^ 16 + f.start % 128 * 2 ^ 18 + n % 8 * 2 ^ 25 + b2n f.ts * 2 ^ 28
  let b := leBytes 4 h ++ (padTo (296 - 8 * n) f.area).take (296 - 8 * n) ++ f.words.flatMap (leBytes 8)
  let b := b ++ leBytes 8 (flitCrc b)
  b ++ fecParity b

/-- The flit that 320 corrected bytes hold. -/
def linkFlitOf (bs : List Nat) : LinkFlit :=
  let h := ofLeBytes (bs.take 4)
  let n := bits h 25 3
  { fseq := bits h 0 16, ft := bits h 16 2, start := bits h 18 7, ts := bit h 28
    area := (bs.drop 4).take (296 - 8 * n)
    words := (List.range n).map (fun i => ofLeBytes ((bs.drop (300 - 8 * n + 8 * i)).take 8)) }

/-- Does the CRC-64 of a flit pass? -/
def crcPass (bs : List Nat) : Bool := flitCrc (bs.take 300) == ofLeBytes ((bs.drop 300).take 8)

/-- The lanes of a map: logical lane i is the i-th lowest of them (R259). -/
def mapLanes (m : Nat) : List Nat := (List.range 16).filter (bit m)

/-- The port lane that carries byte `j` of the flit stream since a map marker (R259). -/
def laneOfByte (m j : Nat) : Nat := let l := mapLanes m; l.getD (j % l.length) 0

/-- The bytes of a stream that travel on each logical lane of a map of width `w`, from stream position `pos` on (R259). -/
def stripes (w pos : Nat) (bs : List Nat) : List (List Nat) :=
  (List.range w).map (fun i => (bs.zipIdx).filterMap (fun e => if (pos + e.2) % w = i then some e.1 else none))

/-! ### Training blocks and map markers (Tables 9-8 and 9-11) -/

/-- The fields of a training block. -/
structure TrainBlk where
  type    : Nat
  ack     : Bool
  hold    : Bool
  lane    : Nat
  node    : Nat
  port    : Nat
  nonce   : Nat
  pnonce  : Nat
  nextRx  : Nat
  widthIf : Nat
  rates   : Nat
  lanes   : Nat
  spare   : Bool
  tstamp  : Nat
  echo    : Nat
  age     : Nat
  deriving DecidableEq, Repr

/-- The 16 dwords of a training block. -/
def TrainBlk.words (b : TrainBlk) : List Nat :=
  let d := [0xC3A55A3C, b.type % 16 + b2n b.ack * 2 ^ 4 + b2n b.hold * 2 ^ 5 + b.lane % 16 * 2 ^ 6 + 2 ^ 12,
    b.node % 4096 + b.port % 128 * 2 ^ 12, b.nonce % 2 ^ 32, b.pnonce % 2 ^ 32,
    b.nextRx % 2 ^ 16 + b.widthIf % 32 * 2 ^ 16 + b.rates % 8 * 2 ^ 21, b.lanes % 2 ^ 16 + b2n b.spare * 2 ^ 16,
    b.tstamp % 2 ^ 32, b.echo % 2 ^ 32, b.age % 2 ^ 32, 0, 0, 0, 0, 0]
  d ++ [crc32c (d.flatMap (leBytes 4))]

/-- The 16 dwords of a block from its parts (Table 9-8): dwords 0, 1, 3, 4 and 6 to 9 whole, dword 2 as NODE and the bits from PORT
up, dword 5 as NEXT_RX and the bits above it, dwords 10 to 14, and the CRC. -/
def trainParts (magic ctl node port nonce pnonce nextRx offers lanes tstamp echoed age : Nat) (rsv : List Nat) (crc : Nat) : List Nat :=
  [magic, ctl, node + port * 2 ^ 12, nonce, pnonce, nextRx + offers * 2 ^ 16, lanes, tstamp, echoed, age] ++ padTo 5 (rsv.take 5) ++ [crc]

/-- The 320 bytes of a flit from its parts (Table 9-2): header, payload, CRC-64, and the four parity bytes of each interleave (R265). -/
def flitParts (header payload crc par0 par1 par2 : List Nat) : List Nat :=
  header ++ payload ++ crc ++ (List.range 4).flatMap (fun m => [par0.getD m 0, par1.getD m 0, par2.getD m 0])

/-- The block that 16 dwords hold, when its MAGIC, its version and its CRC are right. -/
def trainBlkOf (ws : List Nat) : Option TrainBlk :=
  let d (i : Nat) : Nat := ws.getD i 0
  if d 0 = 0xC3A55A3C ∧ bits (d 1) 12 4 = 1 ∧ d 15 = crc32c ((ws.take 15).flatMap (leBytes 4)) then
    some { type := bits (d 1) 0 4, ack := bit (d 1) 4, hold := bit (d 1) 5, lane := bits (d 1) 6 4
           node := bits (d 2) 0 12, port := bits (d 2) 12 7, nonce := d 3, pnonce := d 4
           nextRx := bits (d 5) 0 16, widthIf := bits (d 5) 16 5, rates := bits (d 5) 21 3
           lanes := bits (d 6) 0 16, spare := bit (d 6) 16, tstamp := d 7, echo := d 8, age := d 9 }
  else none

/-- The 16 bytes of a map marker on port lane `lane` (Table 9-11). -/
def markerBytes (kind rid map fseq width logical : Nat) : List Nat :=
  let b := leBytes 4 0x5A3CC3A5 ++ [kind % 256, rid % 256] ++ leBytes 2 map ++ leBytes 2 fseq ++ [width % 256, logical % 256, 0, 0]
  b ++ leBytes 2 (crc16 b)

end Sys2Proof.Machine
end

