-- ==== Sys2Proof/Machine/Domains.lean ====
section
/-! DEFINITION. The operations on power domains that packets and register accesses use: states, votes, the refusal
ledger, aborts and the in-flight count (R357 to R365, R376). -/

namespace Sys2Proof.Machine

def dON : Nat := 0
def dCLOSING : Nat := 1
def dDRAINING : Nat := 2
def dISOLATED : Nat := 3
def dCLKSTOP : Nat := 4
def dRETAINED : Nat := 5
def dOFF : Nat := 6
def dWAKING : Nat := 7

def State.dom (s : State) (d : Nat) : Nat := s.get (PW_DOM_STAT_STATE d)
def State.setDom (s : State) (d st : Nat) : State := s.put (PW_DOM_STAT_STATE d) st

/-- An event Table 13-4 does not list is ignored and counted (R360). -/
def State.pwIgnored (s : State) : State := s.count C_PW_EVT_IGNORED

/-- Sets a bit of PW_EVT. -/
def State.pwEvt (s : State) (b : Nat) : State := s.wr R_PW_EVT (s.rd R_PW_EVT ||| 2 ^ b)

/-- A ledger record (R376): domain, refuser code, 1 for an abort. -/
def State.ledger (s : State) (d code abort : Nat) : State :=
  let i := s.get PW_LEDGER_WR_NEXT
  let w := d % 64 + code * 2 ^ 6 + abort * 2 ^ 10 + s.dom d * 2 ^ 11 + s.get (PW_DOM_CFG_TARGET d) * 2 ^ 14
            + s.nowNs / 2 ^ 14 * 2 ^ 16
  let s1 := ((s.wr (R_PW_LEDGER0 i) w).wr (R_PW_LEDGER1 i) (s.nowSec % 65536)).put PW_LEDGER_WR_NEXT ((i + 1) % 64)
  (s1.count (0x20100 + code * 8)).pwEvt 10

/-- The vote bits that count: SW_A, SW_B, WH, TRAFFIC, ACCESS, DEP and PLANE (R359). -/
def voteMask : Nat := 0xF07

def popcount (w : Nat) : Nat → Nat
  | 0 => 0
  | n + 1 => w / 2 ^ n % 2 + popcount w n

/-- CNT of PW_DOMd_VOTE. -/
def State.votes (s : State) (d : Nat) : Nat := popcount (s.rd (R_PW_DOM_VOTE d) &&& voteMask) 16

/-- Shows the number of votes in CNT. -/
def State.recount (s : State) (d : Nat) : State := s.put (PW_DOM_VOTE_CNT d) (s.votes d)

/-- An entry in CLOSING or DRAINING is abandoned: ingress reopens, a ledger record says why (Table 13-4). -/
def State.abortEntry (s : State) (d code : Nat) : State :=
  ((s.ledger d code 1).setDom d dON).count (C_PW_DOM_ABORTS d)

/-- Does SAG2 shedding hold the bank of domain `d` (Table 13-8)? -/
def State.shedBank (s : State) (d : Nat) : Bool :=
  decide (2 ≤ s.get PW_STAT_SAG) && decide (16 ≤ d ∧ d < 40) && !s.on (PW_DOM_VOTE_DEP d)

/-- Is a bank in the pass of R419, during which ingress NIs do not hold packets for it? -/
def State.bankBack (s : State) (d : Nat) : Bool := decide (16 ≤ d) && s.cis.back.contains (d - 16)

/-- A level vote acts on the domain's state: it abandons an entry, or wakes a sleeping domain (Table 13-4). During full
retention, for a bank that is shed, and for a bank in the pass of R419, it does not (R363, R366, R372). -/
def State.voteActs (s : State) (d code : Nat) : State :=
  let st := s.dom d
  if s.pw.full ≠ 0 ∨ s.shedBank d ∨ s.bankBack d then s
  else if st = dCLOSING ∨ st = dDRAINING then s.abortEntry d code
  else if st = dISOLATED then ((s.ledger d code 1).setDom d dWAKING).count (C_PW_DOM_ABORTS d)
  else s

/-- Casts a hardware vote bit of a domain. -/
def State.castVote (s : State) (d : Nat) (f : Fld) (code : Nat) : State :=
  if s.on f then s else ((s.put f 1).recount d).voteActs d code

def State.dropVote (s : State) (d : Nat) (f : Fld) : State := (s.put f 0).recount d

/-- INFLIGHT of a domain, saturating (R364). -/
def State.inflight (s : State) (d : Nat) (up : Bool) : State :=
  if d = domCore ∨ d < 62 then
    let n := s.get (PW_DOM_STAT_INFLIGHT d)
    s.put (PW_DOM_STAT_INFLIGHT d) (if up then min (n + 1) 0xFFFF else n - 1)
  else s

end Sys2Proof.Machine
end

