-- ==== Sys2Proof/Machine/Mesh.lean ====
section
/-! DEFINITION. How a packet enters the mesh and how a source NI keeps, resends and frees it: responses, fabric
port choice, plane choice, fences, retention, reorder entries and elimination (R96 to R123, R140, R147). -/

namespace Sys2Proof.Machine

/-! ### Packets and responses -/

/-- A packet with every field zero but the ones a creator sets (R69). -/
def pkt0 (kind tc vn len dest src : Nat) (data : List Word) : Pkt :=
  { kind, tc, vn, plane := 0, twin := 0, len, hops := 0, rsv0 := 0, dest, repoch := 0, priv := 0, status := 0, rsv1 := 0,
    src, gen := 0, tag := 0, seq := 0, addr := 0, pasid := 0, basin := 0, rsv6 := 0, stamp := 0, chk := 0, data, tlp := none }

/-- The CPL that answers a request: EIDs swapped, TC, TAG and GEN echoed (R75, R79, R84). -/
def mkCpl (req : Pkt) (st : Status) : Pkt :=
  { pkt0 kCPL req.tc (vnOf 2 req.tc) 0 req.src req.dest [] with tag := req.tag, gen := req.gen, status := st.code }

/-- The CPL_D that answers a request with data. -/
def mkCplD (req : Pkt) (st : Status) (data : List Word) : Pkt :=
  { pkt0 kCPL_D req.tc (vnOf 2 req.tc) data.length req.src req.dest data with tag := req.tag, gen := req.gen, status := st.code }

def State.arrive (s : State) (t : Nat) (p : Pkt) : State :=
  { s with mesh := { s.mesh with arrived := s.mesh.arrived ++ [(t, p)] } }

/-- Counts a header failure and records the first one (R100, R442). -/
def State.hdrErr (s : State) (t order : Nat) (p : Pkt) : State :=
  let b := niBase t
  let first := s.cnt (C_NI_HDR_ERR b) == 0
  let s := s.count (C_NI_HDR_ERR b)
  if first then
    (s.forEach (List.range 4) (fun i u => u.wr (R_NI_HDR_FIRST b i) (hdrWord p i))).fault 13 t order
  else s

/-! ### Fabric port choice (R140, R141, R153) -/

inductive Route where
  | port (p : Nat) | noRoute | twinDrop | epochDrop
  deriving DecidableEq, Repr

/-- Members of port group `g` of bank `b`, ascending; group 0 is empty (R138). -/
def State.grp (s : State) (b g : Nat) : List Nat :=
  if g = 0 then [] else
    (List.range 128).filter (fun p => bit (s.rd (R_RTE_GRP (b * 1024 + g * 4 + p / 32))) (p % 32))

/-- Is a port eligible in bank `b` (R139)? -/
def State.elig (s : State) (b p : Nat) : Bool :=
  let c := portC p
  let k := portK p
  s.on (if b = 0 then PORT_NBR_ELIG0 c k else PORT_NBR_ELIG1 c k) && s.get (PORT_NBR_STATE c k) != 0

/-- State of route bank `b`: 0 FREE, 1 READY, 2 ACTIVE, 3 DRAINING. -/
def State.bank (s : State) (b : Nat) : Nat := if b = 0 then s.get RTE_STAT_BANK0 else s.get RTE_STAT_BANK1
def State.setBank (s : State) (b v : Nat) : State := s.put (if b = 0 then RTE_STAT_BANK0 else RTE_STAT_BANK1) v

/-- Route entry `n` of bank `b`. -/
def rteIdx (b n : Nat) : Nat := b * 4096 + n

/-- The fabric port of a packet for a remote node (R140). A lookup in a FREE bank is R153's drop. -/
def State.route (s : State) (p : Pkt) : Route :=
  let b := p.repoch
  let i := rteIdx b (eidNode p.dest)
  if s.bank b = 0 then .epochDrop
  else if !s.on (RTE_ENT_VALID i) then .noRoute
  else if p.tc = 7 then
    let m := s.grp b (if bit p.tag 15 then s.get (RTE_ENT_GRP_B i) else s.get (RTE_ENT_GRP_A i))
    match m[(p.tag % 32768) % m.length]? with
    | none => .twinDrop
    | some q => if s.elig b q then .port q else .twinDrop
  else
    let m := s.grp b (s.get (RTE_ENT_GRP_BULK i))
    let h := flowHash p.src p.dest p.tc ^^^ s.get RTE_CTL_SEED
    let j := bits h 1 7 % m.length
    match ((m.drop j) ++ (m.take j)).find? (fun q => s.elig b q) with
    | none => .noRoute
    | some q => .port q

/-! ### Planes (R115 to R120) -/

def pOUT : Nat := 0
def pRETURNING : Nat := 1
def pIN : Nat := 2
def pFENCING : Nat := 3
def pFAILED : Nat := 4

def State.plane (s : State) (p : Nat) : Nat := if p = 0 then s.get GLB_PLANE_STAT_A_STATE else s.get GLB_PLANE_STAT_B_STATE
def State.setPlane (s : State) (p v : Nat) : State := s.put (if p = 0 then GLB_PLANE_STAT_A_STATE else GLB_PLANE_STAT_B_STATE) v
def planeReq (p : Nat) : Fld := if p = 0 then GLB_PLANE_CTL_A_REQ else GLB_PLANE_CTL_B_REQ
def planeFault (p : Nat) : Fld := if p = 0 then GLB_PLANE_STAT_A_FAULT else GLB_PLANE_STAT_B_FAULT
def planeCause (p : Nat) : Fld := if p = 0 then GLB_PLANE_STAT_A_CAUSE else GLB_PLANE_STAT_B_CAUSE

/-- Key of a per-(tile, tile, plane, VC) table. -/
def k4 (a b pl vc : Nat) : Nat := ((a * 64 + b) * 2 + pl) * 8 + vc

/-- The plane that carries a bulk or control packet: its hash's plane while that is in service, else the other
(R115). -/
def State.planeFor (s : State) (p : Pkt) : Option Nat :=
  let h := flowHash p.src p.dest p.tc % 2
  if s.plane h = pIN then some h else if s.plane (1 - h) = pIN then some (1 - h) else none

/-- Flits an NI retains for a plane (R116). -/
def State.keptFlits (s : State) (t pl : Nat) : Nat :=
  ((s.mesh.kept.filter (fun k => k.tile == t && k.plane == pl)).map (fun k => pktFlits k.pkt)).sum

/-- NI_RETAIN shows the flits retained per plane. -/
def State.showRetain (s : State) (t : Nat) : State :=
  (s.put (NI_RETAIN_A_FLITS (niBase t)) (s.keptFlits t 0)).put (NI_RETAIN_B_FLITS (niBase t)) (s.keptFlits t 1)

/-! ### Accounting -/

/-- A packet enters the node in its epoch's counts (R151). -/
def State.resEnter (s : State) (p : Pkt) : State :=
  (s.put (RTE_RES_COUNT p.repoch) (s.get (RTE_RES_COUNT p.repoch) + 1)).count (C_RTE_ENT_CNT p.repoch)

/-- A packet leaves the node (R151). -/
def State.resLeave (s : State) (p : Pkt) : State :=
  s.put (RTE_RES_COUNT p.repoch) (s.get (RTE_RES_COUNT p.repoch) - 1)

/-- The epoch an NI stamps on a packet it creates (R148, R150). -/
def State.epochFor (s : State) (t : Nat) (p : Pkt) : Nat :=
  let e := s.get RTE_CTL_EPOCH
  if p.tc = 7 ∨ eidNode p.dest = s.node ∨ !s.mesh.unswitched.contains t then e else 1 - e

/-- A created packet: epoch and STAMP set (R72, R148). One that waits takes its STAMP again as it enters the mesh. -/
def State.stampPkt (s : State) (t : Nat) (p : Pkt) : Pkt :=
  { p with repoch := s.epochFor t p, stamp := s.nowNs % 65536 }

/-! ### Injection -/

/-- Holds a packet at an NI, in the order of the packets' numbers; one that waits again keeps its number `id`. -/
def State.hold (s : State) (t : Nat) (why : HoldWhy) (fresh born : Bool) (p : Pkt) (g : Option (Nat × Nat)) (id : Option Nat) : State :=
  let i := id.getD (s.mesh.nextFly + 1)
  let early (h : Held) : Bool := decide (h.id < i)
  { s with mesh := { s.mesh with
    held := s.mesh.held.takeWhile early ++ [(⟨i, t, why, fresh, born, p, g⟩ : Held)] ++ s.mesh.held.dropWhile early
    nextFly := max s.mesh.nextFly i } }

/-- Is number `n` of a packet before the one that a packet to be sent has, if it has one? -/
def earlier (id : Option Nat) (n : Nat) : Bool := match id with | none => true | some i => decide (n < i)

def sameFlow (p q : Pkt) : Bool := p.src == q.src && p.dest == q.dest && p.tc == q.tc

/-- Is `p`, a TLP that a PT NI has built for its own link, in the ordering stream of `q`? It counts in every flow of its TC to
the same view of the port (R239, assumption log 106). -/
def ownStream (p q : Pkt) : Bool := p.src == p.dest && q.dest == p.dest && q.tc == p.tc

/-- Does a packet held earlier at the NI hold this one back: a domain hold its whole VN, a quiet switch everything behind it,
any other hold its own flow and VN (R118, R150, R363)? -/
def State.heldBefore (s : State) (t : Nat) (p : Pkt) (id : Option Nat) : Option HoldWhy :=
  (s.mesh.held.find? (fun h => h.tile == t && earlier id h.id && (match h.why with
    | .domain _ => h.pkt.vn == p.vn
    | .quiet => decide (p.tc ≠ 7)
    | _ => sameFlow h.pkt p && h.pkt.vn == p.vn))).map (·.why)

/-- Does an earlier posted packet of its flow go before a non-posted request or response (R234)? Relaxed Ordering waives it
(bit 1 of the TLP attributes); ID-Based Ordering (bit 2) limits it to posted TLPs of the same Requester ID. -/
def postedFirst (p q : Pkt) : Bool :=
  (pktClass p == 1 || pktClass p == 2) && (sameFlow q p || ownStream p q) && pktClass q == 0 &&
    (match (if p.kind = kTLP then p.tlp else none) with
     | none => true
     | some x => !bit x.attr 1 && (!bit x.attr 2 || (match (if q.kind = kTLP then q.tlp else none) with | some y => y.rid == x.rid | none => false)))

/-- Must a packet wait at the NI for earlier posted packets that it keeps or still holds (R234)? -/
def State.postedAhead (s : State) (t : Nat) (p : Pkt) (id : Option Nat) : Bool :=
  s.mesh.kept.any (fun k => k.tile == t && earlier id k.id && postedFirst p k.pkt)
    || s.mesh.held.any (fun h => h.tile == t && earlier id h.id && postedFirst p h.pkt)

/-- Puts one copy of a packet on a plane: ISEQ, retention, INFLIGHT (R105, R116, R364). A resend keeps the packet's number
`id`. The first ISEQ of a sequence is 0 (assumption log 93). -/
def State.launch (s : State) (t dt pl : Nat) (ret : Bool) (port : Option Nat) (p : Pkt) (g : Option (Nat × Nat)) (id : Option Nat) : State :=
  let vc := vcOf p.vn p.tc
  let key := k4 t dt pl vc
  let n := if ret then (tgetD s.mesh.iseq key 4095 + 1) % 4096 else 0
  let i := id.getD (s.mesh.nextFly + 1)
  let p := reChk { p with plane := pl, twin := if p.tc = 7 then 1 else 0 }
  let iseq' := if ret then tset s.mesh.iseq key n else s.mesh.iseq
  let fly' := s.mesh.fly ++ [(⟨i, t, dt, pl, vc, n, ret, port, p, 0, 0⟩ : Flight)]
  let kept' := if ret then s.mesh.kept ++ [(⟨i, t, dt, pl, vc, n, port, p, g⟩ : Kept)] else s.mesh.kept
  let s := { s with mesh := { s.mesh with iseq := iseq', fly := fly', kept := kept', nextFly := max s.mesh.nextFly i } }
  (s.doIf ret (·.showRetain t)).inflight (tileDomain dt) true

/-- Is plane `p` out of service with packets still in the stores, so that what they hold goes first (R122, R405)? -/
def State.planeLost (s : State) (p : Nat) : Bool := s.plane p != pIN && s.plane p != pFENCING

/-- Does a flow of tile `t` wait: for packets of its own that a failed plane has left (R122), or at a fence (R118)? -/
def State.flowHeld (s : State) (t dt : Nat) (p : Pkt) : Bool :=
  let h := flowHash p.src p.dest p.tc % 2
  s.mesh.kept.any (fun k => k.tile == t && k.dtile == dt && s.planeLost k.plane && sameFlow k.pkt p)
    || s.mesh.fences.any (fun f => f.tile == t && f.dtile == dt && f.vc == vcOf p.vn p.tc && f.hash == h)

/-- Does the NI of a domain that is not ON still answer a packet: that of a bank in the pass of R419, and that of a bank or an
engine without supply, which answers as a faulty one does (Table 15-2, assumption log 118)? -/
def State.answersOff (s : State) (d : Nat) (p : Pkt) : Bool :=
  s.bankBack d || (s.pw.lost.contains d && decide (16 ≤ d) && (decide (d < 40) || (decide (d < 52) && p.kind == kJOB)))

/-- What injection makes of a packet: sent or held in the state, or turned away with a response to give. `born`: this NI has
created it, so that STAMP is the instant at which it enters the mesh (R72). `id`: the number of one that has waited. -/
def State.injectTo (s : State) (t dt : Nat) (port : Option Nat) (born : Bool) (p : Pkt) (g : Option (Nat × Nat)) (id : Option Nat) : State × Option Pkt :=
  let d := tileDomain dt
  let st := s.dom d
  let noWake := s.on (PW_DOM_CFG_NO_WAKE d)
  if s.pw.lost.contains d ∧ d < 16 then
    -- A cluster without supply (Table 15-2).
    let s := ((s.doIf (pktClass p != 1) (·.count (C_PW_DOM_ASLEEP d))).resLeave p).guardRetire g
    (s, if pktClass p = 1 then some (mkCpl p .pathLost) else none)
  else if st ≠ dON ∧ noWake ∧ st ≠ dWAKING ∧ !s.shedBank d ∧ !s.answersOff d p then
    let s := ((s.count (C_PW_DOM_ASLEEP d)).resLeave p).guardRetire g
    (s, if pktClass p = 1 then some (mkCpl p .targetAsleep) else none)
  else if st ≠ dON ∧ !s.answersOff d p then
    let s := s.hold t (.domain d) false born p g id
    (s.castVote d (PW_DOM_VOTE_TRAFFIC d) 1, none)
  else match s.heldBefore t p id with
  | some why => (s.hold t why false born p g id, none)
  | none =>
    if s.postedAhead t p id then (s.hold t .postedFirst false born p g id, none)
    else
    let p := if born then { p with stamp := s.nowNs % 65536 } else p
    if p.tc = 7 then
      let pls := [0, 1].filter (fun pl => s.plane pl == pIN)
      if pls.isEmpty then (((s.count (elimBase t + 8)).resLeave p).guardRetire g, none)
      else
        let s := s.doIf (decide (1 < pls.length)) (·.resEnter p)
        ((s.forEach pls (fun pl u => u.launch t dt pl false port p none none)).guardRetire g, none)
    else match s.planeFor p with
    | none => (s.hold t .noPlane false born p g id, none)
    | some pl =>
      if s.flowHeld t dt p then (s.hold t .fence false born p g id, none)
      else if 512 < s.keptFlits t pl + pktFlits p then (s.hold t .retention false born p g id, none)
      else
        let s := s.launch t dt pl true port p g id
        let s := s.doIf (decide (eidNode p.dest ≠ s.node ∧ eidNode p.src = s.node)) (fun s => { s with mesh := { s.mesh with
          recent := tset s.mesh.recent t s.ns } })
        let fl := (t, p.src, p.dest, p.tc)
        let s := s.doIf (decide (eidNode p.dest ≠ s.node ∧ eidNode p.src = s.node ∧ pktClass p = 0) && !s.ord.flows.contains fl)
          (fun s => { s with ord := { s.ord with flows := s.ord.flows ++ [fl] } })
        (s, none)

/-- Injects a packet at the NI of tile `t`; the second component is the response to give when the packet is
turned away (R81, R83, R141, R363). `own` says that this node is the packet's source node; `fresh` that this NI
has just created it, so that it takes its epoch and enters the node's counts; `born` that it has yet to take its STAMP; `id` its
number, if it has waited. -/
def State.injectRaw (s : State) (t : Nat) (own fresh born : Bool) (p : Pkt) (g : Option (Nat × Nat)) (id : Option Nat) : State × Option Pkt :=
  if fresh ∧ p.tc < 7 ∧ s.mesh.unswitched.contains t ∧ eidNode p.dest ≠ s.node then (s.hold t .quiet true born p g id, none)
  else
  let p := if fresh then s.stampPkt t p else p
  let s := s.doIf fresh (·.resEnter p)
  if eidNode p.dest = s.node then
    if !s.eidValid p.dest then
      let s := (s.resLeave p).guardRetire g
      if pktClass p = 1 then (s, some (mkCpl p .unsupported)) else (s.hdrErr t 4 p, none)
    else
      let port := if eidSub p.dest = 31 then none else some (eidPort p.dest)
      s.injectTo t (localTile p.dest) port born p g id
  else match s.route p with
  | .port q => s.injectTo t (ptTile (q / 8)) (some q) born p g id
  | .twinDrop => (((s.count C_RTE_TWIN_DROP).resLeave p).guardRetire g, none)
  | .epochDrop =>
    let s := ((((s.count C_RTE_EPOCH_DROP).count C_RTE_NOROUTE).resLeave p).guardRetire g).rteEvent
    (s, if pktClass p = 1 then some (mkCpl p (if own then .unsupported else .pathLost)) else none)
  | .noRoute =>
    let s := ((s.count C_RTE_NOROUTE).resLeave p).guardRetire g
    (s, if pktClass p = 1 then some (mkCpl p (if own then .unsupported else .pathLost)) else none)

/-- A response that the NI of tile `t` makes itself: it completes there when the requester is that NI, and is
injected otherwise. -/
def State.respondAt (s : State) (t : Nat) (c : Option Pkt) : State :=
  match c with
  | none => s
  | some c =>
    if eidNode c.dest = s.node ∧ localTile c.dest = t ∧ eidSub c.dest = 31 then
      let c := reChk (s.stampPkt t c)
      ((s.resEnter c).resLeave c).arrive t c
    else (s.injectRaw t true true true c none none).1

/-- Is the NI of a tile that of a PT, which turns posted TLPs away on their receipt? -/
def isPt (t : Nat) : Bool := match tileUnit t with | .pt _ => true | _ => false

/-- Injection of a packet that the NI of tile `t` creates. While a warm reset drains, the NI accepts no posted packet from its
masters; `acc` says that it has accepted this one before (R251, R253). -/
def State.injectOne (s : State) (t : Nat) (acc : Bool) (p : Pkt) (g : Option (Nat × Nat)) : State :=
  if !acc ∧ !isPt t ∧ s.wh.rstBusy ∧ pktClass p = 0 then s.hold t .reset true true p g none
  else
    let r := s.injectRaw t true true true p g none
    r.1.respondAt t r.2

/-- Injection of a packet that the NI of tile `t` creates; a TC7 packet for a remote node goes once on path A and
once on path B (R145). -/
def State.injectBoth (s : State) (t : Nat) (acc : Bool) (p : Pkt) (g : Option (Nat × Nat)) : State :=
  if p.tc = 7 ∧ eidNode p.dest ≠ s.node then
    (s.injectOne t acc { p with tag := p.tag % 32768 } none).injectOne t acc { p with tag := p.tag % 32768 + 32768 } g
  else s.injectOne t acc p g

/-- Injection of a packet that a PT NI forwards from a link (transit or arriving). -/
def State.forward (s : State) (t : Nat) (p : Pkt) (g : Option (Nat × Nat)) : State :=
  let r := s.injectRaw t false false false p g none
  r.1.respondAt t r.2

/-! ### Reorder entries (R96 to R99) -/

/-- Entries of the reorder buffer of a tile's NI (R96); CX's NI has 256 (assumption log 7). -/
def roSize (t : Nat) : Nat :=
  match tileUnit t with
  | .pt _ => 4096
  | .kt _ => 1024
  | _ => 256

def roKey (t tag : Nat) : Nat := t * 65536 + tag

/-- The entry retired longest ago: one never used while there is one, else the first of the retired list that is not in
quarantine (R96, R98). -/
def State.roPick (s : State) (t : Nat) : Option Nat :=
  let n := tgetD s.req.roNext t 0
  if n < roSize t then some n else (s.req.roFree.find? (fun e => e.1 == t && ((tget s.req.ro (roKey t e.2)).map (·.st)).getD 0 == 0)).map (·.2)

/-- Removes the first element that satisfies a test. -/
def dropFirst {α : Type} (f : α → Bool) : List α → List α
  | [] => []
  | a :: r => if f a then r else a :: dropFirst f r

/-- Allocates an entry for a request: TAG and GEN, or nothing when none is free (R113). -/
def State.roAlloc (s : State) (num t : Nat) (org : Org) (req : Pkt) (guard : Option (Nat × Nat)) (left : Nat) :
    Option (Nat × Nat) × State :=
  match s.roPick t with
  | none => (none, s)
  | some tag =>
    let old := tget s.req.ro (roKey t tag)
    let gen := (old.map (·.gen)).getD 0
    let n := tgetD s.req.roNext t 0
    let rq := { req with tag, gen }
    (some (tag, gen), { s with req := { s.req with
      ro := tset s.req.ro (roKey t tag) ⟨num, 1, gen, s.get GLB_FAULT_GEN_GEN, org, rq, guard, left⟩,
      roNext := if tag = n then tset s.req.roNext t (n + 1) else s.req.roNext,
      roFree := if tag = n then s.req.roFree else dropFirst (fun e => e == (t, tag)) s.req.roFree } })

/-- Does a response match an outstanding entry (R97)? -/
def State.roMatch (s : State) (t : Nat) (c : Pkt) : Option RoEntry :=
  match tget s.req.ro (roKey t c.tag) with
  | none => none
  | some e => if e.st = 1 ∧ e.gen = c.gen then some e else none

/-- Has the response that matches an entry reached its NI, so that it wins over what else reaches the entry now (R99, R412)? -/
def State.answered (s : State) (t tag : Nat) (e : RoEntry) : Bool :=
  s.mesh.arrived.any (fun x => x.1 == t && pktClass x.2 == 2 && x.2.tag == tag && x.2.gen == e.gen)

/-- The order of retirement, in which entries are allocated again; one in quarantine is passed over (R96, R98). -/
def State.retired (s : State) (t tag : Nat) : List (Nat × Nat) := s.req.roFree ++ [(t, tag)]

/-- Normal retirement: the entry is free and GEN stays. -/
def State.roDone (s : State) (t tag : Nat) : State :=
  match tget s.req.ro (roKey t tag) with
  | none => s
  | some e =>
    let e' : RoEntry := { e with st := 0 }
    let s := { s with req := { s.req with ro := tset s.req.ro (roKey t tag) e', roFree := s.retired t tag } }
    s.guardRetire e.guard

/-- Retirement without a response: GEN advances and the entry goes into quarantine (R97, R98). -/
def State.roRetire (s : State) (t tag : Nat) : State :=
  match tget s.req.ro (roKey t tag) with
  | none => s
  | some e =>
    let e' : RoEntry := { e with st := 2, gen := (e.gen + 1) % 256 }
    let s := { s with req := { s.req with ro := tset s.req.ro (roKey t tag) e', roFree := s.retired t tag } }
    s.guardRetire e.guard

/-- Sends the non-posted request with number `num`: it waits at the NI while no entry is free (R113). -/
def State.requestAs (s : State) (num t : Nat) (org : Org) (req : Pkt) (guard : Option (Nat × Nat)) (left : Nat) : State :=
  match s.roAlloc num t org req guard left with
  | (none, s) => { s with req := { s.req with roWait := s.req.roWait ++ [⟨num, t, org, req, guard, left⟩] } }
  | (some (tag, gen), s) => s.injectBoth t false { req with tag, gen } none

/-- Sends a new non-posted request. Requests that wait for an entry go first. -/
def State.request (s : State) (t : Nat) (org : Org) (req : Pkt) (guard : Option (Nat × Nat)) (left : Nat) : State :=
  let n := s.req.nextNum
  let s := { s with req := { s.req with nextNum := n + 1 } }
  if s.req.roWait.any (fun w => w.tile == t) then { s with req := { s.req with roWait := s.req.roWait ++ [⟨n, t, org, req, guard, left⟩] } }
  else s.requestAs n t org req guard left

/-- An NI tracks 64 remote flows: when a 65th appears, it issues a flushing read on the oldest and drops it (R240). A flushing
read travels in the flow it flushes, with PRIV set (assumption log 99). -/
def State.flowLimit (s : State) (t : Nat) : State :=
  let mine := s.ord.flows.filter (fun f => f.1 == t)
  if mine.length ≤ 64 then s
  else match mine with
  | [] => s
  | f :: _ =>
    let id := s.ord.nextFlush
    let s := { s with ord := { s.ord with nextFlush := id + 1, flows := dropFirst (fun x => x == f) s.ord.flows } }
    s.request t (.flush id) { pkt0 kREAD f.2.2.2 (vnOf 1 f.2.2.2) 0 f.2.2.1 f.2.1 [] with priv := 1 } none 1

/-- Injection of a packet that the NI of tile `t` creates. -/
def State.inject (s : State) (t : Nat) (p : Pkt) (g : Option (Nat × Nat)) : State := (s.injectBoth t false p g).flowLimit t

/-- Injection of a posted packet that the NI has accepted before: a copy of a plume packet, a stream packet that it has held. -/
def State.injectOn (s : State) (t : Nat) (p : Pkt) (g : Option (Nat × Nat)) : State := (s.injectBoth t true p g).flowLimit t

/-- Tries again the packets an NI holds for a reason that a condition names, oldest first. -/
def State.retry (s : State) (c : Held → Bool) : State :=
  let go := s.mesh.held.filter c
  let s := { s with mesh := { s.mesh with held := s.mesh.held.filter (fun h => !c h) } }
  s.forEach go (fun h u =>
    let own := eidNode h.pkt.src == u.node
    let r := u.injectRaw h.tile own h.fresh h.born h.pkt h.guard (some h.id)
    (r.1.respondAt h.tile r.2).flowLimit h.tile)

/-- A commit of object `n` waits at the NI of tile `t` for receipts that cover every earlier packet to the bank of WORK0
(R199). -/
def State.snapCommit (s : State) (t n : Nat) : State :=
  let b := ctTile (bankOf (s.snapBase n + s.get (SNAP_STAT_WORK0 n) * 2 ^ s.snapSize n))
  let pend := (s.mesh.kept.filter (fun k => k.tile == t && k.dtile == b)).map (·.id)
    ++ (s.mesh.held.filter (fun h => h.tile == t && h.pkt.dest == tileEid s.node b)).map (·.id)
  { s with cis := { s.cis with commits := s.cis.commits ++ [(⟨t, n, pend⟩ : Commit)] } }

/-- A posted write that the NI of tile `t` creates. One to CT0 of its own node goes where the cistern decode leads: a commit,
or the bank of each copy (R184, R192, R197). `acc`: it has been accepted before. -/
def State.injectWriteAs (s : State) (t : Nat) (acc : Bool) (p : Pkt) (g : Option (Nat × Nat)) : State :=
  let put (u : State) (q : Pkt) : State := (u.injectBoth t acc q g).flowLimit t
  if p.dest ≠ tileEid s.node (ctTile 0) then put s p
  else match s.cisDecode p.addr true false with
  | .bad => (s.count (C_NI_NOWIN (niBase t))).guardRetire g
  | .commit n => (s.snapCommit t n).guardRetire g
  | .at_ r copy part _ =>
    let at_ (a : Nat) : Pkt := { p with dest := tileEid s.node (ctTile (bankOf a)), addr := a % 0x400000 }
    match s.writeCopies r copy part with
    | [a, c] => put (put (s.guardOpenAgain g) (at_ a)) (at_ c)
    | a :: _ => put s (at_ a)
    | [] => s

def State.injectWrite (s : State) (t : Nat) (p : Pkt) (g : Option (Nat × Nat)) : State := s.injectWriteAs t false p g

/-- An entry of the NI of tile `t` has become free: the request that waits longest takes it. -/
def State.roNextWait (s : State) (t : Nat) : State :=
  match s.req.roWait.find? (fun w => w.tile == t), s.roPick t with
  | some w, some _ =>
    ({ s with req := { s.req with roWait := dropFirst (fun x => x.tile == t) s.req.roWait } }).requestAs w.num t w.org w.req w.guard w.left
  | _, _ => s

/-- A packet held before injection is discarded. -/
def State.dropHeld (s : State) (h : Held) : State := (if h.fresh then s else s.resLeave h.pkt).guardRetire h.guard

/-- Is a packet of the NI of tile `t` a copy that it made of a plume packet, which no master of its own issued (R238)? -/
def isCopy (node t : Nat) (p : Pkt) (g : Option (Nat × Nat)) : Bool := p.kind == kWRITE_P && g.isNone && p.src == tileEid node t

/-! ### Receipts (R117, R118) -/

/-- Frees every retained packet that a receipt covers. -/
def covered (r : Receipt) (k : Kept) : Bool :=
  k.tile == r.tgt && k.dtile == r.egr && k.plane == r.pl && k.vc == r.vc && decide ((r.cseq + 4096 - k.iseq) % 4096 < 2048)

def State.freeKept (s : State) (r : Receipt) : State :=
  let gone := s.mesh.kept.filter (covered r)
  let s := { s with mesh := { s.mesh with kept := s.mesh.kept.filter (fun k => !covered r k) } }
  (s.forEach gone (fun k u => (u.inflight (tileDomain k.dtile) false).guardRetire k.guard)).showRetain r.tgt

/-- A fence's mark is covered by a receipt. -/
def fenceMet (r : Receipt) (f : Fence) : Bool :=
  f.tile == r.tgt && f.dtile == r.egr && f.from_ == r.pl && f.vc == r.vc && decide ((r.cseq + 4096 - f.mark) % 4096 < 2048)

/-- Fences for every sequence with packets still kept on plane `p`, so that its mark is not covered yet: the flows whose hash
is `h` move off it (R118). -/
def State.setFences (s : State) (p h : Nat) : State :=
  let ks := (s.mesh.kept.filter (fun k => k.plane == p)).map (fun k => (k.tile, k.dtile, k.vc))
  let fs := ks.dedup.map (fun k => (⟨k.1, k.2.1, k.2.2, h, p, tgetD s.mesh.iseq (k4 k.1 k.2.1 p k.2.2) 0⟩ : Fence))
  { s with mesh := { s.mesh with fences := s.mesh.fences ++ fs } }

/-! ### Twin elimination (R146, R147) -/

/-- Block base of the elimination entries of a tile; entry `n` is read through NI_ELIM_CFG. -/
def State.elimEntry (s : State) (t stream : Nat) : Option Nat :=
  let b := elimBase t
  if b = 0 then none
  else (List.range 1024).find? (fun n => s.on (NI_ELIM_CFG_EN b n) && s.get (NI_ELIM_CFG_STREAM b n) == stream)

/-- Bits of a 64-bit window. -/
def win64 : Nat := 2 ^ 64

/-- The acceptance rule of R147: whether to deliver the copy, and the state after. -/
def State.eliminate (s : State) (t stream seq : Nat) : Bool × State :=
  let b := elimBase t
  match s.elimEntry t stream with
  | none => (false, s.count (C_NI_ELIM_STALE b))
  | some n =>
    let key := t * 1024 + n
    let h := s.get (NI_ELIM_CFG_H b n)
    let w := tgetD s.mesh.elimWin key 0
    let d := (seq + 65536 - h) % 65536
    let span := tgetD s.mesh.elimSpan key 0
    let setW (u : State) (v k : Nat) : State := { u with mesh := { u.mesh with
      elimWin := tset u.mesh.elimWin key (v % win64), elimSpan := tset u.mesh.elimSpan key (min 64 k) } }
    if s.on (NI_ELIM_ST_INIT b n) then (true, setW ((s.put (NI_ELIM_CFG_H b n) seq).put (NI_ELIM_ST_INIT b n) 0) 1 1)
    else if 1 ≤ d ∧ d ≤ 32767 then
      -- Values since the first one that leave the window unmarked, and those passed over beyond the new window.
      let out := ((List.range span).filter (fun i => decide (64 ≤ i + d) && !bit w i)).length + (d - 64)
      (true, setW ((s.put (NI_ELIM_CFG_H b n) seq).bump (C_NI_ELIM_GAP b) out) (w * 2 ^ d + 1) (span + d))
    else if d = 0 ∨ 65473 ≤ d then
      let i := (65536 - d) % 65536
      if bit w i then (false, s.count (C_NI_ELIM_DUP b)) else (true, setW s (w + 2 ^ i) span)
    else (false, s.count (C_NI_ELIM_STALE b))

/-- An elimination entry returns to its initial state. -/
def State.elimReset (s : State) (t n : Nat) : State := s.put (NI_ELIM_ST_INIT (elimBase t) n) 1

/-- The transit filter of a PT (R146): whether to transmit the copy, and the state after. A copy that comes after the key of
its twin has aged out is counted. -/
def State.transitFilter (s : State) (t : Nat) (otherIn : Bool) (p : Pkt) : Bool × State :=
  let key := (t, p.tag, p.seq, p.stamp)
  let same (e : Nat × Nat × Nat × Nat) : Bool := e.1 == t && e.2.1 == p.tag && e.2.2.1 == p.seq
  if s.mesh.transit.any same then (false, { s with mesh := { s.mesh with transit := dropFirst same s.mesh.transit } })
  else
    let late := s.mesh.aged.contains key
    let s := s.doIf late (fun s => { s.count (C_PT_NI_ELIM_PASS (match tileUnit t with | .pt c => c | _ => 0)) with mesh := { s.mesh with aged := dropFirst (fun e => e == key) s.mesh.aged } })
    if otherIn then (true, { s with mesh := { s.mesh with transit := s.mesh.transit ++ [key] } }) else (true, s)

end Sys2Proof.Machine
end

