-- ==== Sys2Proof/Machine/Mailbox.lean ====
section
/-! DEFINITION. The mailbox protocol as every command uses it: the open command, its answer, parking, and the guard
that lets a command row run only while its mailbox holds it RUNNING (R388 to R395). Where the manual
lays a command's body out, it is read from the command area. The fields of other bodies are operands of their rows
(assumption log 8). -/

namespace Sys2Proof.Machine

/-! ### Wellhead -/

/-- Wellhead states (Table 14-15). -/
def whHALTED : Nat := 0
def whBOOTING : Nat := 1
def whUP : Nat := 2
def whRESTARTING : Nat := 3
def whHANDOVER : Nat := 4

def State.whState (s : State) : Nat := s.get GLB_WH_STAT_STATE

/-- A query answers OK and writes no journal entry. -/
def State.okQuery (s : State) (mb : Nat) (body : List Nat) : State := s.reply mb mOK 0 0 0 body

def State.refuse (s : State) (mb reason detail : Nat) : State := s.reply mb mREFUSED reason 0 detail []
def State.busy (s : State) (mb detail : Nat) : State := s.reply mb mBUSY 0 0 detail []
def State.lockedMb (s : State) (mb detail : Nat) : State := s.reply mb mLOCKED 0 0 detail []

/-- Parks the open command of a mailbox until `w` happens (R393). -/
def State.park (s : State) (mb : Nat) (w : Parked) : State :=
  match s.openCmd mb with
  | none => s
  | some c =>
    let c' : OpenCmd := { c with wait := some w }
    { s.put (MB_STAT_STATE mb) mbPARKED with wh := { s.wh with cmds := tset s.wh.cmds mb c' } }

/-- The mailbox whose open command is parked on something that satisfies a test. -/
def State.parkedOn (s : State) (f : Parked → Bool) : Option Nat :=
  (s.wh.cmds.find? (fun e => match e.2.wait with | some w => f w | none => false)).map (·.1)

/-- Runs the body of a command row: only while its mailbox holds that opcode RUNNING; anything else is an event
that no table lists (R16, R393). -/
def State.runCmd (s : State) (mb op : Nat) (f : OpenCmd → State → State) : State :=
  match s.openCmd mb with
  | none => s.smIgnored
  | some c => if c.op = op ∧ c.wait = none ∧ s.get (MB_STAT_STATE mb) = mbRUNNING then f c s else s.smIgnored

/-! ### The command index (Tables 14-7, 10-12, 9-15, 5-4, 6-7, 7-15, 11-5, 13-11, 12-9) -/

def opKnown (op : Nat) : Bool :=
  let g := op / 256
  let n := op % 256
  match g with
  | 1 => decide (1 ≤ n ∧ n ≤ 4)
  | 2 => decide (1 ≤ n ∧ n ≤ 7) || decide (0x20 ≤ n ∧ n ≤ 0x25)
  | 3 => decide (1 ≤ n ∧ n ≤ 7)
  | 4 => decide (1 ≤ n ∧ n ≤ 8)
  | 5 => decide (1 ≤ n ∧ n ≤ 10)
  | 6 => decide (1 ≤ n ∧ n ≤ 8)
  | 7 => decide (1 ≤ n ∧ n ≤ 8)
  | 8 => decide (1 ≤ n ∧ n ≤ 5)
  | 9 => decide (1 ≤ n ∧ n ≤ 5)
  | 10 => decide (1 ≤ n ∧ n ≤ 6)
  | 11 => decide (1 ≤ n ∧ n ≤ 5)
  | _ => false

/-- Queries, which change no state; a command with a clearing flag is one only while the flag is clear (R395). -/
def opQuery (op flags : Nat) : Bool :=
  [0x0101, 0x0102, 0x0103, 0x0104, 0x0302, 0x0306, 0x0403, 0x050A, 0x0608, 0x0706, 0x0905, 0x0225, 0x0207, 0x0804,
    0x0A06, 0x0B04].contains op
  || ([0x0705, 0x0903, 0x0B01].contains op && !bit flags 0)

/-- Does LENGTH fit the opcode, where the manual states a length (R390, R400, Table 6-5)? -/
def opLenOk (op len : Nat) : Bool :=
  decide (len ≤ 4080)
    && (if op = 0x0401 then len == 48
        else if op = 0x0A04 then len == 8
        else if op = 0x0A02 then decide (16 < len) && len % 4 == 0
        else true)

/-- The issuer of a command rung on a mailbox (R388). -/
def State.issuerOf (s : State) (mb : Nat) : Nat := if mb = 0 then 0x20 + s.get (MB_ISSUER_HPART 0) else 1

/-- Is a parked command of group `g` open in another mailbox (R393)? -/
def State.groupParked (s : State) (mb g : Nat) : Bool :=
  s.wh.cmds.any (fun e => e.1 != mb && e.2.wait.isSome && e.2.op / 256 == g)

/-- The command header that stands in a mailbox's command area (Table 14-4). -/
def State.cmdHeader (s : State) (mb : Nat) : OpenCmd :=
  let d (i : Nat) := s.rd (R_MB_CMD mb i)
  ⟨bits (d 0) 0 16, bits (d 0) 16 16, bits (d 1) 0 16, bits (d 1) 16 16, d 2, s.issuerOf mb, none⟩

/-- Checks 2 to 6 of R390: the status of the first that fails, or OK. -/
def State.cmdCheck (s : State) (mb : Nat) (c : OpenCmd) : Nat :=
  let g := c.op / 256
  let own := s.get (SEM_OWN_OWNER g)
  if c.seq ≠ (s.get (MB_SEQ_LAST mb) + 1) % 2 ^ 32 then mSEQ_ERROR
  else if !opKnown c.op then mBAD_OPCODE
  else if !opLenOk c.op c.len then mBAD_LENGTH
  else if !opQuery c.op c.flags && ((own != 0 && own != c.issuer) || s.groupParked mb g) then mBUSY
  else if c.op = 0x0B05 ∧ s.get SC_LIFECYCLE_STATE ≠ 0 then mDENIED
  else mOK

/-- A doorbell on a mailbox by a partition (or Port B): R392, R398. -/
def State.doorbell (s : State) (mb hpart : Nat) : State :=
  let s := s.doIf (mb == 0) (·.put (MB_ISSUER_HPART 0) hpart)
  let c := s.cmdHeader mb
  let s := { s.put (MB_STAT_STATE mb) mbPENDING with
    wh := { s.wh with cmds := tset s.wh.cmds mb c, rung := s.wh.rung ++ [mb] } }
  if s.whState = whUP ∨ s.whState = whBOOTING then s else s.reply mb mUNAVAILABLE 0 0 0 []

/-- The Wellhead, with PD_WH on, takes the command rung first and checks it (R390, R393). -/
def State.takeCommand (s : State) : State :=
  if s.whState ≠ whUP ∨ dDRAINING < s.dom 60 ∨ s.wh.cmds.any (fun e => s.get (MB_STAT_STATE e.1) == mbRUNNING) then s.smIgnored
  else match s.wh.rung with
  | [] => s.smIgnored
  | mb :: rest =>
    let c := s.cmdHeader mb
    let s := { s.put (MB_STAT_STATE mb) mbRUNNING with wh := { s.wh with cmds := tset s.wh.cmds mb c, rung := rest } }
    let st := s.cmdCheck mb c
    if st = mOK then s else s.reply mb st 0 0 0 []

/-- CX answers ABORTED to the command open in a mailbox (R399). -/
def State.abortMb (s : State) (mb : Nat) : State := s.reply mb mABORTED 0 0 0 []

/-! ### Mailbox rows -/

/-- COMMAND_TAKE (R390, R393). -/
def execCommandTake (s : State) : Out := act s s.takeCommand

/-- The first `len` bytes of a command's body, as dwords (R390). -/
def State.cmdBody (s : State) (mb len : Nat) : List Nat :=
  (List.range (ceilDiv len 4)).map (fun i => s.rd (R_MB_CMD mb (4 + i)) % 2 ^ (8 * min 4 (len - 4 * i)))

/-- ECHO returns its body (R395), the dwords `body` that stand in the command area (assumption log 8). -/
def execEcho (mb : Nat) (body : List Nat) (s : State) : Out :=
  act s (s.runCmd mb 0x0103 (fun c s =>
    if s.cmdBody mb c.len = body then (s.okQuery mb body).putRsp mb 1 [c.tag + c.len * 2 ^ 16] else s.smIgnored))

/-- IDENTIFY returns nine dwords (R395). -/
def execIdentify (mb : Nat) (s : State) : Out :=
  act s (s.runCmd mb 0x0101 (fun _ s => s.okQuery mb
    [s.rd R_GLB_ID, s.rd R_GLB_STEP, s.rd R_GLB_NODE, s.rd R_SC_LIFECYCLE, s.rd R_GLB_VENDOR, s.rd R_GLB_FW_VER_A,
      s.rd R_GLB_FW_VER_B, s.rd R_GLB_WH_STAT, s.wh.jfmt % 256]))

end Sys2Proof.Machine
end

