-- ==== Sys2Proof/Machine/Routes.lean ====
section
/-! DEFINITION. Route tables and epochs: the route commands, the quiet switch, Hellos sent, and the ages of transit
and elimination entries (05_fabric_routes.md). -/

namespace Sys2Proof.Machine

/-! ### Ports -/

def nbrUNROUTABLE : Nat := 0
def nbrROUTABLE : Nat := 1
def nbrGRACE : Nat := 2

def State.nbr (s : State) (p : Nat) : Nat := s.get (PORT_NBR_STATE (portC p) (portK p))

/-- A change of a port's routing state raises the RTE neighbour event (R136). -/
def State.setNbr (s : State) (p st : Nat) : State :=
  if s.nbr p = st then s else (s.put (PORT_NBR_STATE (portC p) (portK p)) st).rteEvent

/-- Port numbers of the Runnel fabric ports. -/
def State.fabricPorts (s : State) : List Nat := (List.range 128).filter (fun p => s.portKind p == kindRunnel)

/-- May GLB_NODE.ID, RTE_NODE_CFG.TIER and SET be written (R133)? -/
def State.nodeFree (s : State) : Bool := s.fabricPorts.all (fun p => s.nbr p == nbrUNROUTABLE)

def nbrDir (s : State) (p : Nat) : Nat := s.get (PORT_NBR_DIR (portC p) (portK p))

/-! ### Commit checks (R142) -/

/-- The first check of R142 that an entry fails, 0 when it passes all. -/
def State.entryFail (s : State) (b n : Nat) : Nat :=
  let i := rteIdx b n
  let down := s.on (RTE_ENT_DOWN i)
  let gb := s.get (RTE_ENT_GRP_BULK i)
  let ga := s.get (RTE_ENT_GRP_A i)
  let gB := s.get (RTE_ENT_GRP_B i)
  let tier := s.get RTE_NODE_CFG_TIER
  let set := s.get RTE_NODE_CFG_SET
  let okDir (p : Nat) : Bool := s.portKind p == kindRunnel && nbrDir s p == (if down then 2 else 1)
  let setIs (v p : Nat) : Bool := s.get (PORT_NBR_SET (portC p) (portK p)) == v
  if !(s.grp b gb ++ s.grp b ga ++ s.grp b gB).all okDir then 1
  else if gb = 0 then 2
  else if tier = 0 ∧ !((s.grp b ga).all (setIs 0) && (s.grp b gB).all (setIs 1)) then 3
  else if tier ≠ 0 ∧ (if set = 0 then gB else ga) ≠ 0 then 4
  else if tier = 2 ∧ !down then 5
  else 0

/-- The first failing entry of a bank and its check. -/
def State.commitFail (s : State) (b : Nat) : Option (Nat × Nat) :=
  ((List.range 4096).find? (fun n => n != s.node && s.on (RTE_ENT_VALID (rteIdx b n)) && s.entryFail b n != 0)).map
    (fun n => (n, s.entryFail b n))

/-- Sets ELIG of a bank for every ROUTABLE port and clears it for every other (R139). -/
def State.setElig (s : State) (b : Nat) : State :=
  s.forEach (List.range 128) (fun p u =>
    u.put (if b = 0 then PORT_NBR_ELIG0 (portC p) (portK p) else PORT_NBR_ELIG1 (portC p) (portK p)) (b2n (u.nbr p = nbrROUTABLE)))

/-! ### Route commands (Table 5-4) -/

/-- ROUTE_SET_NODE (R133). -/
def State.routeSetNode (s : State) (mb node tier set : Nat) : State :=
  if 4096 ≤ node ∨ 3 ≤ tier ∨ 2 ≤ set then s.refuse mb 0 0
  else if !s.nodeFree then s.busy mb 0
  else ((((s.put GLB_NODE_ID node).put RTE_NODE_CFG_TIER tier).put RTE_NODE_CFG_SET set).put TM_GM_CFG_TIER tier).ok mb []

def execRouteSetNode (mb node tier set : Nat) (s : State) : Out :=
  act s (s.runCmd mb 0x0301 (fun _ s => s.routeSetNode mb node tier set))

def execRouteNeighbours (mb : Nat) (s : State) : Out :=
  act s (s.runCmd mb 0x0302 (fun _ s => s.okQuery mb (s.fabricPorts.map (fun p => s.rd (R_PORT_NBR (portC p) (portK p))))))

/-- ROUTE_LOAD: entries and groups of a FREE bank; SYNC_BUSY sets until every replica holds them (R149). Group 0
ignores writes (R138). -/
def State.routeLoad (s : State) (mb bank : Nat) (ents : List (Nat × Word)) (grps : List (Nat × List Nat)) : State :=
  if 2 ≤ bank then s.refuse mb 0 0
  else match ents.findIdx? (fun e => decide (4096 ≤ e.1)) with
  | some i => s.refuse mb 0 i
  | none => match grps.findIdx? (fun g => decide (256 ≤ g.1)) with
  | some i => s.refuse mb 0 i
  | none =>
    if s.bank bank ≠ 0 then s.busy mb 0
    else
      let s := s.forEach ents (fun e u => u.wr (R_RTE_ENT (rteIdx bank e.1)) (e.2.toNat % 2 ^ 26))
      let s := s.forEach (grps.filter (fun g => g.1 != 0)) (fun g u =>
        u.forEach (List.range 4) (fun w v => v.wr (R_RTE_GRP (bank * 1024 + g.1 * 4 + w)) (g.2.getD w 0)))
      (s.put RTE_STAT_SYNC_BUSY 1).ok mb []

def execRouteLoad (mb bank : Nat) (ents : List (Nat × Word)) (grps : List (Nat × List Nat)) (s : State) : Out :=
  act s (s.runCmd mb 0x0303 (fun _ s => s.routeLoad mb bank ents grps))

/-- ROUTE_COMMIT (R142, Table 5-3). -/
def State.routeCommit (s : State) (mb bank : Nat) : State :=
  if 2 ≤ bank then s.refuse mb 0 0
  else if s.bank bank ≠ 0 ∨ s.on RTE_STAT_SYNC_BUSY then s.busy mb 0
  else match s.commitFail bank with
  | some (n, c) => s.refuse mb c n
  | none => ((s.setBank bank 1).setElig bank).ok mb []

def execRouteCommit (mb bank : Nat) (s : State) : Out := act s (s.runCmd mb 0x0304 (fun _ s => s.routeCommit mb bank))

/-- Flips the epoch to `bank` (Table 5-3, R150, R416). -/
def State.flip (s : State) (bank : Nat) : State :=
  let s := ((s.setBank (1 - bank) 3).setBank bank 2).put RTE_CTL_EPOCH bank
  let q := clampN 2000 10000000 (s.get RTE_QUIET_NS)
  let un := (s.mesh.recent.filter (fun e => decide (s.ns < e.2 + q))).map (·.1)
  let s := { s with mesh := { s.mesh with unswitched := un } }
  (s.put RTE_STAT_SWITCHED (b2n un.isEmpty)).faultGen

def State.routeFlip (s : State) (mb bank : Nat) : State :=
  if 2 ≤ bank then s.refuse mb 0 0
  else if s.bank bank ≠ 1 then s.busy mb 0
  else (s.flip bank).ok mb []

def execRouteFlip (mb bank : Nat) (s : State) : Out := act s (s.runCmd mb 0x0305 (fun _ s => s.routeFlip mb bank))

def execRouteDrainStat (mb : Nat) (s : State) : Out :=
  act s (s.runCmd mb 0x0306 (fun _ s => s.okQuery mb
    [s.get RTE_STAT_SWITCHED, s.get (RTE_RES_COUNT 0), s.get (RTE_RES_COUNT 1),
      s.cnt (C_RTE_ENT_CNT 0) % 2 ^ 32, s.cnt (C_RTE_ENT_CNT 0) / 2 ^ 32, s.cnt (C_RTE_ENT_CNT 1) % 2 ^ 32, s.cnt (C_RTE_ENT_CNT 1) / 2 ^ 32]))

def State.routeFree (s : State) (mb bank : Nat) : State :=
  if 2 ≤ bank then s.refuse mb 0 0
  else if s.bank bank = 3 ∧ s.on RTE_STAT_SWITCHED ∧ s.get (RTE_RES_COUNT bank) = 0 then (s.setBank bank 0).ok mb []
  else s.busy mb 0

def execRouteFree (mb bank : Nat) (s : State) : Out := act s (s.runCmd mb 0x0307 (fun _ s => s.routeFree mb bank))

/-- Every replica holds the write (R149). -/
def execRouteReplicaSync (s : State) : Out :=
  act s (if s.on RTE_STAT_SYNC_BUSY then s.put RTE_STAT_SYNC_BUSY 0 else s.smIgnored)

/-- The NI of tile `t` stamps the new epoch from now on (R150). -/
def State.quietEnd (s : State) (t : Nat) : State :=
  let un := s.mesh.unswitched.filter (· != t)
  let s := { s with mesh := { s.mesh with unswitched := un } }
  let s := s.put RTE_STAT_SWITCHED (b2n un.isEmpty)
  s.retry (fun h => h.tile == t && h.why == .quiet)

/-! ### Hellos (R134) -/

/-- The Hello of port `p`: link-local, on TC6, management code 0x0001. -/
def State.helloPkt (s : State) (p : Nat) : Pkt :=
  let d0 := s.node + s.get RTE_NODE_CFG_TIER * 2 ^ 12 + s.get RTE_NODE_CFG_SET * 2 ^ 14
  let q := pkt0 kMGMT 6 4 4 0 (tileEid s.node (ptTile (portC p))) [BitVec.ofNat 32 d0, 0, 0, 0]
  reChk { q with addr := 1, stamp := s.nowNs % 65536, repoch := s.get RTE_CTL_EPOCH }

/-! ### Ages (R146, R147) -/

/-- 512 FCLK cycles after its insertion a key leaves the transit filter. The model remembers it, so that a second copy that comes
later is counted (R146, assumption log 98). -/
def execTransitKeyAgeOut (t tag seq : Nat) (s : State) : Out :=
  let same (e : Nat × Nat × Nat × Nat) : Bool := e.1 == t && e.2.1 == tag && e.2.2.1 == seq
  act s (match s.mesh.transit.find? same with
    | some e => { s with mesh := { s.mesh with transit := dropFirst same s.mesh.transit, aged := s.mesh.aged ++ [e] } }
    | none => s.smIgnored)

/-- An elimination entry that accepted nothing for RTE_ELIM_AGE returns to its initial state. -/
def execElimAgeExpiry (t n : Nat) (s : State) : Out :=
  act s (if elimBase t = 0 ∨ 1024 ≤ n then s.smIgnored else s.elimReset t n)

end Sys2Proof.Machine
end

