-- ==== Sys2Proof/Machine/Schedule.lean ====
section
/-! DEFINITION. The passing of fabric time: the rate of R34, frame boundaries and numbers (R53, R54), an armed
switch (R57), missed ticks, and the growth of the holdover error (R51). -/

namespace Sys2Proof.Machine

/-- Do ticks fire (R53)? -/
def State.ticking (s : State) : Bool :=
  s.tm.tclk && s.on TM_FRAME_CTL_EN && (s.on TM_STATUS_VALID || s.on TM_FRAME_CTL_FREE)

/-- A frame schedule: anchor (T0, F0) and period. -/
structure Sched where
  t0  : Int
  f0  : Int
  per : Int
  deriving DecidableEq, Repr

def Sched.instant (c : Sched) (n : Int) : Int := c.t0 + (n - c.f0) * c.per
/-- The number of the last boundary at or before an instant. -/
def Sched.number (c : Sched) (ns : Int) : Int := c.f0 + (ns - c.t0) / c.per

/-- The period and phase in force, held to their ranges (R53). -/
def State.framePer (s : State) : Nat := clampN 8000 4096000 (s.get TM_FRAME_PERIOD_NS)
def State.framePhase (s : State) : Nat := min (s.get TM_FRAME_PHASE_NS) (s.framePer - 1)
/-- The period and phase of the armed switch (R57). -/
def State.nextPer (s : State) : Nat := s.tm.swPer
def State.nextPhase (s : State) : Nat := s.tm.swPhase

def State.baseSched (s : State) : Sched := ⟨s.tm.t0, s.tm.f0, s.framePer⟩

/-- The schedule after a switch at S (R57). -/
def State.switchSched (s : State) (n : Nat) : Sched :=
  let ts := s.baseSched.instant n
  ⟨ts + s.nextPer + s.nextPhase - s.framePhase, n + 1, s.nextPer⟩

/-- The schedule that gives the next tick: an armed switch whose S has been skipped already counts (R59). -/
def State.sched (s : State) : Sched :=
  match s.tm.swS with
  | some n => if (n : Int) ≤ s.tm.hdl then s.switchSched n else s.baseSched
  | none => s.baseSched

/-- The number and instant (ns) of the next tick. -/
def State.nextTick (s : State) : Int := s.tm.hdl + 1
def State.nextTickNs (s : State) : Int := s.sched.instant s.nextTick

/-- TM_RATE.ADJ as the timebase limits it (R34). -/
def State.adj (s : State) : Int := clampI (-858993) 858993 (toSigned 32 (s.get TM_RATE_ADJ))

/-- Fabric time units (2^-32 ns) per TCLK cycle. -/
def State.rate (s : State) : Int := 2 ^ 32 + s.adj

/-- OUT_OF_BOUND is 1 while TM_HOLD_ERR exceeds TM_HOLD_LIMIT (R36). -/
def State.showBound (s : State) : State :=
  s.put TM_STATUS_OUT_OF_BOUND (b2n (clampN 4 16000000 (s.get TM_HOLD_LIMIT_LIMIT) < s.get TM_HOLD_ERR_ERR))

/-- TM_HOLD_ERR grows over `n` ns and sets OUT_OF_BOUND past its limit (R51). -/
def State.holdGrow (s : State) (n : Nat) : State :=
  if !s.tm.growing then s
  else
    let f := s.tm.holdFrac + 16 * n * clampN 1 10000 (s.get TM_HOLD_UNC_PPB)
    let err := min (s.get TM_HOLD_ERR_ERR + f / 1000000000) 0xFFFFFFFF
    { s.put TM_HOLD_ERR_ERR err with tm := { s.tm with holdFrac := f % 1000000000 } }.showBound

/-- Boundaries pass while ticks do not fire: they count as missed while VALID is set and EN is clear (R60). -/
def State.passBoundaries (s : State) : State :=
  if s.ticking then s
  else
    let n := s.sched.number s.ns
    if n ≤ s.tm.hdl then s
    else
      let k := (n - s.tm.hdl).toNat
      let s := s.doIf (s.on TM_STATUS_VALID && !s.on TM_FRAME_CTL_EN) (·.bump C_TM_MISSED_TICKS k)
      { s with tm := { s.tm with hdl := n } }

/-! ### Gate lists (R160 to R163) -/

def gclIdx (k b i : Nat) : Nat := k * 128 + b * 64 + i

/-- Entries of a list from `i`: (OFFSET, GATES) up to LAST, entry 63, or an offset that does not rise; the flag is
LIST_BAD. -/
def State.gclFrom (s : State) (c k b : Nat) : Nat → Nat → List (Nat × Nat) × Bool
  | 0, _ => ([], false)
  | fuel + 1, i =>
    let o := s.get (GCL_ENT0_OFFSET c (gclIdx k b i))
    let e := (o, s.get (GCL_ENT1_GATES c (gclIdx k b i)))
    if s.on (GCL_ENT1_LAST c (gclIdx k b i)) ∨ i = 63 then ([e], false)
    else if s.get (GCL_ENT0_OFFSET c (gclIdx k b (i + 1))) ≤ o then ([e], true)
    else
      let r := s.gclFrom c k b fuel (i + 1)
      (e :: r.1, r.2)

/-- The gate list of bank `b` of port `p`. -/
def State.gcl (s : State) (p b : Nat) : List (Nat × Nat) := (s.gclFrom (portC p) (portK p) b 64 0).1
def State.gclBad (s : State) (p b : Nat) : Bool := (s.gclFrom (portC p) (portK p) b 64 0).2

/-- A PCI Express port with a link that is not in FLIT mode. -/
def State.nonFlit (s : State) (p : Nat) : Bool :=
  (s.portKind p == kindHost || s.portKind p == kindDown) && s.get (PCFG_LSTAT_STATE (portC p) (portK p)) == 2 &&
    !s.on (PCFG_LSTAT_FLIT (portC p) (portK p))

/-- Is the list in use (R161)? A non-FLIT PCI Express port stays at IDLE_GATES (R296). -/
def State.gclUsed (s : State) (p : Nat) : Bool :=
  s.on (GCL_CTL_EN (portC p) (portK p)) && s.ticking && !s.nonFlit p

def State.gclActive (s : State) (p : Nat) : Nat := s.get (GCL_STAT_ACTIVE (portC p) (portK p))

/-- Does the list of port `p` end at an entry whose successor does not rise, and does that entry come into force as e
goes from `a` to `b` (R161)? -/
def State.listMeets (s : State) (p a b : Nat) : Bool :=
  s.gclUsed p && s.gclBad p (s.gclActive p) &&
    (match (s.gcl p (s.gclActive p)).getLast? with | some x => decide (a < x.1 ∧ x.1 ≤ b) | none => false)

/-- LIST_BAD of the ports that meet a bad entry as e goes from `a` to now. -/
def State.listsBad (s : State) (a : Nat) : State :=
  s.forEach ((List.range 128).filter (fun p => s.listMeets p a s.tm.e)) (fun p u => u.put (GCL_STAT_LIST_BAD (portC p) (portK p)) 1)

/-! ### Shapers (R166, R167) -/

def State.tokens (s : State) (p q : Nat) : Int := toSigned 32 (s.get (SHP_TOKENS_TOKENS (portC p) (portK p) q))
def State.setTokens (s : State) (p q : Nat) (v : Int) : State := s.put (SHP_TOKENS_TOKENS (portC p) (portK p) q) (fromSigned 32 v)

def State.shpOn (s : State) (p q : Nat) : Bool := s.on (SHP_CFG_EN (portC p) (portK p) q)

/-- TCLK cycles between refills of a shaper. -/
def State.refillPer (s : State) (p q : Nat) : Nat := max 64 (s.get (SHP_CFG_REFILL (portC p) (portK p) q))

/-- A refill instant of one shaper: staged values first, then QUANT up to BURST (R167). -/
def State.refill (s : State) (p q : Nat) : State :=
  let c := portC p
  let k := portK p
  let was := s.shpOn p q
  let load (s : State) (off : Nat) : State :=
    match tget s.sch.staged off with
    | none => s
    | some w => { s.wr off w with sch := { s.sch with staged := tdel s.sch.staged off } }
  let s := load (load (load s (R_SHP_CFG c k q)) (R_SHP_QUANT c k q)) (R_SHP_BURST c k q)
  let burst : Int := s.get (SHP_BURST_BYTES c k q)
  if s.shpOn p q ∧ !was then s.setTokens p q burst
  else s.setTokens p q (min (s.tokens p q + s.get (SHP_QUANT_BYTES c k q)) burst)

def State.stageShp (s : State) (off w : Nat) : State := { s with sch := { s.sch with staged := tset s.sch.staged off w } }

/-- The refills of shaper `key` (port × 8 + queue) that are due: the first takes the staged values, and those after it,
one every REFILL ns, add QUANT each. -/
def State.refillDue (s : State) (key : Nat) : State :=
  let p := key / 8
  let q := key % 8
  let t1 := tgetD s.sch.refAt key 0 + s.refillPer p q
  if s.tm.cyc < t1 then s
  else
    let s := s.refill p q
    let k := (s.tm.cyc - t1) / s.refillPer p q
    let s := if k = 0 then s
      else s.setTokens p q (min (s.tokens p q + k * s.get (SHP_QUANT_BYTES (portC p) (portK p) q)) (s.get (SHP_BURST_BYTES (portC p) (portK p) q)))
    { s with sch := { s.sch with refAt := tset s.sch.refAt key (t1 + k * s.refillPer p q) } }

/-- The shapers of a port start their refills when the port is configured (R167). -/
def State.refillsFrom (s : State) (p : Nat) : State :=
  let now := s.tm.cyc
  s.forEach (List.range 8) (fun q u => { u with sch := { u.sch with refAt := tset u.sch.refAt (p * 8 + q) now } })

/-! ### The 1PPS output (R49) -/

/-- TM_PPSO_OFFSET in units of 2^-32 ns. -/
def State.ppsoOffset (s : State) : Int := clampI (-1000000) 1000000 (toSigned 32 (s.get TM_PPSO_OFFSET_PS)) * 2 ^ 32 / 1000

/-- Number of the last whole second, shifted by the offset, at or before instant `t` (2^-32 ns), and its instant. -/
def State.ppsNum (s : State) (t : Int) : Int := (t - s.ppsoOffset) / (1000000000 * 2 ^ 32)
def State.ppsAt (s : State) (k : Int) : Int := k * (1000000000 * 2 ^ 32) + s.ppsoOffset

/-- TM_PPSO_WIDTH in ns. -/
def State.ppsWidth (s : State) : Nat := 1000 * clampN 1 500000 (s.get TM_PPSO_WIDTH_US)

/-- TCLK cycles from `d` units of 2^-32 ns of fabric time. -/
def State.cyclesIn (s : State) (d : Int) : Nat := ((d + s.rate - 1) / s.rate).toNat

/-- What is left of the pulse after `n` cycles that took fabric time from `a` to `b`: a rise on the way starts a pulse. -/
def State.ppsAfter (s : State) (a b : Nat) (n : Nat) : Nat :=
  if !s.on TM_STATUS_VALID then 0
  else if s.ppsNum a < s.ppsNum b then s.ppsWidth - (((b : Int) - s.ppsAt (s.ppsNum b)) / s.rate).toNat
  else s.tm.ppsLeft - n

/-! ### Time passes -/

/-- `n` TCLK cycles pass, with no tick among them: fabric time, e, the holdover error, the 1PPS output, refills of the
configured ports' shapers, and the entries that lists come to. -/
def State.cycles (s : State) (n : Nat) : State :=
  if !s.tm.tclk then s
  else
    let now := (s.tm.now + n * s.rate).toNat
    let e := s.tm.e
    let left := s.ppsAfter s.tm.now now n
    let s := { s with tm := { s.tm with
      now := now
      e := e + n
      cyc := s.tm.cyc + n
      ppsAge := s.tm.ppsAge + n
      ppsLeft := left } }
    let s := ((s.holdGrow n).passBoundaries).listsBad e
    s.forEach (s.sch.refAt.map (·.1)) (fun k u => u.refillDue k)

/-- TCLK cycles until fabric time, in whole ns, reaches `x`. -/
def State.cyclesTo (s : State) (x : Int) : Nat := if (s.ns : Int) < x then s.cyclesIn (x * 2 ^ 32 - s.tm.now) else 0

/-- Does e reach `x` in this frame: before the next tick (R55)? -/
def State.reaches (s : State) (x : Nat) : Bool := !s.ticking || decide (x ≤ s.tm.e) || decide (x - s.tm.e < s.cyclesTo s.nextTickNs)

/-- Time passes until e reaches `x` TCLK cycles, where it does in this frame (assumption log 3). -/
def State.reachE (s : State) (x : Nat) : State := s.cycles (x - s.tm.e)

/-- Time passes until fabric time, in whole ns, reaches `x`, an instant before the next tick. -/
def State.reachNs (s : State) (x : Nat) : State := s.cycles (s.cyclesTo x)

end Sys2Proof.Machine
end

