-- ==== Sys2Proof/Machine/Clock.lean ====
section
/-! DEFINITION. Records of a port, holdover, and the choice of the grandmaster and of the parent port (R43 to R46, R51). -/

namespace Sys2Proof.Machine

/-! ### Registers and records of a port -/

def State.pget (s : State) (f : Nat → Nat → Fld) (p : Nat) : Nat := s.get (f (portC p) (portK p))
def State.pon (s : State) (f : Nat → Nat → Fld) (p : Nat) : Bool := s.on (f (portC p) (portK p))
def State.pput (s : State) (f : Nat → Nat → Fld) (p v : Nat) : State := s.put (f (portC p) (portK p)) v
def State.pcount (s : State) (f : Nat → Nat → Nat) (p : Nat) : State := s.count (f (portC p) (portK p))
def State.pbump (s : State) (f : Nat → Nat → Nat) (p n : Nat) : State := s.bump (f (portC p) (portK p)) n

def lkDISABLED : Nat := 0
def lkDETECT : Nat := 1
def lkLOCK : Nat := 2
def lkCONFIG : Nat := 3
def lkACTIVE : Nat := 4
def lkRETRAIN : Nat := 5
def lkEIDLE : Nat := 6

def State.lst (s : State) (p : Nat) : Nat := s.pget LNK_STAT_STATE p

def State.lk (s : State) (p : Nat) : LnkP := tgetD s.lnk.ports p {}
def State.lkMap (s : State) (p : Nat) (f : LnkP → LnkP) : State :=
  { s with lnk := { s.lnk with ports := tset s.lnk.ports p (f (s.lk p)) } }

/-- Is `p` a Runnel port? -/
def State.isRunnel (s : State) (p : Nat) : Bool := decide (p < 128) && s.portKind p == kindRunnel

/-- An event that Table 9-10 does not list (R16, R285). -/
def State.lnkIgnored (s : State) (p : Nat) : State := s.pcount C_LNK_EVT_IGNORED p

/-- A link event: its bit of LNK_EVT. -/
def State.lnkEvt (s : State) (p : Nat) (f : Nat → Nat → Fld) : State := s.pput f p 1

def State.held (s : State) (p : Nat) : Bool := s.pon LNK_STAT_HELD p

/-! ### Holdover (R51) -/

/-- No source disciplines the node any more (R51). -/
def State.holdover (s : State) : State :=
  if !s.on TM_STATUS_VALID then s
  else
    let s := s.doIf (!s.on TM_STATUS_HOLDOVER) (fun s => { s.put TM_HOLD_ERR_ERR s.tm.residual with tm := { s.tm with holdFrac := 0 } })
    let s := (s.put TM_STATUS_HOLDOVER 1).put TM_STATUS_LOCKED 0
    let s := { s with tm := { s.tm with growing := true, lockRun := 0 } }
    s.holdGrow 0

/-! ### Grandmaster and time tree (R43 to R46) -/

/-- The tiles of TB0 and TB1 (Table 4-1), and that of the active one. -/
def tbTiles : List Nat := [9, 54]
def State.tbTile (s : State) : Nat := if s.on TM_STATUS_TB_ACTIVE then 54 else 9

/-- The port is in service: a fabric port whose link is ACTIVE. -/
def State.portUp (s : State) (p : Nat) : Bool := s.isRunnel p && s.lst p == lkACTIVE

/-- The node's own dataset. -/
def State.ownGm (s : State) : GmSet :=
  ⟨s.get TM_GM_CFG_PRIORITY1, s.tm.cls, s.get TM_GM_CFG_PRIORITY2, s.get TM_GM_CFG_TIER, 0, s.node⟩

/-- Is dataset `a` better than `b` by the keys of Table 2-5? -/
def gmBetter (a b : GmSet) : Bool :=
  if a.prio1 ≠ b.prio1 then decide (a.prio1 < b.prio1)
  else if a.cls ≠ b.cls then decide (a.cls < b.cls)
  else if a.prio2 ≠ b.prio2 then decide (a.prio2 < b.prio2)
  else if a.tier ≠ b.tier then decide (b.tier < a.tier)
  else decide (a.node < b.node)

/-- Do two datasets name the same grandmaster? -/
def gmSame (a b : GmSet) : Bool := !gmBetter a b && !gmBetter b a

/-- What the ports in service offer. -/
def State.offers (s : State) : List (Nat × GmSet) := s.tm.cands.filter (fun e => s.portUp e.1)

/-- The best dataset the node knows. -/
def State.bestGm (s : State) : GmSet := s.offers.foldl (fun b e => if gmBetter e.2 b then e.2 else b) s.ownGm

/-- The parent port for a grandmaster: the lowest STEPS, then the lower port number (R44). -/
def State.bestPort (s : State) (g : GmSet) : Option (Nat × GmSet) :=
  (s.offers.filter (fun e => gmSame e.2 g)).foldl
    (fun b e => match b with | none => some e | some x => if e.2.steps < x.2.steps then some e else b) none

/-- Chooses the grandmaster and the parent port afresh (R43, R44). A node that had a parent and has none holds over. -/
def State.chooseGm (s : State) : State :=
  let own := s.ownGm
  let g := s.bestGm
  let s := s.put TM_STATUS_GM_SELF (b2n (gmSame g own))
  let par := if gmSame g own then none else (s.bestPort g).map (·.1)
  let lost := s.tm.parent.isSome && par.isNone
  let s := { s with tm := { s.tm with parent := par } }
  s.doIf (lost && decide (s.tm.cls ≠ 0)) (·.holdover)

/-- A port has left service, or its parent end is silent: what it offered is forgotten, and a node that loses its parent so
changes to its best alternate at once, in holdover until the first exchange there, or holds over (R45, R46). -/
def State.portGone (s : State) (p : Nat) : State :=
  let s' := { s with tm := { s.tm with cands := tdel s.tm.cands p, exch := tdel s.tm.exch p } }
  if s.tm.parent = some p then s'.holdover.chooseGm else s'

/-- The link of a port changes its state; one that leaves ACTIVE leaves service. -/
def State.setLst (s : State) (p v : Nat) : State :=
  let s' := s.pput LNK_STAT_STATE p v
  if s.lst p = lkACTIVE ∧ v ≠ lkACTIVE then s'.portGone p else s'

/-! ### TIME packets (Table 2-3) -/

/-- A timestamp (2^-16 ns) in three dwords (Table 2-1). -/
def timeWords (t : Nat) : List Nat :=
  let ns := t / 65536
  [ns % 1000000000, ns / 1000000000 % 2 ^ 32, ns / 1000000000 / 2 ^ 32 % 65536 + t % 65536 * 65536]

def timeOfWords (ws : List Nat) : Nat :=
  let w1 := ws.getD 1 0
  let w2 := ws.getD 2 0
  ((w1 + w2 % 65536 * 2 ^ 32) * 1000000000 + bits (ws.getD 0 0) 0 30) * 65536 + w2 / 65536

/-- SUBTYPE, XSEQ and timestamp of a TIME packet. -/
def timeSub (k : Pkt) : Nat := if k.kind = kTIME then bits ((k.data.getD 0 0).toNat) 0 8 else 0
def timeSeq (k : Pkt) : Nat := bits ((k.data.getD 0 0).toNat) 8 16
def timeStamp (k : Pkt) : Nat := timeOfWords (((k.data.drop 1).take 3).map (·.toNat))

end Sys2Proof.Machine
end

