-- ==== Sys2Proof/Machine/Gates.lean ====
section
/-! DEFINITION. Egress class queues, gate lists, the weir, shapers, fair queuing, stream windows and admission
(06_gates_and_shapers.md, R429 to R433). -/

namespace Sys2Proof.Machine

/-! ### Link rate of a port (R258, R294) -/

/-- Twice the lane rate in GT/s. -/
def rate2 (kind r : Nat) : Nat :=
  if kind = kindRunnel then [0, 64, 128, 256].getD r 0 else [0, 5, 10, 16, 32, 64, 128, 256].getD r 0

/-- Active width of port `p`, and twice its lane rate; 0 while it has no link. -/
def State.linkW (s : State) (p : Nat) : Nat :=
  if s.portKind p = kindRunnel then s.get (LNK_STAT_WIDTH (portC p) (portK p)) else s.get (PCFG_LSTAT_WIDTH (portC p) (portK p))
def State.linkR (s : State) (p : Nat) : Nat :=
  rate2 (s.portKind p) (if s.portKind p = kindRunnel then s.get (LNK_STAT_RATE (portC p) (portK p)) else s.get (PCFG_LSTAT_RATE (portC p) (portK p)))

/-- Twice active width × lane rate of port `p`; 0 while it has no link. -/
def State.wr2 (s : State) (p : Nat) : Nat := s.linkW p * s.linkR p

/-- Bits of a link flit and its payload bytes (Table 6-2). -/
def flitBits (kind : Nat) : Nat := if kind = kindRunnel then 2560 else 2048
def flitPay (kind : Nat) : Nat := if kind = kindRunnel then 296 else 236

/-- t_flit in ns (R164) at twice width × rate `wr`. -/
def tFlit (kind wr : Nat) : Rat := if wr = 0 then 0 else (2 * flitBits kind : Nat) / (wr : Rat)

/-- Bytes of a packet that a port's link counts (Table 6-2). -/
def linkBytes (kind : Nat) (p : Pkt) : Nat :=
  if kind = kindRunnel then pktBytes p
  else match p.tlp with
    | some t => 4 * t.hlen + 4 * p.data.length
    | none => 16 + 4 * p.len

/-- Link time with the added flit, without t_pipe. -/
def linkTime (kind wr b : Nat) : Rat := ((ceilDiv b (flitPay kind) + 1 : Nat) : Rat) * tFlit kind wr

/-- t_pipe of R164, ns. -/
def tPipe : Rat := 4

def ratCeil (q : Rat) : Nat := (Rat.ceil q).toNat

/-- Width and twice the lane rate that W and admission take: those of the link, or x16 at 128 GT/s while a port has none,
for which WEIR holds 24 at reset (assumption log 78). -/
def State.admW (s : State) (p : Nat) : Nat := if s.wr2 p = 0 then 16 else s.linkW p
def State.admR (s : State) (p : Nat) : Nat := if s.wr2 p = 0 then 256 else s.linkR p
def State.admWr (s : State) (p : Nat) : Nat := s.admW p * s.admR p

/-- W of a port in whole ns, which PORTk_WEIR shows (R165). -/
def State.weirOf (s : State) (p : Nat) : Nat :=
  ratCeil (tPipe + linkTime (s.portKind p) (s.admWr p) (s.get (PORT_MAXPKT_BYTES (portC p) (portK p))))

/-! ### Gates in force (R161 to R164) -/

/-- Index of the entry in force at `e`. -/
def entryAt (l : List (Nat × Nat)) (e : Nat) : Nat := ((l.drop 1).filter (fun x => decide (x.1 ≤ e))).length

/-- Does a port shed bulk traffic: it was told to, or it came into use under stage 2 of a sag (R178)? -/
def State.shedding (s : State) (p : Nat) : Bool := s.on (GCL_STAT_SHED (portC p) (portK p)) || decide (2 ≤ s.get PW_STAT_SAG)

/-- Gates of a port now, after shedding (R178). -/
def State.gates (s : State) (p : Nat) : Nat :=
  let g := if s.gclUsed p then
      let l := s.gcl p (s.gclActive p)
      ((l[entryAt l s.tm.e]?).map (·.2)).getD 0
    else s.get (GCL_CTL_IDLE_GATES (portC p) (portK p))
  if s.shedding p then g / 64 * 64 else g

/-- GCL_STAT as it reads: the entry and the gates in force beside the stored bits. -/
def State.gclStat (s : State) (p : Nat) : Nat :=
  let en := if s.gclUsed p then entryAt (s.gcl p (s.gclActive p)) s.tm.e else 0
  insBits (insBits (insBits (s.rd (R_GCL_STAT (portC p) (portK p))) 2 6 en) 8 8 (s.gates p)) 16 1 (b2n (s.shedding p))

/-- The instant (ns) of the tick of frame `n`, past an armed switch too (R57). -/
def State.tickAt (s : State) (n : Int) : Int :=
  match s.tm.swS with
  | some k => if (k : Int) < n then (s.switchSched k).instant n else s.sched.instant n
  | none => s.sched.instant n

/-- The list in force in frame `n`: the shadow bank from the frame of a pending swap on (R162). -/
def State.listIn (s : State) (p : Nat) (n : Int) : List (Nat × Nat) :=
  let due := (match tget s.sch.gclS p with | some k => decide ((k : Int) ≤ n) | none => false)
  s.gcl p (if due then 1 - s.gclActive p else s.gclActive p)

/-- The first entry of a list, before `len` ns of its frame have passed, that closes gate `q`. -/
def closeIn (l : List (Nat × Nat)) (q len : Nat) : Option Nat :=
  ((l.find? (fun x => !bit x.2 q)).map (·.1)).filter (fun o => decide (o < len))

/-- The first close of gate `q` in the `f` frames from frame `n` on, in ns from now; entry 0 stands from the tick on. -/
def State.closeFrom (s : State) (p q : Nat) : Nat → Int → Option Nat
  | 0, _ => none
  | f + 1, n =>
    let at_ := s.tickAt n
    match s.listIn p n with
    | [] => none
    | (_, g) :: r => match closeIn ((0, g) :: r) q (s.tickAt (n + 1) - at_).toNat with
      | some o => some (at_ + o - s.ns).toNat
      | none => s.closeFrom p q f (n + 1)

/-- Frames a start check looks ahead: the longest packet takes less than two of the shortest frames. -/
def closeFrames : Nat := 3

/-- ns left until gate `q` of port `p`, open now, next closes; none where nothing closes it in the frames a packet could
reach (R163, R164). -/
def State.nextClose (s : State) (p q : Nat) : Option Nat :=
  if !s.gclUsed p then none
  else
    let l := s.gcl p (s.gclActive p)
    let e := s.tm.e
    match closeIn (l.drop (entryAt l e + 1)) q (e + (s.nextTickNs - s.ns).toNat) with
    | some o => some (o - e)
    | none => s.closeFrom p q closeFrames s.nextTick

/-! ### Queues (R156 to R159) -/

def State.queueOf (s : State) (p q : Nat) : List QEnt := s.sch.eq_.filter (fun x => x.port == p && x.q == q)

def entBytes (l : List QEnt) : Nat := (l.map (fun x => pktBytes x.pkt)).sum

def State.showDepth (s : State) (p q : Nat) : State :=
  s.put (Q_DEPTH_BYTES (portC p) (portK p) q) (min (entBytes (s.queueOf p q)) (2 ^ 22 - 1))

/-- Bytes a bulk queue and virtual network may always hold, and may hold at most. -/
def State.qMin (s : State) (p : Nat) : Nat := s.get (QCFG_QMIN (portC p) (portK p)) * 1024
def State.qMax (s : State) (p : Nat) : Nat := s.get (QCFG_QMAX (portC p) (portK p)) * 4096

def State.bulkUse (s : State) (p q vn : Nat) : Nat := entBytes ((s.queueOf p q).filter (fun x => x.pkt.vn == vn))

/-- Room in the cluster's pool beyond every guarantee (R157). -/
def State.poolFree (s : State) (c : Nat) : Int :=
  let ports := (List.range 8).filter (fun k => s.portKind (c * 8 + k) != 0)
  let taken := (ports.flatMap (fun k => (List.range 6).flatMap (fun q => (List.range 3).map (fun vn =>
    max (s.bulkUse (c * 8 + k) q vn) (s.qMin (c * 8 + k)))))).sum
  (768 * 1024 : Int) - 65536 * ports.length - taken

/-- Has a queue room for a packet (R157)? -/
def State.qRoom (s : State) (p : Nat) (pk : Pkt) : Bool :=
  let n := pktBytes pk
  if 6 ≤ pk.tc then decide (entBytes (s.queueOf p pk.tc) + n ≤ 32768)
  else
    let u := s.bulkUse p pk.tc pk.vn
    decide (u + n ≤ s.qMax p) && (decide (u + n ≤ s.qMin p) || decide (((u + n - max u (s.qMin p) : Nat) : Int) ≤ s.poolFree (portC p)))

/-! ### Shapers and fair queuing tags (R166 to R168) -/

def State.conforms (s : State) (p q : Nat) : Bool := !s.shpOn p q || decide (0 ≤ s.tokens p q)

/-- L of R166. -/
def State.charge (s : State) (p q : Nat) (pk : Pkt) : Nat :=
  ((pktBytes pk : Int) + toSigned 8 (s.get (SHP_CFG_OVERHEAD (portC p) (portK p) q))).toNat

/-- The length fair queuing counts: L, or B while the shaper is disabled. -/
def State.fqLen (s : State) (p q : Nat) (pk : Pkt) : Nat := if s.shpOn p q then s.charge p q pk else pktBytes pk

def State.weight (s : State) (p q : Nat) : Nat :=
  max 1 (if q < 4 then bits (s.rd (R_FQ_W0 (portC p) (portK p))) (8 * q) 8 else bits (s.rd (R_FQ_W1 (portC p) (portK p))) (8 * (q - 4)) 8)

/-- Tags of a head packet that starts at tag `a` (R168). -/
def State.fqNew (s : State) (p q a : Nat) (pk : Pkt) : FqTag :=
  ⟨a, (a + s.fqLen p q pk * 256 / s.weight p q) % 2 ^ 32, some pk⟩

def State.fqTagSet (s : State) (key : Nat) (x : FqTag) : State := { s with sch := { s.sch with fqTag := tset s.sch.fqTag key x } }

/-- Enters a packet in the egress class queue of its TC; a full Q6 or Q7 discards it (R156, R157). -/
def State.enqueue (s : State) (p : Nat) (pk : Pkt) : State :=
  if 6 ≤ pk.tc ∧ !s.qRoom p pk then ((s.count (C_Q_DROP (portC p) (portK p))).queueEvent).resLeave pk
  else
    let q := pk.tc
    let key := p * 8 + q
    let s := s.doIf ((s.queueOf p q).isEmpty && decide (q < 6)) (fun s => s.fqTagSet key (s.fqNew p q (tgetD s.sch.fqV p 0) pk))
    let s := { s with sch := { s.sch with eq_ := s.sch.eq_ ++ [({ port := p, q := q, enq := s.ns, pkt := pk } : QEnt)] } }
    s.showDepth p q

/-- A TLP that the PT NI of port `p` has built for its own link enters the queue of its TC, or waits for room there behind those
that wait already (R157). -/
def State.enqueueBack (s : State) (p : Nat) (pk : Pkt) : State :=
  if s.pc.back.any (fun x => x.1 == p && x.2.tc == pk.tc) || !s.qRoom p pk then { s with pc := { s.pc with back := s.pc.back ++ [(p, pk)] } }
  else s.enqueue p pk

/-- What waits for room enters its queue where there is room now. -/
def State.backIn (s : State) : State :=
  ({ s with pc := { s.pc with back := [] } }).forEach s.pc.back (fun x u => u.enqueueBack x.1 x.2)

/-- A link-local packet that the PT NI of port `p` creates enters the node and its queue Q6 (R37, R134, R151, R156). -/
def State.sendNear (s : State) (p : Nat) (k : Pkt) : State := (s.resEnter k).enqueue p k

/-- A Hello goes out on a fabric port that is up. -/
def State.hello (s : State) (p : Nat) : State := s.sendNear p (s.helloPkt p)

/-! ### Selection (R158, R159, R168) -/

/-- The head of a queue: in a bulk queue the oldest packet whose virtual network has link credit and that no
older posted packet of its flow holds back (R158, R234). -/
def State.headOf (s : State) (p q : Nat) (credit : Pkt → Bool) : Option QEnt :=
  let l := s.queueOf p q
  if 6 ≤ q then (l.head?).filter (fun x => credit x.pkt)
  else
    let firsts := [0, 1, 2, 3, 4].filterMap (fun vn => l.findIdx? (fun x => x.pkt.vn == vn && credit x.pkt &&
      (l.find? (fun y => y.pkt.vn == vn)) == some x))
    let ok := firsts.filter (fun i => match l[i]? with
      | none => false
      | some x => !(l.take i).any (fun y => postedFirst x.pkt y.pkt))
    (ok.min?).bind (fun i => l[i]?)

/-- Does the start rule of the weir let a packet start (R164)? -/
def State.startOk (s : State) (p q : Nat) (pk : Pkt) : Bool :=
  match s.nextClose p q with
  | none => true
  | some left => decide (tPipe + linkTime (s.portKind p) (s.wr2 p) (linkBytes (s.portKind p) pk) ≤ (left : Rat))

/-- The head packet of a queue that is eligible (R159). -/
def State.eligible (s : State) (p : Nat) (credit : Pkt → Bool) (q : Nat) : Option QEnt :=
  if !bit (s.gates p) q || !s.conforms p q || s.wr2 p == 0 then none
  else (s.headOf p q credit).filter (fun x => s.startOk p q x.pkt)

/-- Is tag `a` at or after tag `b`, modulo 2^32? -/
def tagGe (a b : Nat) : Bool := decide ((a + 2 ^ 32 - b) % 2 ^ 32 < 2 ^ 31)

/-- Tags of bulk queue `q` at a selection: a queue that has become eligible behind V is brought up to it, and a head that
has none yet takes its finish tag (R168). A queue counts as eligible from one packet boundary to the next (assumption log 81). -/
def State.fqHead (s : State) (p : Nat) (credit : Pkt → Bool) (q : Nat) : State :=
  let key := p * 8 + q
  let v := tgetD s.sch.fqV p 0
  match s.eligible p credit q with
  | none => { s with sch := { s.sch with fqOk := s.sch.fqOk.filter (· != key) } }
  | some x =>
    let a := tgetD s.sch.fqTag key ⟨v, v, none⟩
    let back := !s.sch.fqOk.contains key && !tagGe a.s v
    let a' := if back then s.fqNew p q v x.pkt else if a.head = some x.pkt then a else s.fqNew p q a.s x.pkt
    let s := s.fqTagSet key a'
    { s with sch := { s.sch with fqOk := key :: s.sch.fqOk.filter (· != key) } }

/-- Tags of every bulk queue of a port at a packet boundary. -/
def State.fqHeads (s : State) (p : Nat) (credit : Pkt → Bool) : State := s.forEach (List.range 6) (fun q u => u.fqHead p credit q)

/-- The bulk queue with the smallest finish tag; ties to the lower queue. -/
def pickFq : List (Nat × FqTag × QEnt) → Option (Nat × FqTag × QEnt)
  | [] => none
  | x :: r => match pickFq r with
    | none => some x
    | some y => if tagGe y.2.1.f x.2.1.f then some x else some y

/-- What a port starts next: queue, tags and packet (R159). -/
def State.selectNext (s : State) (p : Nat) (credit : Pkt → Bool) : Option (Nat × FqTag × QEnt) :=
  match s.eligible p credit 7 with
  | some x => some (7, ⟨0, 0, none⟩, x)
  | none => match s.eligible p credit 6 with
  | some x => some (6, ⟨0, 0, none⟩, x)
  | none => pickFq ((List.range 6).filterMap (fun q => (s.eligible p credit q).map (fun x =>
      (q, tgetD s.sch.fqTag (p * 8 + q) ⟨0, 0, none⟩, x))))

/-- Takes the selected packet out of its queue, charges its shaper, moves the tags and records the wait (R166, R168). -/
def State.startPkt (s : State) (p : Nat) (credit : Pkt → Bool) (sel : Nat × FqTag × QEnt) : State :=
  let (q, a, x) := sel
  let key := p * 8 + q
  let wr := s.wr2 p
  let kd := s.portKind p
  let dur := ratCeil ((tPipe + linkTime kd wr (linkBytes kd x.pkt)) * 65536)
  let close := (s.nextClose p q).map (· + s.ns)
  let wait := s.ns - x.enq
  let s := s.setTokens p q (s.tokens p q - s.charge p q x.pkt)
  let s := { s with sch := { s.sch with
      eq_ := dropFirst (fun y => y == x) s.sch.eq_
      run := ({ port := p, q := q, done := s.stamp16 + dur, close := close } : RunPkt) :: s.sch.run.filter (fun r => r.port != p)
      tmax := tset s.sch.tmax key (max wait (tgetD s.sch.tmax key 0)) } }
  let s := s.showDepth p q
  if 6 ≤ q then s
  else
    let s := { s with sch := { s.sch with fqV := tset s.sch.fqV p a.s } }
    if (s.queueOf p q).isEmpty then
      { s with sch := { s.sch with fqTag := tdel s.sch.fqTag key, fqOk := s.sch.fqOk.filter (· != key) } }
    else s.fqTagSet key (match s.headOf p q credit with | some y => s.fqNew p q a.f y.pkt | none => ⟨a.f, a.f, none⟩)

/-- The packet a port was transmitting has ended: one that ended after its close counts (R176). -/
def State.endPkt (s : State) (p : Nat) : State :=
  match s.sch.run.find? (fun r => r.port == p) with
  | none => s
  | some r =>
    let late := (match r.close with | some c => decide (c * 65536 < r.done) | none => false)
    let s := { s with sch := { s.sch with run := s.sch.run.filter (fun r => r.port != p) } }
    s.doIf late (·.count (C_GCL_CUT (portC p) (portK p)))

/-- Does an admitted record hold a width or rate at port `p` that the link has fallen below (R176, R430)? -/
def State.belowAdm (s : State) (p : Nat) : Bool :=
  s.sch.adm.any (fun a => (a.outW != 0 && a.r.outPort == p && decide (s.linkW p < a.outW ∨ s.linkR p < a.outR))
    || (a.r.role == 0 && a.r.inp == p && decide (s.linkW p < a.inW ∨ s.linkR p < a.inR)))

/-- The active width or rate of port `p` has changed: a running packet's end moves, and a fall below the width or rate at
admission sets DEGRADED (R176, R430). `old` is twice width × rate before. -/
def State.rateChanged (s : State) (p old : Nat) : State :=
  let wr := s.wr2 p
  let c := portC p
  let k := portK p
  let now := s.stamp16
  let run' := s.sch.run.map (fun r =>
    if r.port = p ∧ wr ≠ 0 ∧ old ≠ 0 ∧ now < r.done then { r with done := now + ceilDiv ((r.done - now) * old) wr } else r)
  let s := { s with sch := { s.sch with run := run' } }
  let bad := s.belowAdm p
  let was := s.on (GCL_STAT_DEGRADED c k)
  let s := s.put (GCL_STAT_DEGRADED c k) (b2n bad)
  s.doIf (bad && !was) (·.streamEvent)

/-! ### Stream windows (R169, R170) -/

/-- The stream window of cluster `c` that a posted access from slot `k` matches. -/
def State.streamMatch (s : State) (c k a : Nat) : Option Nat :=
  if !s.ticking then none
  else (List.range 64).find? (fun w =>
    let b := strBase (ptTile c) w
    let sz := s.get (STR_CTL_SIZE b)
    s.on (STR_CTL_EN b) && bit (s.get (STR_CTL_PORT_MASK b)) k && decide (12 ≤ sz ∧ sz ≤ 48) &&
      decide (s.rd64 b ≤ a ∧ a < s.rd64 b + 2 ^ sz))

/-- Takes the next SEQ of a window. -/
def State.nextSeq (s : State) (b : Nat) : Nat × State := (s.get (STR_SEQ_NEXT b), s.put (STR_SEQ_NEXT b) (s.get (STR_SEQ_NEXT b) + 1))

/-- The first of an engine's 1,024 sequence counters that belongs to binding `w`: the bindings share them in order (R171). -/
def State.bindSeq (s : State) (e w : Nat) : Nat :=
  e * 1024 + ((List.range w).map (fun i => s.get (STR_STREAM_COUNT (strBase (ktTile e) i)))).sum

/-- A write of STREAM starts the sequences of a binding anew (Table 6-11). -/
def State.bindRestart (s : State) (e w : Nat) : State :=
  let a := s.bindSeq e w
  let b := a + s.get (STR_STREAM_COUNT (strBase (ktTile e) w))
  { s with sch := { s.sch with ktSeq := s.sch.ktSeq.filter (fun x => decide (x.1 < a) || decide (b ≤ x.1)) } }

inductive StreamAct where
  | discard | hold | forward
  deriving DecidableEq, Repr

/-- Table 6-4 on a packet of `len` dwords, with `n` packets accepted this frame. -/
def State.streamCheck (s : State) (b len n : Nat) : StreamAct :=
  if s.get (STR_CTL_MAXLEN b) < len then .discard
  else if max 1 (s.get (STR_CTL_BUDGET b)) ≤ n then .discard
  else if s.get (STR_CLOSE_NS b) ≤ s.tm.e then .discard
  else if s.tm.e < s.get (STR_OPEN_NS b) then .hold
  else .forward

def State.streamOver (s : State) (b : Nat) (ev : Bool) : State := (s.count (C_STR_OVER b)).doIf ev (·.streamEvent)

/-- Bytes in the stream hold buffer of cluster `c`. -/
def State.holdBytes (s : State) (c : Nat) : Nat :=
  ((s.sch.shold.filter (fun h => h.tile == ptTile c)).map (fun h => pktBytes h.pkt)).sum

/-- A matched stream packet at the NI of cluster `c`, with the guard it was checked under (R170). -/
def State.streamPkt (s : State) (c b : Nat) (p : Pkt) (g : Option (Nat × Nat)) : State :=
  let n := tgetD s.sch.accN b 0
  let acc (s : State) : State := { s with sch := { s.sch with accN := tset s.sch.accN b (n + 1) } }
  match s.streamCheck b p.len n with
  | .discard => (s.streamOver b true).guardRetire g
  | .forward => (acc s).injectWrite (ptTile c) p g
  | .hold =>
    if 16384 < s.holdBytes c + pktBytes p then (s.streamOver b false).guardRetire g
    else
      let s := acc s
      { s with sch := { s.sch with shold := s.sch.shold ++ [⟨b, ptTile c, p, g⟩] } }

/-- e has reached OPEN of a window: its held packets are forwarded. -/
def State.streamRelease (s : State) (b : Nat) : State :=
  let go := s.sch.shold.filter (fun h => h.win == b)
  let s := { s with sch := { s.sch with shold := s.sch.shold.filter (fun h => h.win != b) } }
  s.forEach go (fun h u => u.injectWriteAs h.tile true h.pkt h.guard)

end Sys2Proof.Machine
end

