-- ==== Sys2Proof/Machine/Streams.lean ====
section
/-! DEFINITION. Stream admission and the stream, gate list, shaper and telemetry commands and instants
(06_gates_and_shapers.md, R430 to R433). -/

namespace Sys2Proof.Machine

/-! ### XY routes (R103, R106) -/

/-- The router outputs (tile, direction) of the XY route between two tiles, the local output last. -/
def xyFrom : Nat → Nat → Nat → List (Nat × Nat)
  | 0, t, _ => [(t, 4)]
  | fuel + 1, t, d =>
    if t % 8 < d % 8 then (t, 1) :: xyFrom fuel (t + 1) d
    else if d % 8 < t % 8 then (t, 3) :: xyFrom fuel (t - 1) d
    else if t < d then (t, 2) :: xyFrom fuel (t + 8) d
    else if d < t then (t, 0) :: xyFrom fuel (t - 8) d
    else [(t, 4)]

def xyOutputs (t d : Nat) : List (Nat × Nat) := xyFrom 16 t d

/-! ### Figures of a record (R174) -/

/-- Does a record leave the node on OUT_PORT (Table 6-5)? -/
def State.recPort (s : State) (r : StreamRec) : Bool :=
  r.role == 2 || (decide (r.role < 2) && !(eidNode r.dest == s.node && eidSub r.dest == 31))

/-- The tile of the NI at which a record's stream leaves the mesh: that of OUT_PORT, or OUT_TILE. -/
def State.recDst (s : State) (r : StreamRec) : Nat := if s.recPort r then ptTile (r.outPort / 8) else r.outTile

def recSrc (r : StreamRec) : Nat := if r.role = 1 then ktTile r.inp else ptTile (r.inp / 8)

/-- Is the stream's packet a PCIE_TLP: it enters the node from a PCI Express port, whose NI encapsulates it (R93)? A
record names no kind, so a stream that enters from the fabric counts as WRITE_P (assumption log 78). -/
def State.recTlp (s : State) (r : StreamRec) : Bool :=
  r.role != 1 && (s.portKind r.inp == kindHost || s.portKind r.inp == kindDown)

def State.recBytes (s : State) (r : StreamRec) : Nat := (if s.recTlp r then 96 else 32) + 4 * r.maxlen
def State.recFlits (s : State) (r : StreamRec) : Nat := ceilDiv (s.recBytes r) 128

/-- Link time of one packet of a stream on port `p`. -/
def State.recLink (s : State) (r : StreamRec) (p : Nat) : Rat :=
  let kd := s.portKind p
  linkTime kd (s.admWr p) (if kd = kindRunnel then s.recBytes r else 16 + 4 * r.maxlen)

/-- Die worst-case latency by level (Table 4-8). -/
def dieWorst (pl : Nat) : Nat := [110, 124, 154, 254].getD pl 254

/-- Growth of the link-layer share of a port of kind `kd` at a width and twice a rate (R174); none without a port. -/
def growth (kd w r : Nat) : Rat := if w = 0 ∨ 4096 ≤ w * r then 0 else 2 * (tFlit kd (w * r) - (if kd = kindRunnel then 5 / 4 else 1))

/-- A record with the widths and rates of its ports now, as it would be admitted. -/
def State.cand (s : State) (r : StreamRec) : Adm :=
  let i := r.role != 1
  let o := s.recPort r
  ⟨r, 0, 99, if i then s.admW r.inp else 0, if i then s.admR r.inp else 0, if o then s.admW r.outPort else 0, if o then s.admR r.outPort else 0⟩

/-- D of a record at its level PL, with each growth at the width and rate of its admission. -/
def State.recD (s : State) (a : Adm) : Rat :=
  (dieWorst a.r.pl : Rat) + growth (s.portKind a.r.inp) a.inW a.inR + growth (s.portKind a.r.outPort) a.outW a.outR

/-- End of the extended window. -/
def State.recEnd (s : State) (a : Adm) : Rat := (a.r.close : Rat) + s.recD a

/-- Do the extended windows of two records overlap? -/
def State.recMeet (s : State) (a b : Adm) : Bool :=
  decide ((a.r.open_ : Rat) ≤ s.recEnd b) && decide ((b.r.open_ : Rat) ≤ s.recEnd a)

/-! ### Lists as segments -/

/-- Segments (start, end, gates) of the entries of a list, the last of them up to the tick. -/
def entrySegs (per : Nat) : List (Nat × Nat) → List (Nat × Nat × Nat)
  | [] => []
  | [(o, g)] => [(o, per, g)]
  | (o, g) :: (o', g') :: r => (o, o', g) :: entrySegs per ((o', g') :: r)

/-- Segments of a list over a period: entry 0 from the tick, and no entry past the next tick (R161). -/
def segs (per : Nat) (l : List (Nat × Nat)) : List (Nat × Nat × Nat) :=
  match l with
  | [] => []
  | (_, g) :: r => ((entrySegs per ((0, g) :: r)).filter (fun x => decide (x.1 < per))).map (fun x => (x.1, min x.2.1 per, x.2.2))

/-- Joins runs of segments in which gate `q` has one value: (start, end, open). -/
def joinGate (q : Nat) : List (Nat × Nat × Nat) → List (Nat × Nat × Bool)
  | [] => []
  | (a, b, g) :: r => match joinGate q r with
    | [] => [(a, b, bit g q)]
    | (c, d, o) :: t => if o = bit g q then (a, d, o) :: t else (a, b, bit g q) :: (c, d, o) :: t

/-- What stands for a stretch that never ends. -/
def forEver : Nat := 2 ^ 32

/-- Lengths of the stretches in which gate `q` has value `v`, counting across the tick: a gate that has it for the whole
frame keeps it for ever. -/
def stretches (per q : Nat) (v : Bool) (l : List (Nat × Nat)) : List Nat :=
  let j := joinGate q (segs per l)
  let own := j.filter (fun x => x.2.2 == v)
  match j.head?, j.getLast? with
  | some a, some z =>
    if j.length = 1 then (if a.2.2 = v then [forEver] else [])
    else if a.2.2 = v ∧ z.2.2 = v then
      (z.2.1 - z.1 + (a.2.1 - a.1)) :: ((own.drop 1).dropLast.map (fun x => x.2.1 - x.1))
    else own.map (fun x => x.2.1 - x.1)
  | _, _ => []

/-! ### Admission checks (Table 6-6) -/

/-- The lists checks 4 to 6 read at a port: the active bank, and the shadow bank while a swap is pending. -/
def State.portLists (s : State) (p : Nat) : List (List (Nat × Nat)) :=
  let a := s.gclActive p
  s.gcl p a :: (if s.on (GCL_STAT_PENDING (portC p) (portK p)) then [s.gcl p (1 - a)] else [])

/-- Check 4 on one list. -/
def State.gateOk (s : State) (per : Nat) (a : Adm) (l : List (Nat × Nat)) : Bool :=
  (segs per l).all (fun x => !(decide ((x.1 : Rat) ≤ s.recEnd a) && decide (a.r.open_ < x.2.1)) || x.2.2 == 0x80)

/-- Check 5 on one list: `all` holds every stream at the port, this one among them. The close that ends an interval
costs W of its link time (R165). -/
def State.capOk (s : State) (per p : Nat) (all : List Adm) (l : List (Nat × Nat)) : Bool :=
  ((joinGate 7 (segs per l)).filter (·.2.2)).all (fun x =>
    let inside := all.filter (fun a => decide (x.1 ≤ a.r.open_) && decide (s.recEnd a ≤ (x.2.1 : Rat)))
    let stays := decide (per ≤ x.2.1) && bit ((l.head?.map (·.2)).getD 0) 7
    let w := if stays then 0 else s.weirOf p
    inside.isEmpty || decide ((inside.map (fun a => (a.r.budget : Rat) * s.recLink a.r p)).sum + (w : Rat) ≤ ((x.2.1 - x.1 : Nat) : Rat)))

/-- Check 6. -/
def State.latOk (s : State) (others : List Adm) (a : Adm) : Bool :=
  let r := a.r
  let wait : Rat := if s.recPort r then
      ((others.filter (fun o => o.r.stream != r.stream && s.recPort o.r && o.r.outPort == r.outPort && s.recMeet o a)).map
        (fun o => (o.r.budget : Rat) * s.recLink o.r r.outPort)).sum + ((r.budget - 1 : Nat) : Rat) * s.recLink r r.outPort
    else 0
  decide (s.recD a + wait ≤ (r.lat : Rat))

/-- The first of checks 4 to 6 that a record fails with the lists `ls` at its OUT_PORT; 0 if none. -/
def State.gateFail (s : State) (per : Nat) (others : List Adm) (a : Adm) (ls : List (List (Nat × Nat))) : Nat :=
  let r := a.r
  let atPort := a :: others.filter (fun o => s.recPort o.r && o.r.outPort == r.outPort)
  if s.recPort r && !(s.on (GCL_CTL_EN (portC r.outPort) (portK r.outPort)) && !s.nonFlit r.outPort && ls.all (s.gateOk per a)) then 4
  else if s.recPort r && !ls.all (s.capOk per r.outPort atPort) then 5
  else if !s.latOk others a then 6
  else 0

/-- The first of checks 2 to 6 that a record fails (other streams are those of another stream number), with the lists `ls`
at its OUT_PORT; 0 if none. -/
def State.winFail (s : State) (per : Nat) (others : List Adm) (a : Adm) (ls : List (List (Nat × Nat))) : Nat :=
  let r := a.r
  let meet := others.filter (fun o => o.r.stream != r.stream && s.recMeet o a &&
    (xyOutputs (recSrc o.r) (s.recDst o.r)).any (fun x => (xyOutputs (recSrc r) (s.recDst r)).contains x))
  if !(decide (r.open_ < r.close) && decide (s.recEnd a ≤ (per : Rat))) then 2
  else if 16 < (meet.map (fun o => o.r.budget * s.recFlits o.r)).sum then 3
  else s.gateFail per others a ls

/-- The period that check 2 takes. -/
def State.admPer (s : State) : Nat := if s.on TM_FRAME_CTL_SWITCH_ARMED then s.nextPer else s.framePer

def State.admRecs (s : State) : List StreamRec := s.sch.adm.map (·.r)

/-! ### The limits on the performance level, and what is admitted (R368, R370) -/

def State.sagLimit (s : State) : Nat := if s.get PW_STAT_SAG = 0 then 0 else 2
def State.thermLimit (s : State) : Nat := if s.pw.crit then 3 else s.pw.thLim

/-- The level asked for and allowed: the slowest of the three (R368). -/
def State.wantPl (s : State) : Nat := max (s.get PW_CTL_PL_REQ) (max s.sagLimit s.thermLimit)

/-- Levels of the enabled frame programs. -/
def State.progPls (s : State) : List Nat := (s.kt.fpPl.filter (fun e => s.on (FP_CTL_EN (e.1 / 8) (e.1 % 8)))).map (·.2)

/-- Does a limit hold the node below the level of an admitted stream or of an enabled program (R370)? -/
def State.belowAdmit (s : State) : Bool :=
  let pl := min (s.get PW_STAT_PL_CUR) (max s.sagLimit s.thermLimit)
  s.admRecs.any (fun r => decide (r.pl < pl)) || s.progPls.any (fun x => decide (x < pl))

/-- PW_STAT shows the limits; a rise of BELOW_ADMIT raises the stream event. -/
def State.showLimits (s : State) : State :=
  let s := (s.put PW_STAT_PL_LIMIT (max s.sagLimit s.thermLimit)).put PW_STAT_THERM_LIMIT (b2n (s.thermLimit ≠ 0))
  let b := s.belowAdmit
  let rise := b && !s.on PW_STAT_BELOW_ADMIT
  (s.put PW_STAT_BELOW_ADMIT (b2n b)).doIf rise (·.streamEvent)

/-! ### STREAM_ADD (R174) -/

/-- The register block that a record programs: a free stream window, a free binding, or its elimination entry;
0 for a transit record. Nothing where no resource is free (check 7). -/
def State.recBlk (s : State) (r : StreamRec) : Option Nat :=
  if r.role = 0 then ((List.range 64).find? (fun w => !s.on (STR_CTL_EN (strBase (ptTile (r.inp / 8)) w)))).map (strBase (ptTile (r.inp / 8)))
  else if r.role = 1 then
    let used := ((List.range 16).map (fun w => strBase (ktTile r.inp) w)).filter (fun b => s.on (STR_CTL_EN b))
    if 1024 ≤ (used.map (fun b => s.get (STR_STREAM_COUNT b))).sum then none
    else ((List.range 16).find? (fun w => !s.on (STR_CTL_EN (strBase (ktTile r.inp) w)))).map (strBase (ktTile r.inp))
  else if r.role = 2 then some 0
  else
    match s.elimEntry r.outTile r.stream with
    | some n => some (R_NI_ELIM_CFG (elimBase r.outTile) n)
    | none => if elimBase r.outTile = 0 ∨ s.on (NI_ELIM_CFG_EN (elimBase r.outTile) r.elim) then none
              else some (R_NI_ELIM_CFG (elimBase r.outTile) r.elim)

/-- Fields within their encodings (R391). -/
def recArg (r : StreamRec) : Bool :=
  decide (r.stream < 32768 ∧ r.role < 4 ∧ 1 ≤ r.path ∧ r.path ≤ 3 ∧ r.pl < 4 ∧ r.inp < (if r.role = 1 then 12 else 128) ∧ r.outPort < 128
    ∧ r.outTile < 64 ∧ r.open_ < 4194304 ∧ r.close < 4194304 ∧ 1 ≤ r.budget ∧ r.budget ≤ 255 ∧ r.maxlen ≤ 255 ∧ r.lat < 65536
    ∧ r.dest < 2 ^ 24 ∧ r.elim < 1024)
  && (r.role != 0 || decide (12 ≤ r.size ∧ r.size ≤ 48))

/-- The first failing check of Table 6-6; 0 if none. -/
def State.admFail (s : State) (r : StreamRec) : Nat :=
  let w := s.winFail s.admPer s.sch.adm (s.cand r) (if s.recPort r then s.portLists r.outPort else [])
  if 512 < s.recBytes r then 1
  else if w ≠ 0 then w
  else if s.recBlk r = none then 7
  else if s.admRecs.any (fun o => o.stream == r.stream && o.role == r.role && o.path == r.path) then 8
  else if r.pl < s.get PW_STAT_PL_CUR then 9
  else 0

/-- Programs the window, binding or elimination entry of an accepted record. -/
def State.recProgram (s : State) (r : StreamRec) (b : Nat) : State :=
  let win (s : State) : State := ((((s.wr (R_STR_OPEN b) r.open_).wr (R_STR_CLOSE b) r.close).wr (R_STR_SEQ b) 0).put (STR_CTL_BUDGET b) r.budget).put (STR_CTL_MAXLEN b) r.maxlen
  if r.role = 0 then
    let s := (win s).wr (R_STR_STREAM b) r.stream
    let s := (((s.wr (R_STR_BASE_LO b) (r.base % 2 ^ 32 / 4096 * 4096)).wr (R_STR_BASE_HI b) (r.base / 2 ^ 32)).wr (R_STR_XLAT_LO b) (r.xlat % 2 ^ 32 / 4096 * 4096)).wr (R_STR_XLAT_HI b) (r.xlat / 2 ^ 32)
    (((s.wr (R_STR_DEST b) r.dest).put (STR_CTL_SIZE b) r.size).put (STR_CTL_PORT_MASK b) (2 ^ (r.inp % 8))).put (STR_CTL_EN b) 1
  else if r.role = 1 then
    (((win s).wr (R_STR_STREAM b) (r.stream + 2 ^ 16)).put (STR_CTL_EN b) 1).bindRestart r.inp ((b - strBase (ktTile r.inp) 0) / 0x40)
  else if r.role = 2 then s
  else match s.elimEntry r.outTile r.stream with
    | some _ => s
    | none =>
      let eb := elimBase r.outTile
      ((s.put (NI_ELIM_CFG_STREAM eb r.elim) r.stream).put (NI_ELIM_CFG_EN eb r.elim) 1).elimReset r.outTile r.elim

/-- The domain whose WH vote a record holds (R433): that of the NI it programs. -/
def recDom (r : StreamRec) : Nat :=
  if r.role = 2 then 99 else tileDomain (if r.role = 3 then r.outTile else recSrc r)

def State.streamAdd (s : State) (mb : Nat) (r : StreamRec) : State :=
  if !recArg r then s.refuse mb 0 0
  else
    let f := s.admFail r
    if f ≠ 0 then s.refuse mb f 0
    else
      let b := (s.recBlk r).getD 0
      let d := recDom r
      let a : Adm := { s.cand r with blk := b, dom := d }
      let s := s.recProgram r b
      let s := { s with sch := { s.sch with adm := s.sch.adm ++ [a] } }
      let s := s.doIf (d != 99) (fun s => s.castVote d (PW_DOM_VOTE_WH d) 4)
      s.showLimits.ok mb []

/-- The reservation record in the body of an open command (Table 6-5). -/
def State.cmdRecord (s : State) (mb : Nat) : StreamRec :=
  let d (i : Nat) := s.rd (R_MB_CMD mb (4 + i))
  { stream := bits (d 0) 0 15, role := bits (d 0) 16 2, path := bits (d 0) 18 2, pl := bits (d 0) 20 2,
    inp := bits (d 1) 0 7, outPort := bits (d 1) 8 7, outTile := bits (d 1) 16 6, open_ := bits (d 2) 0 22, close := bits (d 3) 0 22,
    budget := bits (d 4) 0 8, maxlen := bits (d 4) 8 8, lat := bits (d 4) 16 16, dest := bits (d 5) 0 24,
    base := d 6 + d 7 * 2 ^ 32, size := bits (d 8) 0 6, xlat := d 9 + d 10 * 2 ^ 32, elim := bits (d 11) 0 10 }

/-- STREAM_ADD: `r` is the record that stands in the command's body (R173, R174); a row with another one is no command that has
come (assumption log 8). -/
def execStreamAdd (mb : Nat) (r : StreamRec) (s : State) : Out :=
  act s (s.runCmd mb 0x0401 (fun _ s => if s.cmdRecord mb = r then s.streamAdd mb r else s.smIgnored))

def State.admFind (s : State) (stream role path : Nat) : Option Adm :=
  s.sch.adm.find? (fun a => a.r.stream == stream && a.r.role == role && a.r.path == path)

/-- STREAM_DEL (Table 6-7, R433): disables what the record programmed and drops its vote where no other admitted
stream needs it. -/
def State.streamDel (s : State) (mb stream role path : Nat) : State :=
  match s.admFind stream role path with
  | none => s.refuse mb 0 0
  | some a =>
    let left := dropFirst (fun x => x == a) s.sch.adm
    let s := { s with sch := { s.sch with adm := left } }
    let shared := left.any (fun x => x.blk == a.blk)
    let s := if a.r.role < 2 then s.put (STR_CTL_EN a.blk) 0
      else if a.r.role = 3 ∧ !shared then s.wr a.blk (s.rd a.blk - s.rd a.blk / 2 ^ 15 % 2 * 2 ^ 15) |>.wr (a.blk + 4) 1
      else s
    let s := s.doIf (a.dom != 99 && !left.any (fun x => x.dom == a.dom)) (fun s => s.dropVote a.dom (PW_DOM_VOTE_WH a.dom))
    s.showLimits.ok mb []

def execStreamDel (mb stream role path : Nat) (s : State) : Out :=
  act s (s.runCmd mb 0x0402 (fun _ s => s.streamDel mb stream role path))

/-- The record as its twelve dwords (Table 6-5). -/
def recWords (r : StreamRec) : List Nat :=
  [r.stream + r.role * 2 ^ 16 + r.path * 2 ^ 18 + r.pl * 2 ^ 20, r.inp + r.outPort * 2 ^ 8 + r.outTile * 2 ^ 16, r.open_, r.close,
    r.budget + r.maxlen * 2 ^ 8 + r.lat * 2 ^ 16, r.dest, r.base % 2 ^ 32, r.base / 2 ^ 32, r.size, r.xlat % 2 ^ 32, r.xlat / 2 ^ 32, r.elim]

def State.streamQuery (s : State) (mb stream role path : Nat) : State :=
  match s.admFind stream role path with
  | none => s.refuse mb 0 0
  | some a =>
    let ov := if a.r.role < 2 then s.cnt (C_STR_OVER a.blk) else 0
    s.okQuery mb (recWords a.r ++ [ov % 2 ^ 32, ov / 2 ^ 32])

def execStreamQuery (mb stream role path : Nat) (s : State) : Out :=
  act s (s.runCmd mb 0x0403 (fun _ s => s.streamQuery mb stream role path))

/-! ### Gate list commands (R175) -/

/-- Why R175 refuses a list for port `p`: a reason, or 0. -/
def State.listFail (s : State) (p per : Nat) (l : List (Nat × Nat)) : Nat :=
  let w := (s.sch.adm.filter (fun a => s.recPort a.r && a.r.outPort == p)).map (fun a =>
    s.gateFail per (s.sch.adm.filter (fun o => o != a)) a [l])
  match w.find? (· ≠ 0) with
  | some f => f
  | none =>
    if (stretches per 6 false l).any (fun n => decide (20000 < n)) then 20
    else if (List.range 8).any (fun q =>
        let o := stretches per q true l
        !o.isEmpty && o.all (fun n => decide (n < s.weirOf p))) then 21
    else 0

/-- Writes a list into a bank of a port; the entries after its last keep their values. -/
def State.writeList (s : State) (p b : Nat) (ents : List (Nat × Nat × Bool)) : State :=
  s.forEach ents.zipIdx (fun e u =>
    (u.wr (R_GCL_ENT0 (portC p) (gclIdx (portK p) b e.2)) (e.1.1 % 2 ^ 22)).wr (R_GCL_ENT1 (portC p) (gclIdx (portK p) b e.2))
      (e.1.2.1 % 256 + b2n e.1.2.2 * 256))

def State.gclLoad (s : State) (mb p : Nat) (ents : List (Nat × Nat × Bool)) : State :=
  if 128 ≤ p ∨ s.portKind p = 0 ∨ s.nonFlit p ∨ 64 < ents.length ∨ ents.isEmpty then s.refuse mb 0 0
  else if s.on (GCL_STAT_PENDING (portC p) (portK p)) then s.busy mb p
  else
    let b := 1 - s.gclActive p
    let s' := s.writeList p b ents
    let f := s.listFail p s.framePer (s'.gcl p b)
    if f ≠ 0 then s.refuse mb f 0 else s'.ok mb []

def execGclLoad (mb p : Nat) (ents : List (Nat × Nat × Bool)) (s : State) : Out :=
  act s (s.runCmd mb 0x0404 (fun _ s => s.gclLoad mb p ents))

/-- Has tick `n` fired? -/
def State.fired (s : State) (n : Nat) : Bool := match s.tm.last with | none => false | some l => decide (n ≤ l)

/-- Arms a swap of port `p` at frame `n`, or refuses it with SWAP_BAD (R162). -/
def State.armGcl (s : State) (p n : Nat) : State :=
  let c := portC p
  let k := portK p
  if s.fired n ∨ s.on (GCL_STAT_PENDING c k) then s.put (GCL_STAT_SWAP_BAD c k) 1
  else { s.put (GCL_STAT_PENDING c k) 1 with sch := { s.sch with gclS := tset s.sch.gclS p n } }

def State.gclSwap (s : State) (mb : Nat) (ports : List Nat) (frame : Nat) : State :=
  match ports.findIdx? (fun p => decide (128 ≤ p) || s.portKind p == 0 || s.nonFlit p) with
  | some i => s.refuse mb 0 i
  | none => match ports.find? (fun p => s.fired frame || s.on (GCL_STAT_PENDING (portC p) (portK p))) with
  | some p => s.refuse mb 22 p
  | none =>
    let bad := (ports.map (fun p => (p, s.listFail p s.framePer (s.gcl p (1 - s.gclActive p))))).find? (fun x => x.2 ≠ 0)
    match bad with
    | some x => s.refuse mb x.2 x.1
    | none => (s.forEach ports (fun p u =>
        ((u.wr (R_GCL_SWAP_LO (portC p) (portK p)) frame).wr (R_GCL_SWAP_HI (portC p) (portK p)) (frame / 2 ^ 32)).armGcl p frame)).ok mb []

def execGclSwap (mb : Nat) (ports : List Nat) (frame : Nat) (s : State) : Out :=
  act s (s.runCmd mb 0x0405 (fun _ s => s.gclSwap mb ports frame))

/-! ### Shapers, weights and telemetry set by command -/

/-- Does port `p` carry an admitted stream as OUT_PORT? -/
def State.carries (s : State) (p : Nat) : Bool := s.admRecs.any (fun r => s.recPort r && r.outPort == p)

def State.shaperSet (s : State) (mb p q cfg quant burst : Nat) : State :=
  if 128 ≤ p ∨ 8 ≤ q ∨ 2 ^ 20 ≤ quant ∨ 2 ^ 24 ≤ burst then s.refuse mb 0 0
  else if q = 7 ∧ bit cfg 0 ∧ s.carries p then s.refuse mb 5 0
  else
    let c := portC p
    let k := portK p
    (((s.stageShp (R_SHP_CFG c k q) (insBits (cfg % 2 ^ 32) 1 7 0)).stageShp (R_SHP_QUANT c k q) quant).stageShp (R_SHP_BURST c k q) burst).ok mb []

def execShaperSet (mb p q cfg quant burst : Nat) (s : State) : Out :=
  act s (s.runCmd mb 0x0406 (fun _ s => s.shaperSet mb p q cfg quant burst))

def execFqSet (mb p w0 w1 : Nat) (s : State) : Out :=
  act s (s.runCmd mb 0x0407 (fun _ s =>
    if 128 ≤ p then s.refuse mb 0 0
    else ((s.put (FQ_W0_W (portC p) (portK p)) w0).put (FQ_W1_W (portC p) (portK p)) w1).ok mb []))

def State.telSet (s : State) (mb p cfg offset : Nat) (rings : List (Nat × Nat × Nat)) : State :=
  if 128 ≤ p ∨ bits cfg 2 5 < 8 ∨ 20 < bits cfg 2 5 then s.refuse mb 0 0
  else match rings.findIdx? (fun r => decide (16 ≤ r.1 ∨ bits r.2.2 2 5 < 12 ∨ 24 < bits r.2.2 2 5)) with
  | some i => s.refuse mb 0 i
  | none =>
    let s := (s.wr (R_TEL_CFG (portC p) (portK p)) (cfg % 4096 - bits cfg 7 1 * 128)).put (TEL_OFFSET_NS (portC p) (portK p)) offset
    (s.forEach rings (fun r u => ((u.wr (R_TL_BASE_LO r.1) (r.2.1 % 2 ^ 32 / 4096 * 4096)).wr (R_TL_BASE_HI r.1) (r.2.1 / 2 ^ 32)).wr (R_TL_CTL r.1) (r.2.2 % 128))).ok mb []

def execTelSet (mb p cfg offset : Nat) (rings : List (Nat × Nat × Nat)) (s : State) : Out :=
  act s (s.runCmd mb 0x0408 (fun _ s => s.telSet mb p cfg offset rings))

/-! ### Instants -/

/-- e reaches OPEN of window `w` of cluster `c` (R170). -/
def execStreamHoldRelease (c w : Nat) (s : State) : Out :=
  act s (
    let b := strBase (ptTile c) w
    if (s.sch.shold.filter (fun h => h.win == b)).isEmpty ∨ !s.reaches (s.get (STR_OPEN_NS b)) then s.smIgnored
    else (s.reachE (s.get (STR_OPEN_NS b))).streamRelease b)

/-- The next entry of a port's list comes into force (R161). -/
def State.entryChange (s : State) (p : Nat) : State :=
  if !s.gclUsed p then s.smIgnored
  else
    let b := s.gclActive p
    let l := s.gcl p b
    match l[entryAt l s.tm.e + 1]? with
    | some x => if s.reaches x.1 then s.reachE x.1 else s.smIgnored
    | none => s.smIgnored

def execGclEntryChange (p : Nat) (s : State) : Out := act s (if 128 ≤ p then s.smIgnored else s.entryChange p)

/-- The queue sample record of port `p` (Table 6-8). -/
def State.sample (s : State) (p : Nat) : List Nat :=
  let q (i : Nat) : Nat := min (entBytes (s.queueOf p i) / 64) 0xFFFF + min (tgetD s.sch.tmax (p * 8 + i) 0 / 16) 0xFFFF * 2 ^ 16
  let conf := (List.range 8).foldl (fun a i => a + b2n (s.conforms p i) * 2 ^ i) 0
  [s.nowNs + 2 ^ 30, s.nowSec % 2 ^ 32, p + s.gates p * 2 ^ 8 + tgetD s.sch.tseq p 0 * 2 ^ 16, s.tm.e % 2 ^ 22]
    ++ (List.range 8).map q ++ [conf, 0, 0, 0]

/-- A telemetry MSG: the manual gives its message no code (assumption log 9). -/
def telCode : Nat := 1

/-- The record of a sampling instant leaves for its trace ring; a sample of the port that still waits at its NI is dropped
(R180). -/
def State.telSend (s : State) (p : Nat) : State :=
  let c := portC p
  let k := portK p
  let t := ptTile c
  let dest := tileEid s.node tlTile
  let old (h : Held) : Bool := h.tile == t && h.pkt.kind == kMSG && h.pkt.dest == dest && (h.pkt.data.getD 2 0).toNat % 128 == p
  let gone := s.mesh.held.filter old
  let s := { s with mesh := { s.mesh with held := s.mesh.held.filter (fun h => !old h) } }
  let s := (s.forEach gone (fun h u => u.resLeave h.pkt)).bump (C_TEL_DROP c k) gone.length
  let d := (s.sample p).map (BitVec.ofNat 32)
  let tc := s.get TL_CFG_TC
  let m : Pkt := { pkt0 kMSG tc (vnOf 0 tc) 16 dest (tileEid s.node t) d with addr := telCode + s.get (TEL_CFG_RING c k) * 65536 }
  let s := { s with sch := { s.sch with
    tseq := tset s.sch.tseq p ((tgetD s.sch.tseq p 0 + 1) % 65536)
    tmax := s.sch.tmax.filter (fun e => e.1 / 8 != p) } }
  -- Without the supply of PD_TL telemetry stops (Table 15-2).
  if s.pw.lost.contains 61 then s.count (C_TEL_DROP c k) else s.inject t m none

end Sys2Proof.Machine
end

