-- ==== Sys2Proof/Machine/Cistern.lean ====
section
/-! DEFINITION. The cistern banks: reads and writes with their errors, spares, retirement, seals, mirrors, poison and
reservations, and the accesses that reach a bank through the cistern decode (R183 to R194, R247 to R250). -/

namespace Sys2Proof.Machine

/-! ### Reservations (R247 to R250) -/

/-- log2 of the reservation granule, from 64 B to 4 KiB. -/
def State.granLog (s : State) : Nat := clampN 6 12 (s.get CT_RES_CFG_GRANULE)

/-- The granules of bank offsets [o, o + n). -/
def State.granules (s : State) (o n : Nat) : Nat × Nat := (o / 2 ^ s.granLog, (o + max n 1 - 1) / 2 ^ s.granLog)

/-- The owner key of a packet: SRC_EID and PASID, with BASIN added when PRIV is clear (R247). -/
structure ResKey where
  src   : Nat
  pasid : Nat
  basin : Option Nat
  deriving DecidableEq, Repr

def resKey (p : Pkt) : ResKey := ⟨p.src, p.pasid, if p.priv = 0 then some p.basin else none⟩

/-- Removes the reservations that an access to a range takes away; `own` keeps the writer's own (Table 8-5). -/
def State.resLose (s : State) (b o n : Nat) (own : Option ResKey) : State :=
  let g := s.granules o n
  let keep (r : Resv) : Bool :=
    r.bank != b || decide (r.granule < g.1 ∨ g.2 < r.granule) ||
      (match own with | some k => r.src == k.src && r.pasid == k.pasid && r.basin == k.basin | none => false)
  { s with ord := { s.ord with resv := s.ord.resv.filter keep } }

/-- Every reservation of a bank is lost. -/
def State.resLoseBank (s : State) (b : Nat) : State :=
  { s with ord := { s.ord with resv := s.ord.resv.filter (fun r => r.bank != b) } }

/-! ### Rows (R187, R188) -/

def bankBase (b : Nat) : Nat := b * 0x400000

def State.bankRetired (s : State) (b : Nat) : Bool := s.on (CT_STAT_STATE b)

/-- Is a byte range of a bank in service, every row of it? -/
def State.rowsOk (s : State) (b o n : Nat) : Bool :=
  !s.bankRetired b && !s.cis.rowOut.any (fun r => r.1 == b && decide (o / 128 ≤ r.2 ∧ r.2 ≤ (o + max n 1 - 1) / 128))

/-- Replaces a failing row by a spare, or retires it (R188). -/
def State.spareRow (s : State) (b row : Nat) : State :=
  let s := { s with cis := { s.cis with rowCe := tdel s.cis.rowCe (b * 32768 + row) } }
  if s.get (CT_STAT_SPARES b) = 0 then
    (({ s with cis := { s.cis with rowOut := s.cis.rowOut ++ [(b, row)] } }).put (CT_ERR_EXHAUSTED b) 1).fault 5 b (row * 128)
  else (s.put (CT_STAT_SPARES b) (s.get (CT_STAT_SPARES b) - 1)).put (CT_ERR_SPARED b) 1

/-- A bank meets the word at cistern word number `w`: a single-bit error is corrected and counted, an uncorrectable
one is marked poisoned. Poison 1 is a hardware error not met yet, 2 a word marked poisoned. -/
def State.meetWord (s : State) (w : Nat) : State :=
  let b := bankOf (w * 8)
  let row := w * 8 % 0x400000 / 128
  let s := if (tget s.cis.soft w).isSome then
      let n := tgetD s.cis.rowCe (b * 32768 + row) 0 + 1
      let s := { s with cis := { s.cis with soft := tdel s.cis.soft w, rowCe := tset s.cis.rowCe (b * 32768 + row) n } }
      let s := (s.put (CT_ERR_CE b) 1).count (C_CT_CE_CNT b)
      s.doIf (decide (max 1 (s.get (CT_CE_THRESH_ROW b)) ≤ n)) (·.spareRow b row)
    else s
  if tget s.cis.poison w = some 1 then
    let s := { s with cis := { s.cis with poison := tset s.cis.poison w 2 } }
    let s := s.putIf (!s.on (CT_ERR_UE b)) (CT_ERR_ADDR_OFFSET b) (w * 8 % 0x400000)
    ((s.put (CT_ERR_UE b) 1).count (C_CT_UE_CNT b)).spareRow b row
  else s

/-- The word numbers of a byte range. -/
def wordsOf (a n : Nat) : List Nat := (List.range ((a + n + 7) / 8 - a / 8)).map (· + a / 8)

/-! ### One bank -/

/-- A bank reads `n` bytes at cistern address `a`, inside the bank. -/
def State.bankRead (s : State) (a n : Nat) : List Nat × Status × State :=
  if !s.rowsOk (bankOf a) (a % 0x400000) n then ([], .retired, s)
  else
    let ws := wordsOf a n
    let s := s.forEach ws (fun w u => u.meetWord w)
    (s.cisRead a n, if ws.any (fun w => (tget s.cis.poison w).isSome) then .poisoned else .ok, s)

/-- Marks the words of a write: a whole word clears its poison, a part keeps it; poisoned data poisons (R186). -/
def State.writeMarks (s : State) (a n : Nat) (bad : Bool) : State :=
  s.forEach (wordsOf a n) (fun w u =>
    let whole := decide (a ≤ w * 8 ∧ w * 8 + 8 ≤ a + n)
    let u := if whole then u else u.meetWord w
    if bad then { u with cis := { u.cis with poison := tset u.cis.poison w 2, soft := tdel u.cis.soft w } }
    else if whole then { u with cis := { u.cis with poison := tdel u.cis.poison w, soft := tdel u.cis.soft w } }
    else u)

/-- A bank writes bytes at cistern address `a`, inside the bank (R186, R188, R194). A sealed range is dropped. -/
def State.bankWrite (s : State) (a : Nat) (bs : List Nat) (bad : Bool) (own : Option ResKey) : Status × State :=
  let b := bankOf a
  let n := bs.length
  if !s.rowsOk b (a % 0x400000) n then (.retired, s)
  else if s.sealed a || s.sealed (a + n - 1) then (.locked, s)
  else (.ok, ((s.writeMarks a n bad).cisWrite a bs).resLose b (a % 0x400000) n own)

/-! ### Through the cistern decode -/

/-- The worse of two statuses: the first that is not OK. -/
def firstBad (a b : Status) : Status := if a = .ok then b else a

/-- A copy of partition `n` has answered RETIRED (R192). -/
def State.loseCopy (s : State) (n lost : Nat) : State :=
  if s.on (PART_STAT_DEGRADED n) then s else (s.put (PART_STAT_DEGRADED n) 1).put (PART_STAT_LOST n) lost

/-- Puts zeros in a range of real cistern addresses, which clears the poison of its words. -/
def State.cisClear (s : State) (a n : Nat) : State :=
  let out (w : Nat) : Bool := !decide (a / 8 ≤ w ∧ w < (a + n) / 8)
  { s with cis := { s.cis with
    mem := s.cis.mem.filter (fun c => !decide (a ≤ c.1 ∧ c.1 < a + n))
    poison := s.cis.poison.filter (fun e => out e.1)
    soft := s.cis.soft.filter (fun e => out e.1) } }

/-- Writes zeros over a range at its banks, in pieces of 64 KiB: sealed space drops them, a retired bank takes nothing, and
reservations on the range are lost (R189, R194, R250, R333, R335). -/
def State.cisZero (s : State) (a n : Nat) : State :=
  s.forEach (cutEvery 65536 (n / 65536 + 2) a n) (fun x u =>
    let b := bankOf x.1
    if u.bankRetired b then u
    else if u.sealed x.1 then u.count (C_CT_SEAL_DROP b)
    else (u.cisClear x.1 x.2).resLose b (x.1 % 0x400000) x.2 none)

/-! ### Atomics and reservations at a bank (R77, R186, R193, R216, R247 to R249) -/

/-- The new value of an ATOMIC; none where it writes nothing. -/
def atomicNew (op size old o1 o2 : Nat) : Option Nat :=
  let m := 256 ^ size
  if op = 1 then some ((old + o1) % m)
  else if op = 2 then some (o1 % m)
  else if op = 3 then (if old = o1 % m then some (o2 % m) else none)
  else none

/-- A bank executes an ATOMIC: the old value, the status, and the state after. -/
def State.bankAtomic (s : State) (a size op o1 o2 : Nat) : Nat × Status × State :=
  let b := bankOf a
  if op = 0 ∨ 3 < op ∨ s.mirrored a then (0, .unsupported, s)
  else if !s.rowsOk b (a % 0x400000) size then (0, .retired, s)
  else if s.sealed a then (0, .locked, s)
  else
    let s := (s.meetWord (a / 8)).resLose b (a % 0x400000) size none
    let old := ofLeBytes (s.cisRead a size)
    if (tget s.cis.poison (a / 8)).isSome then (old, .poisoned, s)
    else
      match atomicNew op size old o1 o2 with
      | none => (old, .ok, s)
      | some v => (old, .ok, s.cisWrite a (leBytes size v))

/-- May a RESERVE_READ or COND_WRITE name a range: one granule, unmirrored (R247)? -/
def State.resOk (s : State) (a n : Nat) : Bool :=
  let g := s.granules (a % 0x400000) n
  g.1 == g.2 && !s.mirrored a

/-- Entries of a bank's reservation table. -/
def resTable : Nat := 4096

/-- Records a reservation, which replaces what its key holds anywhere (R248); a full table evicts the entry set longest ago. -/
def State.resSet (s : State) (b g : Nat) (k : ResKey) : State :=
  let same (r : Resv) : Bool := r.src == k.src && r.pasid == k.pasid && r.basin == k.basin
  let rs := s.ord.resv.filter (fun r => !same r)
  let full := decide (resTable ≤ (rs.filter (fun r => r.bank == b)).length)
  let rs := if full then dropFirst (fun r => r.bank == b) rs else rs
  let s := s.doIf full (·.count (C_CT_RES_EVICT b))
  { s with ord := { s.ord with resv := rs ++ [⟨b, g, k.src, k.pasid, k.basin⟩] } }

/-- A bank serves a RESERVE_READ of `n` bytes. -/
def State.bankReserve (s : State) (a n : Nat) (k : ResKey) : List Nat × Status × State :=
  if !s.resOk a n then ([], .unsupported, s)
  else
    let (bs, st, s) := s.bankRead a n
    if st = .retired then (bs, st, s) else (bs, st, s.resSet (bankOf a) (a % 0x400000 / 2 ^ s.granLog) k)

/-- A bank serves a COND_WRITE (R249). -/
def State.bankCond (s : State) (a : Nat) (bs : List Nat) (k : ResKey) : Status × State :=
  let b := bankOf a
  let g := a % 0x400000 / 2 ^ s.granLog
  if !s.resOk a bs.length then (.unsupported, s)
  else if !s.rowsOk b (a % 0x400000) bs.length then (.retired, s)
  else if s.sealed a || s.sealed (a + bs.length - 1) then (.locked, s)
  else if !s.ord.resv.any (fun r => r.bank == b && r.granule == g && r.src == k.src && r.pasid == k.pasid && r.basin == k.basin)
  then (.reservationLost, s)
  else
    let (st, s) := s.bankWrite a bs false none
    if st ≠ .ok then (st, s)
    else (.ok, { s with ord := { s.ord with resv := s.ord.resv.filter (fun r => !(r.bank == b && r.granule == g)) } })

/-! ### Rows about banks -/

/-- A bank scrubs its next row (R187). -/
def State.scrubRow (s : State) (b : Nat) : State :=
  if !s.on (CT_SCRUB_EN b) ∨ s.bankRetired b then s.smIgnored
  else
    let row := tgetD s.cis.scrub b 0
    let s := { s with cis := { s.cis with scrub := tset s.cis.scrub b ((row + 1) % 32768) } }
    let s := s.forEach (wordsOf (bankBase b + row * 128) 128) (fun w u => u.meetWord w)
    s.doIf (row == 32767) (fun s => { s with cis := { s.cis with rowCe := s.cis.rowCe.filter (fun e => e.1 / 32768 != b) } })

def execScrub (b : Nat) (s : State) : Out := act s (if 24 ≤ b then s.smIgnored else s.scrubRow b)

/-- A bank fault (R189): RETIRED, a class 5 record, and every reservation of the bank lost (Table 8-5). -/
def State.bankFault (s : State) (b flags : Nat) : State :=
  (((s.put (CT_ERR_BANK_FAULT b) 1).put (CT_STAT_STATE b) 1).resLoseBank b).logFault 5 b 0xFFFFFFFF flags

def execBankFault (b : Nat) (s : State) : Out := act s (if 24 ≤ b then s.smIgnored else s.bankFault b 0)

end Sys2Proof.Machine
end

