-- ==== Sys2Proof/Machine/Parts.lean ====
section
/-! DEFINITION. Accesses in progress and the packets of their parts: split, window, cistern decode, copies of mirrored
partitions, and who takes the result (R88, R89, R184, R192, R197, R236). -/

namespace Sys2Proof.Machine

/-- The fabric TC of a PCI Express traffic class at a port; 6 and 7 act as 5 (R86). -/
def State.tcMap (s : State) (p ptc : Nat) : Nat := min 5 (bits (s.get (PORT_TCMAP_MAP (portC p) (portK p))) (3 * (ptc % 8)) 3)

/-! ### Plume packets (R217) -/

/-- The tiles that hold plume entries. -/
def plumeTile (t : Nat) : Bool := match tileUnit t with | .pt _ => true | .ct _ => true | .kt _ => true | _ => false

/-- A WRITE_P into plume space whose destination is the NI of a tile that holds plume entries. -/
def isPlume (p : Pkt) : Bool := p.kind == kWRITE_P && p.addr / 2 ^ 56 == 0xFE && eidSub p.dest == 31 && plumeTile (eidPort p.dest)

/-! ### Accesses in progress (R89, R236) -/

def State.accGet (s : State) (id : Nat) : Option MAcc := s.req.accs.find? (fun a => a.id == id)

def State.accMap (s : State) (id : Nat) (f : MAcc → MAcc) : State :=
  { s with req := { s.req with accs := s.req.accs.map (fun a => if a.id = id then f a else a) } }

/-- One more part of an access is out. -/
def State.accUp (s : State) (id : Nat) : State :=
  s.accMap id (fun (a : MAcc) => { a with left := a.left + 1 })

/-- A part of an access fails before it is sent. -/
def State.accFail (s : State) (id : Nat) (st : Status) : State :=
  s.accMap id (fun (a : MAcc) => { a with status := firstBad a.status st })

/-- Puts dwords over a list at a position, within its length. -/
def putAt (zs : List Word) (o : Nat) (ws : List Word) : List Word :=
  (zs.take o ++ ws ++ zs.drop (o + ws.length)).take zs.length

/-- A completion TLP for a request TLP (R94, R95). -/
def cplTlp (t : Tlp) (code : Nat) (ep : Bool) (n : Nat) : Tlp :=
  let x : Tlp := { tlp0 with cls := 2, part := t.part, hlen := 3, ptc := t.ptc, rid := t.rid, tag := t.tag }
  { x with typ := (if n = 0 then tyCpl else tyCplD), cplst := code, bytes := 4 * n, ep := ep }

/-- PCI Express completion status (Table 3-8): 0 Successful Completion, 1 Unsupported Request, 2 Request Retry Status,
4 Completer Abort. A DMWr of the reservation alias maps RESERVATION_LOST to Request Retry Status (R308). -/
def pcieStatus (st : Status) : Nat :=
  match st with
  | .ok | .poisoned => 0
  | .unsupported | .guardFault | .targetAsleep | .locked | .retired => 1
  | .targetAbort | .pathLost | .timeout | .busy => 4
  | .reservationLost => 2

/-- A TLP that the PT NI builds for its own link goes to the egress class queue of a fabric TC, from and to the port's view. -/
def State.portTlp (s : State) (p tc : Nat) (t : Tlp) (data : List Word) : State :=
  let e := s.viewEid p t.part
  s.enqueueBack p { pkt0 kTLP tc (vnOf t.cls tc) data.length e e data with tlp := some t }

/-! ### The virtual switch's shadow, and the Read Completion Boundary (R301, R306) -/

/-- Devices of a partition's switch: 0 to 63 virtual downstream ports, 64 the upstream port, 65 the management
function. -/
def dvUp : Nat := 64
def dvMgmt : Nat := 65

def cfgKey (h dev reg : Nat) : Nat := (h * 128 + dev) * 4096 + reg
def State.cfgReg (s : State) (h dev reg : Nat) : Nat := (tgetD s.pc.shadow (cfgKey h dev reg) 0).toNat
def State.setCfg (s : State) (h dev reg v : Nat) : State :=
  { s with pc := { s.pc with shadow := tset s.pc.shadow (cfgKey h dev reg) (BitVec.ofNat 32 v) } }

/-- The virtual downstream port of partition `h` for port `p` of this node. -/
def State.vportOf (s : State) (h p : Nat) : Option VPort := s.pc.vports.find? (fun v => v.hpart == h && v.eid == s.viewEid p h)

/-- Shadow register number of Link Control, whose bit 3 is the Read Completion Boundary (assumption log 110). -/
def rgLinkCtl : Nat := 3

/-- The Read Completion Boundary of a port in dwords: 64 or 128 bytes, by Link Control of the port's function in the partition's
switch. -/
def State.rcb (s : State) (p h : Nat) : Nat :=
  let dev := if s.portKind p = kindHost then some dvUp else (s.vportOf h p).map (·.dev)
  match dev with
  | some d => if bit (s.cfgReg h d rgLinkCtl) 3 then 32 else 16
  | none => 16

/-- Divides `n` dwords from dword address `a` at a boundary of `b` dwords: start and count of each piece. -/
def rcbParts (b : Nat) : Nat → Nat → Nat → List (Nat × Nat)
  | 0, _, _ => []
  | f + 1, a, n =>
    if n = 0 then []
    else
      let k := min n (b - a % b)
      (a, k) :: rcbParts b f (a + k) (n - k)

/-- The lowest and one past the highest enabled byte of a byte-enable nibble. -/
def beLow (be : Nat) : Nat := ((List.range 4).find? (bit be)).getD 0
def beTop (be : Nat) : Nat := (((List.range 4).reverse.find? (bit be)).map (· + 1)).getD 0

/-- The bytes that a memory TLP of `n` dwords names, relative to its address: offset and count. -/
def tlpSpan (x : Tlp) (n : Nat) : Nat × Nat :=
  if n ≤ 1 then (beLow x.fbe, beTop x.fbe - beLow x.fbe) else (beLow x.fbe, 4 * (n - 1) + beTop x.lbe - beLow x.fbe)

/-- The completions with data of a MemRd: one for each piece that the Read Completion Boundary makes, each with the byte count
that remains and its lower address (R306). -/
def State.readCpls (s : State) (port : Nat) (t : Tlp) (ep : Bool) (data : List Word) : State :=
  let d0 := t.addr / 4
  let (off, len) := tlpSpan t data.length
  s.forEach (rcbParts (s.rcb port t.part) data.length d0 data.length) (fun q u =>
    let i := q.1 - d0
    let x : Tlp := { cplTlp t 0 ep q.2 with bytes := (if i = 0 then len else len - (4 * i - off)), addr := (4 * q.1 + (if i = 0 then off else 0)) % 128 }
    u.portTlp port (min 5 (u.tcMap port t.ptc)) x ((data.drop i).take q.2))

/-- The completion of an access that a TLP made. -/
def State.tlpDone (s : State) (a : MAcc) (port : Nat) (t : Tlp) : State :=
  let code := pcieStatus a.status
  let data := if code = 0 then a.data else []
  let ep := a.status == .poisoned
  if t.typ = tyMRd ∧ !data.isEmpty then s.readCpls port t ep data
  else s.portTlp port (min 5 (s.tcMap port t.ptc)) (cplTlp t code ep data.length) data

/-- A finished access goes to whoever takes its result. -/
def State.accOut (s : State) (a : MAcc) : State :=
  let s := { s with req := { s.req with accs := s.req.accs.filter (fun x => x.id != a.id) } }
  match a.taker with
  | .master => { s with req := { s.req with done := a :: s.req.done } }
  | .tlp p x => s.tlpDone a p x
  | _ => { s with req := { s.req with ready := s.req.ready ++ [a] } }

/-- Does an access return to a native master, in the order of its issue (R236)? -/
def AccTo.inOrder (x : AccTo) : Bool := match x with | .master => true | .job _ => true | .ring _ _ => true | _ => false

/-- Delivers the finished accesses of a tile: those of a native master in the order of their issue (R236), others as they
finish. -/
def State.accFlush : Nat → Nat → State → State
  | 0, _, s => s
  | n + 1, t, s =>
    match s.req.accs.find? (fun a => a.tile == t && a.left == 0 && !a.taker.inOrder) with
    | some a => State.accFlush n t (s.accOut a)
    | none => match s.req.accs.find? (fun a => a.tile == t && a.taker.inOrder) with
      | some a => if a.left = 0 then State.accFlush n t (s.accOut a) else s
      | none => s

def State.accSettle (s : State) (t : Nat) : State := State.accFlush (s.req.accs.length + 1) t s

/-- Opens an access; its identifier. -/
def State.accOpen (s : State) (t kind : Nat) (data : List Word) (who : AccTo) : Nat × State :=
  let id := s.req.nextId
  let a : MAcc := { id := id, tile := t, kind := kind, left := 0, status := .ok, data := data, taker := who }
  (id, { s with req := { s.req with nextId := id + 1, accs := s.req.accs ++ [a] } })

/-- Is a packet a TLP of a type? -/
def isTlp (p : Pkt) (ty : Nat) : Bool := p.kind == kTLP && (match p.tlp with | some x => x.typ == ty | none => false)

/-- Is a packet a TLP whose completions cover a Length: a MemRd or an ATS Translation Request (R94)? -/
def covers (p : Pkt) : Bool := isTlp p tyMRd || isTlp p tyAts

/-- Dwords that a request asks for: LEN, or the Length of a TLP that carries no data (R94, R339). -/
def reqLen (p : Pkt) : Nat := if covers p then (match p.tlp with | some x => x.bytes / 4 | none => 0) else p.len

/-! ### Sending the parts of an access -/

/-- A part as a packet: the packet's kind, class, TC, destination and target address. `pos` is its dword position in
the result. -/
def State.sendPart (s : State) (t id : Nat) (p : Pkt) (mirror : Bool) (pos : Nat) (g : Option (Nat × Nat)) : State :=
  if pktClass p = 1 then (s.accUp id).request t (if mirror then .mirror id pos else .native id pos) p g (if covers p then reqLen p else 1)
  else s.inject t p g

/-- Dwords `i` to `i + n` of a write packet. -/
def dwPart (p : Pkt) (i n : Nat) : Pkt :=
  let last := decide (p.data.length ≤ i + n)
  let tlp := p.tlp.map (fun (x : Tlp) =>
    { x with addr := x.addr + 4 * i, fbe := (if i = 0 then x.fbe else if n = 1 ∧ last then x.lbe else 15), lbe := (if n ≤ 1 then 0 else if last then x.lbe else 15) })
  { p with addr := p.addr + 4 * i, len := n, data := (p.data.drop i).take n, tlp := tlp }

/-- Sends one undivided part whose target is a cistern address: to the bank that holds it, or to both copies (R184, R192).
`sec`: a frame program with ROLE secondary writes to WORK1 (R197). -/
def State.sendOne (s : State) (t id : Nat) (sec : Bool) (p : Pkt) (pos : Nat) (g : Option (Nat × Nat)) : State :=
  let write := p.kind != kREAD && p.kind != kRESERVE && (match p.tlp with | some x => x.typ != tyMRd | none => true)
  let at_ (r : Nat) : Pkt := { p with dest := tileEid s.node (ctTile (bankOf r)), addr := r % 0x400000 }
  let bad (s : State) : State :=
    (if pktClass p = 1 then s.accFail id .unsupported else s.count (C_NI_NOWIN (niBase t))).guardRetire g
  match s.cisDecode p.addr write sec with
  | .bad => bad s
  | .commit n => if p.kind = kATOMIC then bad s else (s.snapCommit t n).guardRetire g
  | .at_ r copy part obj =>
    if (p.kind = kRESERVE ∨ p.kind = kCOND) ∧ obj.isSome then bad s
    else if p.kind = kATOMIC ∨ p.kind = kRESERVE ∨ p.kind = kCOND ∨ !write then
      s.sendPart t id (at_ (if write then r else s.readCopy r copy part)) false pos g
    else match s.writeCopies r copy part with
      | [a, c] => ((s.guardOpenAgain g).sendPart t id (at_ a) true pos g).sendPart t id (at_ c) true pos g
      | a :: _ => s.sendPart t id (at_ a) false pos g
      | [] => s

/-- Is a packet a write that may be divided? -/
def isWrite (p : Pkt) : Bool := p.kind == kWRITE_P || p.kind == kWRITE_NP || isTlp p tyMWr || isTlp p tyDMWr

/-- Sends one part whose target is a cistern address; a write is divided at a commit dword (R197). -/
def State.sendCis (s : State) (t id : Nat) (sec : Bool) (p : Pkt) (pos : Nat) (g : Option (Nat × Nat)) : State :=
  match (if isWrite p then s.commitCuts p.addr (4 * p.data.length) else []) with
  | c :: d :: r =>
    let s := s.forEach (d :: r) (fun _ u => u.guardOpenAgain g)
    s.forEach (c :: d :: r) (fun x u => u.sendOne t id sec (dwPart p ((x.1 - p.addr) / 4) (x.2 / 4)) (pos + (x.1 - p.addr) / 4) g)
  | _ => s.sendOne t id sec p pos g

/-- A memory write TLP with every byte enabled that a window sends into plume space feeds a tree as a WRITE_P (R217; assumption
log 101). -/
def asPlume (p : Pkt) : Pkt :=
  match p.tlp with
  | none => p
  | some x =>
    let q : Pkt := { p with kind := kWRITE_P, tlp := none, status := if x.ep then 4 else 0 }
    if isTlp p tyMWr ∧ x.fbe = 15 ∧ (p.len ≤ 1 ∨ x.lbe = 15) ∧ isPlume q then q else p

/-- Sends one part by the window table of tile `t` (R88), or by the cistern decode (R184). `own` says that the master
is the Wellhead, whose addresses below 0x0C00_0000 are cistern addresses. -/
def State.sendByWindow (s : State) (t id : Nat) (own : Bool) (p : Pkt) (pos : Nat) (slot : Option Nat) (g : Option (Nat × Nat)) : State :=
  if own ∧ p.addr < viewEnd then s.sendCis t id false p pos g
  else match s.winLookup t p.addr slot with
    | none => (if pktClass p = 1 then s.accFail id .unsupported else s.count (C_NI_NOWIN (niBase t))).guardRetire g
    | some h =>
      let tc := if own then h.tc else p.tc
      let p' : Pkt := { p with dest := h.dest, addr := h.addr, tc := tc, vn := vnOf (pktClass p) tc, tlp := p.tlp.map (fun (x : Tlp) => { x with addr := h.addr }) }
      let p' := asPlume p'
      if h.dest = tileEid s.node (ctTile 0) ∧ !isPlume p' then s.sendCis t id false p' pos g
      else s.sendPart t id p' false pos g

/-- The NI of tile `t` reads `n` bytes at a cistern address for a unit of its own tile, unguarded. -/
def State.unitRead (s : State) (t a n : Nat) (who : AccTo) : State :=
  let (id, s) := s.accOpen t kREAD (List.replicate (n / 4) 0) who
  let s := s.forEach (pageParts a n) (fun x u =>
    u.sendCis t id false { pkt0 kREAD 0 (vnOf 1 0) (x.2 / 4) 0 (tileEid u.node t) [] with addr := x.1, priv := 1 } ((x.1 - a) / 4) none)
  s.accSettle t

/-- The NI of tile `t` writes bytes at a cistern address for a unit of its own tile, unguarded. -/
def State.unitWrite (s : State) (t a : Nat) (bs : List Nat) : State :=
  s.forEach (pageParts a bs.length) (fun x u =>
    u.injectWrite t { pkt0 kWRITE_P 0 (vnOf 0 0) (x.2 / 4) (tileEid u.node (ctTile 0)) (tileEid u.node t)
      (bytesWords ((bs.drop (x.1 - a)).take x.2)) with addr := x.1, priv := 1 } none)

end Sys2Proof.Machine
end

