-- ==== Sys2Proof/Machine/Engine.lean ====
section
/-! DEFINITION. The accesses a cascade engine makes for a job, what each job type computes, and how a job goes on as its
accesses are answered (R203, R206 to R217, R219, R326, R334; assumption log 11). -/

namespace Sys2Proof.Machine

/-! ### Places -/

def EJ.tile (c : EJ) : Nat := ktTile c.e
def EJ.priv (c : EJ) : Bool := decide (c.q < 2)

/-- The host port that traffic of partition `h` goes to (R302). -/
def State.hostEid (s : State) (h : Nat) : Nat :=
  if s.on (GLB_HPART_STAT_ON_B h) then s.get (GLB_HPART_HOST_B_EID h) else s.get (GLB_HPART_HOST_A_EID h)

def State.basinHost (s : State) (b : Nat) : Nat := s.hostEid (s.get (BSN_CTL_HPART b))

/-- Where one part of an access goes. -/
inductive EDst where
  | cis (a : Nat)
  | eid (dest addr tc : Nat) (host : Bool)
  | none
  deriving DecidableEq, Repr

/-- Resolves one part at its guard address (R88, R184, R207, R326). -/
def State.engPlace (s : State) (c : EJ) (tgt : Option Nat) (quota : Bool) (a : Nat) : EDst :=
  match tgt with
  | some d => .eid d a 0 false
  | none =>
    if quota then .cis a
    else if 2 ≤ c.q then .eid (s.basinHost c.basin) a 0 true
    else if a < viewEnd then .cis a
    else match s.winLookup c.tile a none with
      | none => .none
      | some h => .eid h.dest h.addr h.tc false

/-- The guard address of an access, and whether it names the quota; none beyond the quota (R326). -/
def State.engAddr (s : State) (c : EJ) (tgt : Option Nat) (a n : Nat) : Option (Bool × Nat) :=
  if tgt = none ∧ 2 ≤ c.q ∧ bit a 62 then
    let off := a % 2 ^ 32
    if off + n ≤ s.get (BSN_QSIZE_UNITS c.basin) * 65536 then some (true, s.get (BSN_QBASE_BASE c.basin) * 65536 + off) else none
  else some (false, a)

def EJ.who (c : EJ) (s : State) (kind : Nat) : GuardWho :=
  ⟨kind, c.priv, 0, c.basin, 0, s.node⟩

/-- A packet of a job (R69, R74). -/
def State.engPkt (s : State) (c : EJ) (kind cls tc len dest addr : Nat) (host : Bool) (data : List Word) : Pkt :=
  { pkt0 kind tc (vnOf cls tc) len dest (tileEid s.node c.tile) data with
    addr := addr, priv := b2n c.priv, basin := c.basin, pasid := if host then s.get (BSN_PASID_PASID c.basin) else 0 }

/-- Notes a flow that a basin uses (R332). -/
def State.flowUse (s : State) (b e dest tc : Nat) : State :=
  if b = 0 ∨ s.bsn.flows.contains (b, e, dest, tc) then s
  else { s with bsn := { s.bsn with flows := s.bsn.flows ++ [(b, e, dest, tc)] } }

/-- Notes the flows of an access to a cistern address: one to each bank that it reaches. -/
def State.flowUseCis (s : State) (c : EJ) (a : Nat) (write : Bool) : State :=
  match s.cisDecode a write c.sec with
  | .at_ r copy part _ =>
    s.forEach (if write then s.writeCopies r copy part else [s.readCopy r copy part]) (fun x u =>
      u.flowUse c.basin c.e (tileEid u.node (ctTile (bankOf x))) 0)
  | _ => s

/-- Counts an access under the set it was checked with until it retires (R345). -/
def State.engOpen (s : State) (c : EJ) : Option (Nat × Nat) × State :=
  let g := s.guardTag (16 + c.e)
  (some g, s.guardOpen g.1 g.2 true)

/-! ### Local store (R203) -/

def lsAddr (e a : Nat) : Nat := e * 0x40000 + a % 0x40000

def State.lsRead (s : State) (e a n : Nat) : List Nat := (List.range n).map (fun i => memByte s.kt.ls (lsAddr e (a + i)))

def lsWriteGo (e a : Nat) (m : List Host.Cell) : List Nat → List Host.Cell
  | [] => m
  | b :: r => lsWriteGo e (a + 1) (memSet m (lsAddr e a) b) r

/-- The 64-bit words of a range of the local store that wraps at its end. -/
def lsWords (e a n : Nat) : List Nat := ((List.range n).map (fun i => lsAddr e (a + i) / 8)).dedup

/-- Is a word wholly inside a range? -/
def lsWhole (e a n w : Nat) : Bool := ((List.range n).filter (fun i => lsAddr e (a + i) / 8 == w)).length == 8

/-- Does a range of the local store hold a poisoned word (assumption log 96)? -/
def State.lsPoison (s : State) (e a n : Nat) : Bool := (lsWords e a n).any (fun w => s.kt.lsBad.contains w)

/-- Writes local store; what depends on failed data is poisoned (Table 7-5), and a write of a whole word clears its poison. -/
def State.lsWrite (s : State) (e a : Nat) (bs : List Nat) (bad : Bool) : State :=
  let ws := lsWords e a bs.length
  let rest := s.kt.lsBad.filter (fun w => !(ws.contains w && lsWhole e a bs.length w))
  let lsBad := if bad then (rest ++ ws).dedup else rest
  { s with kt := { s.kt with ls := lsWriteGo e a s.kt.ls bs, lsBad := lsBad } }

def isLs (a : Nat) : Bool := bit a 63

/-- Puts bytes over a list at an offset. -/
def splice (zs : List Nat) (o : Nat) (bs : List Nat) : List Nat := zs.take o ++ bs ++ zs.drop (o + bs.length)

/-- Bytes of free dwords. -/
def State.freeBytes (s : State) (n : Nat) : List Nat × State :=
  let (ws, s) := s.freeList (ceilDiv n 4)
  ((wordsBytes ws).take n, s)

/-! ### Dirty-page marks (R334) -/

/-- The cistern address of the dirty-log buffer `k` of a basin. -/
def State.logBuf (s : State) (b k : Nat) : Nat := (if k = 0 then s.get (LOG_BUF0_ADDR b) else s.get (LOG_BUF1_ADDR b)) * 32

/-- Marks one page of a basin, unless the engine's cache holds it. -/
def State.markPage (s : State) (e b pg : Nat) : State :=
  if s.bsn.cache.contains (e, b, pg) then s
  else
    let cyc := (e, b, pg) :: s.bsn.cache.filter (fun x => x.1 == e)
    let rest := s.bsn.cache.filter (fun x => x.1 != e)
    let mk := if s.bsn.marked.contains (b, e) then s.bsn.marked else s.bsn.marked ++ [(b, e)]
    let s := { s with bsn := { s.bsn with cache := cyc.take 64 ++ rest, marked := mk } }
    let s := s.count (C_LOG_MARKS b)
    let a := s.logBuf b (s.get (LOG_CUR b)) + pg / 8
    let m : Pkt := { pkt0 kMSG 0 (vnOf 0 0) 0 (tileEid s.node (ctTile (bankOf a))) (tileEid s.node (ktTile e)) [] with
      addr := 0x0602 + (a % 0x400000 * 8 + pg % 8) * 65536, basin := b }
    (s.flowUse b e m.dest 0).inject (ktTile e) m none

/-- Marks the pages of a write of the third kind of R326. -/
def State.markWrite (s : State) (e b a n : Nat) : State :=
  if !s.on (LOG_EN b) then s
  else
    let base := s.rd64 (R_LOG_BASE_LO b)
    let top := base + 2 ^ s.get (LOG_SIZE b)
    let s := s.doIf (decide (a < base ∨ top < a + n)) (·.count (C_LOG_MISS b))
    let lo := max a base
    let hi := min (a + n) top
    if hi ≤ lo then s
    else s.forEach ((List.range ((hi - base + 4095) / 4096 - (lo - base) / 4096)).map (· + (lo - base) / 4096)) (fun pg u => u.markPage e b pg)

/-! ### Reads and atomics -/

/-- Sends one passing part of a read or an atomic of access `id`, for dword `pos` of its result. -/
def State.engAsk (s : State) (c : EJ) (id : Nat) (tgt : Option Nat) (quota : Bool) (a pos : Nat) (mk : Nat → Nat → Nat → Bool → Pkt) : State :=
  match s.engPlace c tgt quota a with
  | .none => s.accFail id .unsupported
  | .cis x =>
    let p := mk 0 (tileEid s.node (ctTile 0)) x false
    let (g, s) := (s.flowUseCis c x (p.kind == kATOMIC)).engOpen c
    s.sendCis c.tile id c.sec p pos g
  | .eid d x tc host =>
    let p := mk tc d x host
    let (g, s) := (s.flowUse c.basin c.e d tc).engOpen c
    if d = tileEid s.node (ctTile 0) then s.sendCis c.tile id c.sec p pos g else s.sendPart c.tile id p false pos g

/-- What an access of a job comes to: it waits until it may be made, it is out under an identifier, or it is answered. -/
inductive ActOut where
  | wait
  | out (id : Nat) (s : State)
  | ans (a : Ans) (s : State)

/-- An access that is not sent: its data are free. -/
def State.noData (s : State) (n : Nat) (st : Status) : ActOut :=
  let (bs, s) := s.freeBytes n
  .ans ⟨bs, st, true⟩ s

/-- Reads `n` bytes, at most 4 KiB, for a job. A part that fails its guard reads as poisoned (R342). Data that do not come are
free. -/
def State.engRead (s : State) (c : EJ) (tgt : Option Nat) (a n : Nat) : ActOut :=
  if tgt = none ∧ c.q < 2 ∧ isLs a then .ans ⟨s.lsRead c.e a n, .ok, s.lsPoison c.e a n⟩ s
  else match s.engAddr c tgt a n with
  | none => (s.count (C_QUOTA_FAULT c.basin)).noData n .guardFault
  | some (quota, g) =>
    let (ok, s) := s.guardCheck (16 + c.e) .r false (c.who s kREAD) (pageParts g n)
    let (ws, s) := s.freeList (ceilDiv n 4)
    let (id, s) := s.accOpen c.tile kREAD ws (.job c.e)
    let s := s.doIf (decide ((ok.map (·.2)).sum < n)) (·.accFail id .poisoned)
    let s := s.forEach ok (fun x u => u.engAsk c id tgt quota x.1 ((x.1 - g) / 4) (fun tc d y host =>
      u.engPkt c kREAD 1 tc (ceilDiv x.2 4) d y host []))
    .out id (s.accSettle c.tile)

/-- One ATOMIC of a job (R216): its old value in 8 bytes. -/
def State.engAtomic (s : State) (c : EJ) (a op size o1 o2 : Nat) : ActOut :=
  match s.engAddr c none a size with
  | none => (s.count (C_QUOTA_FAULT c.basin)).noData 8 .guardFault
  | some (quota, g) =>
    let (ok, s) := s.guardCheck (16 + c.e) .atomic true (c.who s kATOMIC) [(g, size)]
    if ok.isEmpty then s.noData 8 .guardFault
    else
      let (ws, s) := s.freeList 2
      let (id, s) := s.accOpen c.tile kATOMIC ws (.job c.e)
      let body := [op + (size / 8) * 16, 0, o1 % 2 ^ 32, o1 / 2 ^ 32, o2 % 2 ^ 32, o2 / 2 ^ 32].map (BitVec.ofNat 32)
      let s := s.engAsk c id none quota g 0 (fun tc d y host => s.engPkt c kATOMIC 1 tc 6 d y host body)
      .out id (s.accSettle c.tile)

/-! ### Writes -/

/-- The CRC-64 register before any byte (R214). -/
def sigInit : Nat := 2 ^ 64 - 1

/-- Runs bytes through the CRC-64 register of a program's signature (R210). -/
def State.sigAdd (s : State) (c : EJ) (a : Nat) (bs : List Nat) : State :=
  match c.prog with
  | none => s
  | some p =>
    if viewBase ≤ a ∧ a < viewEnd then
      let k := c.e * 8 + p
      let r := crcLsb 0xC96C5795D7870F42 (tgetD s.kt.sig k sigInit) 0 (leBytes 4 ((a - viewBase) % 0x100000) ++ bs)
      { s with kt := { s.kt with sig := tset s.kt.sig k r } }
    else s

/-- Sends one passing part of a posted write; poisoned data carry STATUS POISONED (R186). -/
def State.engPut (s : State) (c : EJ) (tgt : Option Nat) (quota : Bool) (a : Nat) (bs : List Nat) (bad : Bool) : State :=
  let mk (tc d x : Nat) (host : Bool) : Pkt :=
    { s.engPkt c kWRITE_P 0 tc (ceilDiv bs.length 4) d x host (bytesWords bs) with status := if bad then 4 else 0 }
  match s.engPlace c tgt quota a with
  | .none => s.count (C_NI_NOWIN (niBase c.tile))
  | .cis x =>
    let (g, s) := ((s.sigAdd c x bs).flowUseCis c x true).engOpen c
    s.sendCis c.tile 0 c.sec (mk 0 (tileEid s.node (ctTile 0)) x false) 0 g
  | .eid d x tc host =>
    let p := mk tc d x host
    let s := (s.doIf host (·.markWrite c.e c.basin x bs.length)).flowUse c.basin c.e d tc
    let (g, s) := s.engOpen c
    if d = tileEid s.node (ctTile 0) ∧ !isPlume p then s.sendCis c.tile 0 c.sec p 0 g else s.sendPart c.tile 0 p false 0 g

/-- Writes bytes for a job as posted packets, `bad` where they depend on data that failed (Table 7-5, ACCESS). -/
def State.engWrite (s : State) (c : EJ) (tgt : Option Nat) (a : Nat) (bs : List Nat) (bad : Bool) : State :=
  if tgt = none ∧ c.q < 2 ∧ isLs a then s.lsWrite c.e a bs bad
  else match s.engAddr c tgt a bs.length with
  | none => s.count (C_QUOTA_FAULT c.basin)
  | some (quota, g) =>
    let (ok, s) := s.guardCheck (16 + c.e) .w false (c.who s kWRITE_P) (pageParts g bs.length)
    s.forEach ok (fun p u => u.engPut c tgt quota p.1 ((bs.drop (p.1 - g)).take p.2) bad)

/-- Is a packet of an engine's NI posted write data of its jobs? -/
def postedData (p : Pkt) : Bool := p.kind == kWRITE_P && decide (p.tc < 6)

/-- Bytes of posted write data of engine `e` without a receipt (R211). -/
def State.postedOut (s : State) (e : Nat) : Nat :=
  let t := ktTile e
  ((s.mesh.kept.filter (fun k => k.tile == t && postedData k.pkt)).map (fun k => 4 * k.pkt.len)).sum
    + ((s.mesh.held.filter (fun h => h.tile == t && postedData h.pkt)).map (fun h => 4 * h.pkt.len)).sum

/-- Is there room for `n` more bytes, which a mirrored partition takes twice, under the 16 KiB of R211? -/
def State.postedRoom (s : State) (e n : Nat) : Bool := decide (s.postedOut e + 2 * n ≤ 16384)

/-! ### Descriptors (Table 7-3) -/

structure Desc where
  op     : Nat
  dtype  : Nat
  fn     : Nat
  cpl    : Bool
  int_   : Bool
  order  : Bool
  list   : Bool
  sat    : Bool
  expect : Bool
  count  : Nat
  rsize  : Nat
  bind   : Nat
  bindEn : Bool
  stride : Int
  src    : Nat
  dst    : Nat
  aux    : Nat
  cpla   : Nat
  cookie : Nat
  param  : Nat
  mask   : Nat
  deriving DecidableEq, Repr

def readDesc (ws : List Word) : Desc :=
  let d (i : Nat) : Nat := (ws.getD i 0).toNat
  let dd (i : Nat) : Nat := d i + d (i + 1) * 2 ^ 32
  ⟨bits (d 0) 0 8, bits (d 0) 8 4, bits (d 0) 12 4, bit (d 0) 16, bit (d 0) 17, bit (d 0) 18, bit (d 0) 19, bit (d 0) 20,
    bit (d 0) 21, bits (d 1) 0 24, bits (d 2) 0 13, bits (d 2) 16 4, bit (d 2) 20, toSigned 32 (d 3),
    dd 4, dd 6, dd 8, dd 10, dd 12, d 14, d 15⟩

/-- An address reached by a signed step, modulo 2^64. -/
def stepAddr (a : Nat) (k : Int) : Nat := fromSigned 64 ((a : Int) + k)

def rangesMeet (a n b m : Nat) : Bool := decide (a < b + m) && decide (b < a + n)

/-- Which job types use the list form. -/
def Desc.listed (d : Desc) : Bool := d.list && (d.op == 2 || d.op == 3 || d.op == 4 || d.op == 6)

/-- Does a descriptor pass the rules of its job type that need no access (R206, R210 to R217)? -/
def Desc.ok (d : Desc) : Bool :=
  let rs := decide (4 ≤ d.rsize ∧ d.rsize ≤ 4096) && d.rsize % 4 == 0
  let dt := decide (d.dtype ≤ 12)
  match d.op with
  | 1 => d.count % 4 == 0
  | 2 => rs
  | 3 => rs && (!d.bindEn || d.list)
  | 4 => rs && dt && decide (d.fn ≤ 5) && !(dtFloat d.dtype && decide (3 ≤ d.fn))
  | 5 => rs && dt && decide (16 ≤ d.rsize ∧ d.rsize ≤ 128) && d.mask % 4 == 0
  | 6 => decide (d.fn ≤ 1) && (!d.list || rs)
  | 7 => rs && dt
  | 8 => true
  | 9 => true
  | _ => false

/-- Addresses of a descriptor that its job type uses. -/
def Desc.addrs (d : Desc) : List Nat :=
  (if d.cpl then [d.cpla] else []) ++
  (match d.op with
   | 1 => [d.src, d.dst]
   | 2 => [d.dst, if d.list then d.aux else d.src]
   | 3 => [d.src, if d.list then d.aux else d.dst]
   | 4 => [d.dst, if d.list then d.aux else d.src]
   | 5 => [d.src, d.dst, d.aux]
   | 6 => [d.dst, if d.list then d.aux else d.src]
   | 7 => [d.src, d.dst, d.aux]
   | 8 => [d.src, d.dst]
   | 9 => [d.src]
   | _ => [])


/-! ### Overlap of a COPY (Table 7-6) -/

/-- The real ranges behind cistern addresses; 0 names local stores and 1 the cistern. -/
def State.cisRanges (s : State) (c : EJ) (write : Bool) (a n : Nat) : List (Nat × Nat × Nat) :=
  if a + n ≤ cisEnd then [(1, a, n)]
  else (pageParts a n).filterMap (fun x => match s.cisDecode x.1 write c.sec with | .at_ r _ _ _ => some (1, r, x.2) | _ => none)

/-- The ranges of local store and of this node's cistern that an operand names. -/
def State.opRanges (s : State) (c : EJ) (write : Bool) (a n : Nat) : List (Nat × Nat × Nat) :=
  if c.q < 2 ∧ isLs a then
    let o := a % 0x40000
    if o + n ≤ 0x40000 then [(0, o, n)] else [(0, o, 0x40000 - o), (0, 0, min (o + n - 0x40000) 0x40000)]
  else match s.engAddr c none a n with
  | none => []
  | some (quota, g) =>
    if quota ∨ (c.q < 2 ∧ g + n ≤ viewEnd) then s.cisRanges c write g n
    else if 2 ≤ c.q then []
    else (pageParts g n).flatMap (fun x => match s.engPlace c none false x.1 with
      | .cis y => s.cisRanges c write y x.2
      | .eid d y _ _ =>
        if eidNode d ≠ s.node ∨ eidSub d ≠ 31 then []
        else match tileUnit (eidPort d) with
        | .ct 0 => s.cisRanges c write y x.2
        | .ct b => [(1, b * 0x400000 + y, x.2)]
        | _ => []
      | .none => [])

/-- Does a COPY name overlapping ranges of cistern or local store? -/
def State.copyOverlap (s : State) (c : EJ) (d : Desc) : Bool :=
  let w := s.opRanges c true d.dst d.count
  (s.opRanges c false d.src d.count).any (fun x => w.any (fun y => x.1 == y.1 && rangesMeet x.2.1 x.2.2 y.2.1 y.2.2))

/-- Does a descriptor pass the rules of its job type and of the queue it comes from (R203, R206, R210, R326, R334, R432)? -/
def State.descOk (s : State) (c : EJ) (d : Desc) : Bool :=
  d.ok && !(d.op == 1 && s.copyOverlap c d)
    && (decide (c.q < 2) || (!d.addrs.any isLs && !(d.op == 3 && d.bindEn) && !(d.op == 9 && s.on (LOG_EN c.basin))))

/-! ### Lists (R207) -/

structure LEnt where
  addr : Nat
  time : Nat
  eid  : Option Nat
  deriving DecidableEq, Repr

def readEnt (bs : List Nat) : LEnt :=
  let d (i : Nat) : Nat := ofLeBytes ((bs.drop (4 * i)).take 4)
  ⟨d 0 + d 1 * 2 ^ 32, d 2, if bit (d 3) 24 then some (bits (d 3) 0 24) else none⟩

/-! ### Elements -/

def elemOf (w : Nat) (bs : List Nat) (i : Nat) : Nat := ofLeBytes ((bs.drop (w * i)).take w)

/-- Two elements combined at a node of the tree (R212); floating values in FP32 precision. -/
def redInt (fn dt : Nat) (sat : Bool) (a b : Nat) : Nat :=
  let w := 8 * dtBytes dt
  match fn with
  | 0 => if sat || dt == 8 || dt == 9 then dtSat dt (dtInt dt a + dtInt dt b) else (a + b) % 2 ^ w
  | 1 => if dtInt dt b < dtInt dt a then b else a
  | 2 => if dtInt dt a < dtInt dt b then b else a
  | 3 => a &&& b
  | 4 => a ||| b
  | _ => a ^^^ b

def isZero : FVal → Bool
  | .num _ m _ => m == 0
  | _ => false

def signOf : FVal → Bool
  | .nan => false
  | .inf n => n
  | .num n _ _ => n

def redFloat (fn : Nat) (a b : FVal) : FVal :=
  match fn with
  | 0 => fRound 8 23 (fAdd a b)
  | _ =>
    if a = .nan ∨ b = .nan then .nan
    else if isZero a ∧ isZero b ∧ signOf a ≠ signOf b then (if Config.zeroFirst (fn == 1) (signOf a) then a else b)
    else if fn = 1 then (if fLt b a then b else a) else (if fLt a b then b else a)

/-- One level of the binary tree: pairs (0,1), (2,3) and so on. -/
def pairUp {α : Type} (f : α → α → α) : List α → List α
  | a :: b :: r => f a b :: pairUp f r
  | l => l

def treeFold {α : Type} (f : α → α → α) : Nat → List α → List α
  | 0, l => l
  | n + 1, l => if l.length ≤ 1 then l else treeFold f n (pairUp f l)

/-- REDUCE of one element position (R212). -/
def reduceElem (d : Desc) (xs : List Nat) : Option Nat :=
  if dtFloat d.dtype then
    let (eb, mb) := dtFmt d.dtype
    (treeFold (redFloat d.fn) xs.length (xs.map (fUnpack eb mb))).head?.map (fPack eb mb)
  else (treeFold (redInt d.fn d.dtype d.sat) xs.length xs).head?

/-- REDUCE of whole vectors of `n` bytes. Bytes past the last whole element are free (assumption log 10). -/
def reduceVecs (d : Desc) (n : Nat) (vs : List (List Nat)) (fill : List Nat) : List Nat :=
  let w := dtBytes d.dtype
  let out := (List.range (n / w)).flatMap (fun i =>
    match reduceElem d (vs.map (fun v => elemOf w v i)) with
    | some x => leBytes w x
    | none => (fill.drop (w * i)).take w)
  out ++ fill.drop out.length

/-! ### ALIGN (R213) -/

def alignField (dt : Nat) (n dd : Int) (a b : Nat) : Nat :=
  if dtFloat dt then
    let (eb, mb) := dtFmt dt
    let fa := fUnpack eb mb a
    let fb := fUnpack eb mb b
    let diff := fRound 8 23 (fAdd fb (fNeg fa))
    fPack eb mb (fRound 8 23 (fAdd (fMul (fRatio n dd) diff) fa))
  else
    let ia := dtInt dt a
    dtSat dt (roundHalfEven (ia * dd + (dtInt dt b - ia) * n) dd)

/-- The selected fields of a record interpolated (R213). -/
def alignFields (dt mask : Nat) (n dd : Int) (ra rb : List Nat) : List Nat :=
  (List.range (rb.length / 4)).foldl (fun out i =>
    if bit mask i ∧ 4 * i + dtBytes dt ≤ rb.length then
      splice out (4 * i) (leBytes (dtBytes dt) (alignField dt n dd (ofLeBytes ((ra.drop (4 * i)).take (dtBytes dt)))
        (ofLeBytes ((rb.drop (4 * i)).take (dtBytes dt)))))
    else out) rb

/-- One record: the output record, and whether it counts as clamped. -/
def alignRec (d : Desc) (t : Int) (per : Nat) (ra rb : List Nat) : List Nat × Bool :=
  let sa := ofLeBytes (ra.take 8)
  let sb := ofLeBytes (rb.take 8)
  let stampT (o : List Nat) : List Nat := splice o 0 (leBytes 8 (fromSigned 64 t))
  if sa = 0 ∨ sb ≤ sa ∨ 2 * per < sb - sa then (stampT rb, true)
  else
    let n := t - sa
    let dd : Int := (sb : Int) - sa
    (stampT (alignFields d.dtype d.mask (clampI 0 dd n) dd ra rb), decide (n < 0 ∨ dd < n))

/-! ### LIMIT (R215) -/

/-- Is a field in violation of its bounds? -/
def limitBad (dt v lo hi : Nat) : Bool :=
  let w := 256 ^ dtBytes dt
  if dtFloat dt then
    let (eb, mb) := dtFmt dt
    let f := fUnpack eb mb v
    f == .nan || fLt f (fUnpack eb mb (lo % w)) || fLt (fUnpack eb mb (hi % w)) f
  else decide (dtInt dt v < dtInt dt (lo % w)) || decide (dtInt dt (hi % w) < dtInt dt v)

/-- Bit numbers of the MASK of a job, ascending. -/
def maskBits (m : Nat) : List Nat := (List.range 32).filter (bit m)

/-- The field bitmap of a record: bit i is set where the field at dword i is in violation. -/
def limitBitmap (d : Desc) (rec_ bounds : List Nat) : Nat :=
  ((maskBits d.mask).zipIdx).foldl (fun acc x =>
    let (i, k) := x
    let w := dtBytes d.dtype
    if 4 * i + w ≤ rec_.length then
      acc + b2n (limitBad d.dtype (ofLeBytes ((rec_.drop (4 * i)).take w)) (elemOf 8 bounds (2 * k)) (elemOf 8 bounds (2 * k + 1))) * 2 ^ i
    else acc) 0

/-! ### Job status -/

def jOK : Nat := 0
def jOVERRUN : Nat := 1
def jFAULT : Nat := 2
def jACCESS : Nat := 3
def jBAD_DESC : Nat := 4
def jMISMATCH : Nat := 5
def jLIMIT : Nat := 6
def jRETIRED : Nat := 8

/-! ### What a job does, step by step -/

/-- An action of a job. -/
inductive Act where
  /-- Reads at most 4 KiB. -/
  | read (tgt : Option Nat) (a n : Nat)
  | write (tgt : Option Nat) (a : Nat) (bs : List Nat) (bad : Bool)
  | atomic (a op size o1 o2 : Nat)
  /-- Hands a SCATTER record over: its TIME, destination, data and stream binding. -/
  | scat (time : Nat) (eid : Option Nat) (a : Nat) (bs : List Nat) (bad : Bool) (bind : Option (Nat × Nat))
  /-- Sends one plume packet. -/
  | plume (a : Nat) (bs : List Nat) (bad : Bool)
  /-- The message of the first violation, with its record index (R215). -/
  | msg (i : Nat)
  | clamp
  | hit
  /-- Asks whether the stream binding may carry the job: `eids` says that every list entry has EID_EN. -/
  | bindOk (eids : Bool)
  /-- Free bytes. -/
  | free (n : Nat)
  deriving DecidableEq, Repr

/-- A job: its end with a JSTATUS, a point at which `n` are finished and `ops` operand bytes are done, or an action and what
follows its answer. -/
inductive Prog where
  | done (jst : Nat)
  | mark (n ops : Nat) (k : Prog)
  | act (a : Act) (k : Ans → Prog)

/-- Repeats a body for `i`, `i` + 1, …, with a value that goes from each to the next. -/
def loopP {α : Type} (body : Nat → α → (α → Prog) → Prog) : Nat → Nat → α → (α → Prog) → Prog
  | 0, _, x, k => k x
  | n + 1, i, x, k => body i x (fun y => loopP body n (i + 1) y k)

/-- Reads a range in pieces of 4 KiB: its bytes, and whether they are poisoned. -/
def readAll (tgt : Option Nat) (a n : Nat) (k : List Nat × Bool → Prog) : Prog :=
  loopP (fun i (x : List Nat × Bool) c => .act (.read tgt (a + 4096 * i) (min 4096 (n - 4096 * i))) (fun r => c (x.1 ++ r.bs, x.2 || r.bad)))
    (ceilDiv n 4096) 0 ([], false) k

/-- The list entries of a job; none for one whose list could not be read (assumption log 12). -/
def listP (d : Desc) (k : List (Option LEnt) → Prog) : Prog :=
  if !d.listed then k []
  else loopP (fun i (x : List (Option LEnt)) c =>
      let n := min 256 (d.count - 256 * i)
      .act (.read none (d.aux + 4096 * i) (16 * n)) (fun r =>
        c (x ++ (List.range n).map (fun j => if r.bad then none else some (readEnt ((r.bs.drop (16 * j)).take 16))))))
    (ceilDiv d.count 256) 0 [] k

/-- Source record `i` of a gathering job: its target and address. -/
def Desc.srcAt (d : Desc) (l : List (Option LEnt)) (i : Nat) : Option (Option Nat × Nat) :=
  if d.list then (l.getD i none).map (fun x => (x.eid, x.addr)) else some (none, stepAddr d.src (i * d.stride))

/-- Reads source record `i` of a gathering job; free and poisoned where its list entry is missing. -/
def readSrc (d : Desc) (l : List (Option LEnt)) (i : Nat) (k : Ans → Prog) : Prog :=
  match d.srcAt l i with
  | some x => .act (.read x.1 x.2 d.rsize) k
  | none => .act (.free d.rsize) k

def copyP (d : Desc) : Prog :=
  loopP (fun i (_ : Unit) c =>
      let n := min 4096 (d.count - 4096 * i)
      .act (.read none (d.src + 4096 * i) n) (fun r =>
        .act (.write none (d.dst + 4096 * i) r.bs r.bad) (fun _ => .mark (4096 * i + n) (4096 * i + n) (c ()))))
    (ceilDiv d.count 4096) 0 () (fun _ => .done jOK)

def gatherP (d : Desc) (l : List (Option LEnt)) : Prog :=
  loopP (fun i (_ : Unit) c =>
      readSrc d l i (fun r => .act (.write none (d.dst + i * d.rsize) r.bs r.bad) (fun _ => .mark (i + 1) ((i + 1) * d.rsize) (c ()))))
    d.count 0 () (fun _ => .done jOK)

/-- Destination of record `i` of a SCATTER. -/
def Desc.dstAt (d : Desc) (l : List (Option LEnt)) (i : Nat) : Option LEnt :=
  if d.list then l.getD i none else some ⟨stepAddr d.dst (i * d.stride), 0, none⟩

def scatterP (d : Desc) (l : List (Option LEnt)) : Prog :=
  loopP (fun i (_ : Unit) c =>
      .act (.read none (d.src + i * d.rsize) d.rsize) (fun r =>
        let next : Prog := .mark (i + 1) ((i + 1) * d.rsize) (c ())
        match d.dstAt l i with
        | none => next
        | some x => .act (.scat x.time x.eid x.addr r.bs r.bad (if d.bindEn then some (d.bind, i) else none)) (fun _ => next)))
    d.count 0 () (fun _ => .done jOK)

def reduceP (d : Desc) (l : List (Option LEnt)) : Prog :=
  loopP (fun i (x : List (List Nat) × Bool) c =>
      readSrc d l i (fun r => .mark (i + 1) ((i + 1) * d.rsize) (c (x.1 ++ [r.bs], x.2 || r.bad))))
    d.count 0 ([], false) (fun x =>
      .act (.free d.rsize) (fun f => .act (.write none d.dst (reduceVecs d d.rsize x.1 f.bs) x.2) (fun _ => .done jOK)))

/-- ALIGN with the instant T and the frame period it starts with (R213). -/
def alignP (d : Desc) (t : Int) (per : Nat) : Prog :=
  loopP (fun i (_ : Unit) c =>
      .act (.read none (d.src + i * d.rsize) d.rsize) (fun b =>
        .act (.read none (d.aux + i * d.rsize) d.rsize) (fun a =>
          let (out, clamped) := alignRec d t per a.bs b.bs
          let rest : Prog := .act (.write none (d.dst + i * d.rsize) out (a.bad || b.bad)) (fun _ =>
            .act (.write none (d.aux + i * d.rsize) b.bs b.bad) (fun _ => .mark (i + 1) ((i + 1) * d.rsize) (c ())))
          if clamped then .act .clamp (fun _ => rest) else rest)))
    d.count 0 () (fun _ => .done jOK)

/-- The end of a CHECK: its result, and MISMATCH where EXPECT finds another (R214). -/
def checkEnd (d : Desc) (x : List Nat × Bool) : Prog :=
  let (v, n, want) := if d.fn = 0 then (crc32c x.1, 4, d.param) else (crc64 x.1, 8, d.param + d.mask * 2 ^ 32)
  .act (.write none d.dst (leBytes n v) x.2) (fun _ => .done (if d.expect && v != want then jMISMATCH else jOK))

/-- CHECK runs over SRC, or over the list entries in order, RSIZE bytes each (assumption log 12). -/
def checkP (d : Desc) (l : List (Option LEnt)) : Prog :=
  if d.list then
    loopP (fun i (x : List Nat × Bool) c =>
        readSrc d l i (fun r => .mark (i + 1) ((i + 1) * d.rsize) (c (x.1 ++ r.bs, x.2 || r.bad))))
      d.count 0 ([], false) (checkEnd d)
  else
    loopP (fun i (x : List Nat × Bool) c =>
        let n := min 4096 (d.count - 4096 * i)
        .act (.read none (d.src + 4096 * i) n) (fun r => .mark (4096 * i + n) (4096 * i + n) (c (x.1 ++ r.bs, x.2 || r.bad))))
      (ceilDiv d.count 4096) 0 ([], false) (checkEnd d)

/-- LIMIT: `x` counts the violations so far (R215). -/
def limitP (d : Desc) (bounds : List Nat × Bool) : Prog :=
  loopP (fun i (x : Nat) c =>
      .act (.read none (d.src + i * d.rsize) d.rsize) (fun r =>
        let m := limitBitmap d r.bs bounds.1
        if m = 0 then .mark x ((i + 1) * d.rsize) (c x)
        else .act (.write none (d.dst + 8 * x) (leBytes 4 i ++ leBytes 4 m) (r.bad || bounds.2)) (fun _ =>
          .act .hit (fun _ =>
            let next : Prog := .mark (x + 1) ((i + 1) * d.rsize) (c (x + 1))
            if x = 0 ∧ d.param ≠ 0 then .act (.msg i) (fun _ => next) else next))))
    d.count 0 0 (fun x => .done (if x = 0 then jOK else jLIMIT))

/-- ATOMIC: each packet after the one before is answered; a record that could not be read names no operation (R216). -/
def atomicP (d : Desc) : Prog :=
  loopP (fun i (_ : Unit) c =>
      .act (.read none (d.src + 32 * i) 32) (fun r =>
        let w := elemOf 4 r.bs 2
        let op : Act := if r.bad then .free 8
          else .atomic (elemOf 8 r.bs 0) (bits w 0 4) (if bit w 4 then 8 else 4) (elemOf 8 r.bs 2) (elemOf 8 r.bs 3)
        .act op (fun o => .act (.write none (d.dst + 8 * i) o.bs (r.bad || o.bad)) (fun _ => .mark (i + 1) (32 * (i + 1)) (c ())))))
    d.count 0 () (fun _ => .done jOK)

/-- PLUME: WRITE_P packets of up to 4 KiB into plume space (R217). A COUNT that is no multiple of 4 sends its last dword whole
(assumption log 12). -/
def plumeP (d : Desc) : Prog :=
  let n := ceilDiv d.count 4 * 4
  loopP (fun i (_ : Unit) c =>
      let m := min 4096 (n - 4096 * i)
      .act (.read none (d.src + 4096 * i) m) (fun r =>
        let ps := pageParts (d.dst % 2 ^ 48 + 4096 * i) m
        loopP (fun j (_ : Unit) k =>
            let x := ps.getD j (0, 0)
            .act (.plume (x.1 % 2 ^ 48) ((r.bs.drop (x.1 - (d.dst % 2 ^ 48 + 4096 * i))).take x.2) r.bad) (fun _ => k ()))
          ps.length 0 () (fun _ => .mark (min d.count (4096 * i + m)) (4096 * i + m) (c ()))))
    (ceilDiv n 4096) 0 () (fun _ => .done jOK)

/-- The job of a descriptor that passes its rules, on queue `q`. A list that names local store for a basin, or a binding that cannot
carry the job, is a bad descriptor. -/
def jobProg (q : Nat) (d : Desc) (t : Int) (per : Nat) : Prog :=
  listP d (fun l =>
    if 2 ≤ q ∧ l.any (fun x => match x with | some y => isLs y.addr | none => false) then .done jBAD_DESC
    else match d.op with
    | 1 => copyP d
    | 2 => gatherP d l
    | 3 =>
      if d.bindEn then
        .act (.bindOk (l.all (fun x => match x with | some y => y.eid.isSome | none => true))) (fun r => if r.bad then .done jBAD_DESC else scatterP d l)
      else scatterP d l
    | 4 => reduceP d l
    | 5 => alignP d t per
    | 6 => checkP d l
    | 7 => readAll none d.aux (16 * (maskBits d.mask).length) (limitP d)
    | 8 => atomicP d
    | _ => plumeP d)

/-- Where a job stands after the answers it has had. -/
def Prog.go : Prog → List Ans → Prog
  | .act _ k, a :: r => (k a).go r
  | .mark n o k, l => match l with | [] => .mark n o k | a :: r => k.go (a :: r)
  | p, _ => p

end Sys2Proof.Machine
end

