-- ==== Sys2Proof/Machine/Cascade.lean ====
section
/-! DEFINITION. Job queues, the dispatcher, frame programs, publication, plume copies and the commands of the
cistern and cascade (R201 to R229, R324 to R329 where they touch an engine). -/

namespace Sys2Proof.Machine

/-! ### Engine states and queues -/

def ktIDLE : Nat := 0
def ktRUNNING : Nat := 1
def ktFAULTED : Nat := 2
def ktSUSPENDED : Nat := 3

def State.ktState (s : State) (e : Nat) : Nat := s.get (KT_STAT_STATE e)

/-- A pulse of the KT source for a program overrun or a LIMIT status (R221, Table 7-14; assumption log 5). -/
def State.ktEvent (s : State) : State :=
  if s.get (GLB_EVMAP_HPART 10) ≠ 0 then s.send (.msix (s.get (GLB_EVMAP_HPART 10)) (s.get (GLB_EVMAP_VEC 10))) else s

def State.queued (s : State) (e q : Nat) : List QJob := s.kt.queue.filter (fun j => j.e == e && j.q == q)

/-- Descriptor fetches of a ring under way. -/
def State.fetching (s : State) (b i : Nat) : Nat := ((s.req.accs ++ s.req.ready).filter (fun a => a.taker == .ring b i)).length

/-- The binding of a basin that names a queue, if any. -/
def State.bindOf (s : State) (b e q : Nat) : Option Nat :=
  (List.range 8).find? (fun i => s.on (BIND_CTL_EN b i) && s.get (BIND_CTL_ENG b i) == e && s.get (BIND_CTL_QUEUE b i) == q)

/-- Free slots of a queue. -/
def State.slotsFree (s : State) (e q : Nat) : Nat :=
  let b := s.get (KT_Q_BASIN_BASIN e q)
  let f := if 2 ≤ q then (match s.bindOf b e q with | some i => s.fetching b i | none => 0) else 0
  s.get (KT_Q_CFG_DEPTH e q) + 1 - (s.queued e q).length - f

def State.showFree (s : State) (e q : Nat) : State := s.put (KT_Q_STAT_FREE e q) (s.slotsFree e q)

def State.enqJob (s : State) (j : QJob) : State :=
  ({ s with kt := { s.kt with queue := s.kt.queue ++ [j] } }).showFree j.e j.q

/-- Is a packet a flushing read, which the NI answers itself once what came before it has been delivered (R241)? -/
def flushRead (p : Pkt) : Bool := p.kind == kREAD && p.len == 0

/-- Is a packet an access of the bank that it was delivered to (R232)? -/
def bankAccess (p : Pkt) : Bool :=
  match pktClass p with
  | 0 => p.kind != kJOB
  | 1 => !flushRead p
  | _ => false

/-- Does a packet wait for one that was delivered before it: an access for any earlier access of its bank (R232), and elsewhere
a packet for an earlier one of its flow that is posted or of its class (Table 8-1)? A job acts at an engine alone. -/
def actsAfter (t : Nat) (p q : Pkt) : Bool :=
  match tileUnit t with
  | .ct _ => bankAccess p && bankAccess q
  | .kt _ => !flushRead p && sameFlow q p && (pktClass q == 0 || pktClass q == pktClass p)
  | _ => !flushRead p && sameFlow q p && q.kind != kJOB && (pktClass q == 0 || pktClass q == pktClass p)

/-- The first packet at tile `t` in a list that satisfies a test, if it waits for none before it. -/
def firstFree (t : Nat) (f : Pkt → Bool) : List Pkt → List Pkt → Option Pkt
  | _, [] => none
  | before, p :: r => if f p then (if before.any (actsAfter t p) then none else some p) else firstFree t f (p :: before) r

/-- Takes the oldest packet that the NI of tile `t` delivered and that satisfies a test, in the order of delivery. -/
def State.takeArrived (s : State) (t : Nat) (f : Pkt → Bool) : Option Pkt × State :=
  match firstFree t f [] ((s.mesh.arrived.filter (fun x => x.1 == t)).map (·.2)) with
  | none => (none, s)
  | some p => (some p, { s with mesh := { s.mesh with arrived := dropFirst (fun y => y.1 == t && f y.2) s.mesh.arrived } })

/-! ### Completion records, counters and vectors (R208, R328, R329) -/

/-- The job context of a queue of an engine. -/
def ejOf (e q basin : Nat) : EJ := ⟨e, q, basin, none, false, 0⟩

/-- Writes a completion record. -/
def State.cplRecord (s : State) (c : EJ) (d : Desc) (jst pst done : Nat) : State :=
  if !d.cpl ∨ (2 ≤ c.q ∧ isLs d.cpla) then s
  else
    let bs := leBytes 8 d.cookie ++ leBytes 4 (jst + pst * 2 ^ 8 + c.e * 2 ^ 12 + c.q * 2 ^ 16) ++ leBytes 4 (done % 2 ^ 24)
    s.engWrite c none d.cpla bs false

/-- Sends a vector's write: 4 bytes of DATA to ADDR over the basin's host path, without PASID (R329). -/
def State.vecSend (s : State) (e b v : Nat) : State :=
  let c := ejOf e 2 b
  let a := s.rd64 (R_VEC_ADDR_LO b v)
  let (ok, s) := s.guardCheck (16 + e) .w false (c.who s kWRITE_P) [(a, 4)]
  if ok.isEmpty then s
  else
    let (g, s) := s.engOpen c
    let p := s.engPkt c kWRITE_P 0 0 1 (s.basinHost b) a false [BitVec.ofNat 32 (s.get (VEC_DATA_DATA b v))]
    s.inject c.tile p g

/-- Raises vector `v` of basin `b` by engine `e`. -/
def State.vecRaise (s : State) (e b v : Nat) : State :=
  if s.on (VEC_CTL_MASK b v) then s.put (VEC_CTL_PENDING b v) 1 else s.vecSend e b v

/-- A job of a binding has left its slot: CONS advances (R328). -/
def State.consume (s : State) (e q b : Nat) : State :=
  match s.bindOf b e q with
  | none => s
  | some i =>
    let s := s.put (BIND_CONS_CONS b i) (s.get (BIND_CONS_CONS b i) + 1)
    { s with bsn := { s.bsn with cons := if s.bsn.cons.contains b then s.bsn.cons else s.bsn.cons ++ [b] } }

/-- The engine that acts for a basin: that of its lowest enabled binding. -/
def State.basinEng (s : State) (b : Nat) : Option Nat :=
  ((List.range 8).find? (fun i => s.on (BIND_CTL_EN b i))).map (fun i => s.get (BIND_CTL_ENG b i))

/-- Writes `vs` as the eight counters to CONS_ADDR (R328, R332). -/
def State.consWrite (s : State) (e b : Nat) (vs : List Nat) : State :=
  s.engWrite (ejOf e 2 b) none (s.rd64 (R_BSN_CONS_ADDR_LO b)) (vs.flatMap (leBytes 4)) false

/-! ### Ring fetches (R325) -/

/-- Fetches descriptors of a ring while HEAD differs from TAIL and the queue has a free slot. -/
def State.ringFetch (b i : Nat) : Nat → State → State
  | 0, s => s
  | n + 1, s =>
    let e := s.get (BIND_CTL_ENG b i)
    let q := s.get (BIND_CTL_QUEUE b i)
    let (h, t) := (tget s.bsn.ring (b * 8 + i)).getD (0, 0)
    if h = t ∨ s.slotsFree e q = 0 ∨ !s.on (BIND_CTL_EN b i) then s
    else
      let len := 2 ^ s.get (BIND_CTL_RLOG b i)
      let c := ejOf e q b
      let a := s.rd64 (R_BIND_RING_LO b i) + 64 * h
      let s := { s with bsn := { s.bsn with ring := tset s.bsn.ring (b * 8 + i) ((h + 1) % len, t) } }
      let (ok, s) := s.guardCheck (16 + e) .r false (c.who s kREAD) (pageParts a 64)
      -- A descriptor that the guard keeps from the engine leaves its slot empty (assumption log 102).
      let s := if (ok.map (·.2)).sum < 64 then s.consume e q b
        else
          let (g, s) := (s.flowUse b e (s.basinHost b) 0).engOpen c
          let (id, s) := s.accOpen c.tile kREAD (List.replicate 16 0) (.ring b i)
          s.sendPart c.tile id (s.engPkt c kREAD 1 0 16 (s.basinHost b) a true []) false 0 g
      State.ringFetch b i n (s.showFree e q)

/-- A doorbell MSG of ring `i` records TAIL (R325). -/
def State.ringBell (s : State) (b i tail : Nat) : State :=
  let h := ((tget s.bsn.ring (b * 8 + i)).getD (0, 0)).1
  let len := 2 ^ s.get (BIND_CTL_RLOG b i)
  let s := { s with bsn := { s.bsn with ring := tset s.bsn.ring (b * 8 + i) (h, tail % len) } }
  State.ringFetch b i 1024 s

/-- A slot of a queue has become free. -/
def State.slotFreed (s : State) (e q : Nat) : State :=
  let b := s.get (KT_Q_BASIN_BASIN e q)
  let s := s.showFree e q
  if q < 2 then s
  else match s.bindOf b e q with
  | some i => if s.on (BIND_CTL_RING b i) then State.ringFetch b i 1024 s else s
  | none => s

/-- A descriptor of a ring has come: it takes its slot. A FAULTED engine answers it with RETIRED (R209); one that could not be
read leaves its slot empty (assumption log 102). -/
def State.ringJob (s : State) (b i : Nat) (a : MAcc) : State :=
  let e := s.get (BIND_CTL_ENG b i)
  let q := s.get (BIND_CTL_QUEUE b i)
  if a.status ≠ .ok then (s.consume e q b).slotFreed e q
  else if s.ktState e = ktFAULTED then ((s.cplRecord (ejOf e q b) (readDesc a.data) jRETIRED 0 0).consume e q b).slotFreed e q
  else s.enqJob ⟨e, q, a.data, b, s.get (BSN_CTL_GEN b)⟩

/-! ### Arrival of a job (R205, R209, R332) -/

def State.jobArrives (s : State) (e : Nat) (p : Pkt) : State :=
  let q := p.addr % 64
  let drop := s.count (C_KT_JOB_DROP e)
  if s.ktState e = ktFAULTED then s.cplRecord (ejOf e q p.basin) (readDesc p.data) jRETIRED 0 0
  else if !s.on (KT_Q_CFG_EN e q) ∨ q = 0 then drop
  else if q = 1 ∧ p.src ≠ tileEid s.node whTile then drop
  else if 2 ≤ q ∧ p.basin ≠ s.get (KT_Q_BASIN_BASIN e q) then drop
  else if 2 ≤ q ∧ p.gen ≠ s.get (KT_Q_BASIN_GEN e q) then (s.count (C_KT_STALE e)).count (C_BSN_STALE p.basin)
  else if s.slotsFree e q = 0 then drop.put (KT_ERR_QFULL e) 1
  else s.enqJob ⟨e, q, p.data, p.basin, p.gen⟩

/-- CASCADE_JOB: the KT NI of engine `e` takes the oldest job packet delivered to it. -/
def execCascadeJob (e : Nat) (s : State) : Out :=
  act s (if 12 ≤ e then s.smIgnored
    else match s.takeArrived (ktTile e) (fun p => p.kind == kJOB) with
    | (none, s) => s.smIgnored
    | (some p, s) => s.jobArrives e p)

/-- Engine `e` acts on a ring doorbell message (R325, R332): argument bits 11..0 hold TAIL, bits 14..12 the binding
(assumption log 14). -/
def State.ringMsg (s : State) (e : Nat) (p : Pkt) : State :=
  let arg := p.addr / 65536
  let b := p.basin
  let i := bits arg 12 3
  if p.gen ≠ s.get (BSN_CTL_GEN b) then (s.count (C_KT_STALE e)).count (C_BSN_STALE b)
  else if !s.on (BIND_CTL_EN b i) ∨ s.get (BIND_CTL_ENG b i) ≠ e ∨ !s.on (BIND_CTL_RING b i) then s
  else s.ringBell b i (bits arg 0 12)

/-- RING_DOORBELL_MSG (R325). -/
def execRingDoorbellMsg (e : Nat) (s : State) : Out :=
  act s (if 12 ≤ e then s.smIgnored
    else match s.takeArrived (ktTile e) (fun p => p.kind == kMSG && p.addr % 65536 == 0x0601) with
    | (none, s) => s.smIgnored
    | (some p, s) => s.ringMsg e p)

/-- A bank sets the bit a mark names (R334). -/
def State.dirtyMsg (s : State) (b : Nat) (p : Pkt) : State :=
  let k := bits (p.addr / 65536) 0 25
  let a := bankBase b + k / 8
  let r := s.bankWrite a [memByte s.cis.mem a ||| 2 ^ (k % 8)] false none
  r.2.doIf (r.1 == .locked) (·.count (C_CT_SEAL_DROP b))

/-- DIRTY_MARK (R334). -/
def execDirtyMark (b : Nat) (s : State) : Out :=
  act s (if 24 ≤ b then s.smIgnored
    else match s.takeArrived (ctTile b) (fun p => p.kind == kMSG && p.addr % 65536 == 0x0602) with
    | (none, s) => s.smIgnored
    | (some p, s) => s.dirtyMsg b p)

/-- CONS_WRITEBACK (R328). -/
def execConsWriteback (b : Nat) (s : State) : Out :=
  act s (match s.bsn.cons.contains b, s.basinEng b with
    | true, some e =>
      let s := { s with bsn := { s.bsn with cons := s.bsn.cons.filter (· ≠ b) } }
      s.consWrite e b ((List.range 8).map (fun i => s.get (BIND_CONS_CONS b i)))
    | _, _ => s.smIgnored)

/-! ### The dispatcher (R204) -/

/-- Operand bytes a job is charged (assumption log 12). -/
def Desc.cost (d : Desc) : Nat :=
  match d.op with
  | 1 | 9 => d.count
  | 6 => if d.list then d.count * d.rsize else d.count
  | 8 => 32 * d.count
  | _ => d.count * d.rsize

/-- Round credit of a queue. -/
def State.quantum (s : State) (e q : Nat) : Nat := 256 * max 1 (s.get (KT_Q_CFG_WEIGHT e q))

/-- The head job of a queue that may be served. -/
def State.headJob (s : State) (e q : Nat) : Option QJob := if s.on (KT_Q_CFG_EN e q) then (s.queued e q).head? else none

def State.deficit (s : State) (e q : Nat) : Nat := tgetD s.kt.deficit (e * 64 + q) 0
def State.setDeficit (s : State) (e q v : Nat) : State := { s with kt := { s.kt with deficit := tset s.kt.deficit (e * 64 + q) v } }

/-- Visits a queue needs before its head can be charged. -/
def State.visits (s : State) (e q : Nat) (j : QJob) : Nat := max 1 (ceilDiv ((readDesc j.desc).cost - s.deficit e q) (s.quantum e q))

/-- Chooses among queues 1 to 63 by deficit round-robin, with the deficits after the choice. -/
def State.pickDrr (s : State) (e : Nat) : Option QJob × State :=
  let q0 := tgetD s.kt.drrAt e 0
  let now := if q0 = 0 then none else (s.headJob e q0).filter (fun j => decide ((readDesc j.desc).cost ≤ s.deficit e q0))
  match now with
  | some j => (some j, s.setDeficit e q0 (s.deficit e q0 - (readDesc j.desc).cost))
  | none =>
    let order := (List.range 63).map (fun i => (q0 + i) % 63 + 1)
    let s := s.forEach order (fun q u => if (u.headJob e q).isNone then u.setDeficit e q 0 else u)
    let cand := order.filterMap (fun q => (s.headJob e q).map (fun j => (q, j, s.visits e q j)))
    match cand.foldl (fun (best : Option (Nat × QJob × Nat)) x =>
        match best with
        | none => some x
        | some b => if x.2.2 < b.2.2 then some x else best) none with
    | none => (none, s)
    | some (q, j, v) =>
      let before := (order.takeWhile (fun r => r != q))
      let s := s.forEach (cand.filter (fun x => x.1 != q)) (fun x u =>
        let n := if before.contains x.1 then v else v - 1
        u.setDeficit e x.1 (u.deficit e x.1 + n * u.quantum e x.1))
      let s := s.setDeficit e q (s.deficit e q + v * s.quantum e q - (readDesc j.desc).cost)
      (some j, { s with kt := { s.kt with drrAt := tset s.kt.drrAt e q } })

/-! ### SCATTER (R210, R171) -/

/-- Sends a record as stream `STREAM_BASE + r` of binding `w` (R171). Its window has not closed. -/
def State.streamSend (s : State) (c : EJ) (w r dest addr : Nat) (bs : List Nat) (bad : Bool) : State :=
  let b := strBase c.tile w
  let key := s.bindSeq c.e w + r
  let (ok, s) := s.guardCheck (16 + c.e) .w true (c.who s kWRITE_P) [(addr, bs.length)]
  if ok.isEmpty then s
  else
    let (g, s) := s.engOpen c
    let seq := tgetD s.sch.ktSeq key 0
    let s := { s with sch := { s.sch with
      ktSeq := tset s.sch.ktSeq key ((seq + 1) % 65536)
      ktAcc := tset s.sch.ktAcc key (tgetD s.sch.ktAcc key 0 + 1) } }
    let p : Pkt := { pkt0 kWRITE_P 7 3 (bs.length / 4) dest (tileEid s.node c.tile) (bytesWords bs) with
      addr := addr, priv := b2n c.priv, basin := c.basin, tag := s.get (STR_STREAM_STREAM b) + r, seq := seq, status := if bad then 4 else 0 }
    s.injectWrite c.tile p g

/-- A record of a SCATTER is due: its stream's checks (Table 6-4), or its write. -/
def State.scatSend (s : State) (x : ScatRec) : State :=
  match x.bind with
  | none => s.engWrite x.job x.eid x.addr x.data x.bad
  | some (w, r) =>
    let b := strBase x.job.tile w
    let key := s.bindSeq x.job.e w + r
    match s.streamCheck b (x.data.length / 4) (tgetD s.sch.ktAcc key 0) with
    | .discard => s.streamOver b true
    | .hold => { s with kt := { s.kt with scat := s.kt.scat ++ [{ x with at_ := s.get (STR_OPEN_NS b) }] } }
    | .forward => s.streamSend x.job w r (x.eid.getD 0) x.addr x.data x.bad

/-- May a SCATTER record be sent now: a posted write needs room (R211)? -/
def State.scatRoom (s : State) (x : ScatRec) : Bool := x.bind.isSome || s.postedRoom x.job.e x.data.length

/-- A record of a SCATTER waits for its TIME, or is sent (Table 7-6). -/
def State.scatAct (s : State) (x : ScatRec) : ActOut :=
  if x.at_ ≠ 0 ∧ s.tm.e < x.at_ then .ans ⟨[], .ok, false⟩ { s with kt := { s.kt with scat := s.kt.scat ++ [x] } }
  else if s.scatRoom x then .ans ⟨[], .ok, false⟩ (s.scatSend x) else .wait

/-- Sends one plume packet of a job (R217). -/
def State.plumeSend (s : State) (c : EJ) (d : Desc) (off : Nat) (bs : List Nat) (bad : Bool) : State :=
  let a := 0xFE * 2 ^ 56 + bits d.param 24 3 * 2 ^ 48 + off
  let (ok, s) := s.guardCheck (16 + c.e) .w false (c.who s kWRITE_P) [(a, bs.length)]
  s.forEach ok (fun x u =>
    let (g, u) := (u.flowUse c.basin c.e (d.param % 2 ^ 24) 0).engOpen c
    let data := bytesWords ((bs.drop (x.1 - a)).take x.2)
    u.inject c.tile { u.engPkt c kWRITE_P 0 0 data.length (d.param % 2 ^ 24) x.1 false data with status := if bad then 4 else 0 } g)

/-- The message of the first violation of a job (R215). -/
def State.limitMsg (s : State) (c : EJ) (d : Desc) (i : Nat) : State :=
  let p := s.engPkt c kMSG 0 0 0 (d.param % 2 ^ 24) (0x0C01 + i * 65536) false []
  let (ok, s) := s.guardMsg (16 + c.e) (c.who s kMSG) p.addr
  if ok then let (g, s) := s.engOpen c; s.inject c.tile p g else s

/-! ### A job goes on -/

/-- One action of a job. -/
def State.engAct (s : State) (c : EJ) (d : Desc) (a : Act) : ActOut :=
  let did (u : State) : ActOut := .ans ⟨[], .ok, false⟩ u
  match a with
  | .read tgt x n => s.engRead c tgt x n
  | .write tgt x bs bad => if (tgt = none ∧ c.q < 2 ∧ isLs x) ∨ s.postedRoom c.e bs.length then did (s.engWrite c tgt x bs bad) else .wait
  | .atomic x op size o1 o2 => s.engAtomic c x op size o1 o2
  | .scat time eid x bs bad bind => s.scatAct ⟨time, c, eid, x, bs, bad, bind⟩
  | .plume off bs bad => if s.postedRoom c.e bs.length then did (s.plumeSend c d off bs bad) else .wait
  | .msg i => did (s.limitMsg c d i)
  | .clamp => did (s.count (C_KT_ALIGN_CLAMP c.e))
  | .hit => did (s.count (C_KT_LIMIT_HIT c.e))
  | .bindOk eids =>
    let b := strBase (ktTile c.e) d.bind
    .ans ⟨[], .ok, !(s.on (STR_CTL_EN b) && decide (d.count ≤ s.get (STR_STREAM_COUNT b)) && eids)⟩ s
  | .free n => let (bs, s) := s.freeBytes n; .ans ⟨bs, .ok, true⟩ s

/-- What a finished access of a job answers. -/
def ansOf (a : Act) (m : MAcc) : Ans :=
  let n := match a with | .read _ _ n => n | _ => 8
  ⟨(wordsBytes m.data).take n, m.status, m.status != .ok⟩

/-- A job takes note of an answer, and of the first status that is not OK. -/
def RunJob.hear (r : RunJob) (x : Ans) : RunJob :=
  { r with log := r.log ++ [x], wait := none, pst := if r.pst = 0 then x.st.code else r.pst }

/-- Has a job come to the operand boundary at which it yields (R219)? -/
def RunJob.yields (r : RunJob) : Bool := match r.stop with | some b => decide (b ≤ r.ops) | none => false

/-- The status a job ends with: a failing packet makes it ACCESS (Table 7-5). -/
def RunJob.ends (r : RunJob) (j : Nat) : RunJob := { r with jst := some (if r.pst ≠ 0 ∧ j ≠ jBAD_DESC then jACCESS else j) }

/-- Takes the finished access `id`. -/
def State.takeReady (s : State) (id : Nat) : Option (MAcc × State) :=
  match s.req.ready.find? (fun a => a.id == id) with
  | none => none
  | some a => some (a, { s with req := { s.req with ready := s.req.ready.filter (fun x => x.id != id) } })

/-- A job goes on until an access is out or has to wait, it yields, or its accesses are all made. -/
def Prog.runOn (c : EJ) (d : Desc) : Prog → State → RunJob → State × RunJob
  | .done j, s, r => (s, r.ends j)
  | .mark n o k, s, r =>
    let r : RunJob := { r with fin := n, ops := o }
    if r.yields then (s, r) else k.runOn c d s r
  | .act a k, s, r =>
    match s.engAct c d a with
    | .wait => (s, r)
    | .ans x u => (k x).runOn c d u (r.hear x)
    | .out id u => match u.takeReady id with
      | some (m, v) => (k (ansOf a m)).runOn c d v (r.hear (ansOf a m))
      | none => (u, { r with wait := some id })

/-! ### Running a job (R204, R206 to R210) -/

def State.setRun (s : State) (e : Nat) (r : Option RunJob) : State :=
  let rest := s.kt.run.filter (fun x => x.e != e)
  { s with kt := { s.kt with run := match r with | none => rest | some x => rest ++ [x] } }

def State.runOf (s : State) (e : Nat) : Option RunJob := s.kt.run.find? (fun x => x.e == e)

/-- A program that waits between its jobs, or for its closing barrier. -/
def RunJob.waits (r : RunJob) : Bool := r.q == 0 && r.job.desc.isEmpty

/-- The context of a running job. -/
def State.ejRun (s : State) (r : RunJob) : EJ :=
  ⟨r.e, r.q, r.job.basin, if r.q = 0 then some r.fp else none, r.q == 0 && s.on (FP_CTL_ROLE r.e r.fp), r.id⟩

/-- Keeps what a running job has become; a bad descriptor shows in ERR. -/
def State.keepRun (x : State × RunJob) : State := (x.1.putIf (x.2.jst == some jBAD_DESC) (KT_ERR_BAD_DESC x.2.e) 1).setRun x.2.e (some x.2)

/-- The action that an outstanding access of a job stands for. -/
def Prog.pending : Prog → Act
  | .act a _ => a
  | _ => .clamp

/-- A running job goes on as far as it can: with the answer of its outstanding access, if it has one, and with its further
actions. -/
def State.engResume (s : State) (e : Nat) : State :=
  match s.runOf e with
  | none => s
  | some r =>
    if r.waits ∨ r.jst.isSome then s
    else
      let d := readDesc r.job.desc
      let p := jobProg r.q d r.t r.per
      match r.wait with
      | none => if r.yields then s else State.keepRun ((p.go r.log).runOn (s.ejRun r) d s r)
      | some id => match s.takeReady id with
        | none => s
        | some (m, s) =>
          let r := r.hear (ansOf (p.go r.log).pending m)
          State.keepRun ((p.go r.log).runOn (s.ejRun r) d s r)

/-- T of R213 for a job that starts now: the instant of the last tick plus PARAM; free where no tick has fired. -/
def State.alignTime (s : State) (d : Desc) : Int × State :=
  if d.op ≠ 5 then (0, s)
  else match s.tm.last with
  | some _ => (s.tm.lastNs + toSigned 32 d.param, s)
  | none => let (v, s) := s.free 64; (v, s)

/-- A job that an engine takes, before its first access. -/
def newRun (e q fp idx : Nat) (j : QJob) : RunJob := ⟨e, q, fp, idx, j, 0, [], none, 0, 0, 0, none, none, 0, 0⟩

/-- Starts a job on an engine. -/
def State.runJob (s : State) (e q fp idx : Nat) (j : QJob) : State :=
  let d := readDesc j.desc
  let (t, s) := s.alignTime d
  let r : RunJob := { newRun e q fp idx j with id := s.req.nextId, t := t, per := s.framePer }
  let s := { s with req := { s.req with nextId := s.req.nextId + 1 } }
  let s := ((s.put (KT_STAT_STATE e) ktRUNNING).put (KT_STAT_QUEUE e) q).put (KT_STAT_FP e) fp
  let c := s.ejRun r
  if s.descOk c d then State.keepRun ((jobProg q d r.t r.per).runOn c d s r) else State.keepRun (s, r.ends jBAD_DESC)

/-- Has the LOCAL barrier over an engine's accesses completed: nothing retained, held or outstanding, TC7 packets and the copies
of plume packets left out (R238, R240)? -/
def State.engQuiet (s : State) (e : Nat) : Bool :=
  let t := ktTile e
  let mine (p : Pkt) (g : Option (Nat × Nat)) : Bool := decide (p.tc < 7) && !isCopy s.node t p g
  !s.mesh.kept.any (fun k => k.tile == t && mine k.pkt k.guard) && !s.mesh.held.any (fun h => h.tile == t && mine h.pkt h.guard)
    && !s.req.ro.any (fun x => x.1 / 65536 == t && x.2.st == 1) && !s.req.roWait.any (fun w => w.tile == t)
    && !s.kt.scat.any (fun x => x.job.e == e && x.bind.isNone)

/-- Number of jobs of a program. -/
def State.fpCount (s : State) (e p : Nat) : Nat := let n := s.get (FP_CTL_COUNT e p); if n = 0 then 32 else n

/-- The job that program `p` runs at index `i`. -/
def State.fpJob (s : State) (e p i : Nat) : QJob :=
  ⟨e, 0, tgetD s.kt.prog (e * 256 + (s.get (FP_CTL_FIRST e p) + i) % 256) (List.replicate 16 0), 0, 0⟩

/-- What an engine without a job shows: SUSPENDED while the cascade is suspended (R372). -/
def State.restState (s : State) : Nat := if s.kt.stopped then ktSUSPENDED else ktIDLE

/-- Puts the engine in IDLE, or resumes the job that yielded (R219). -/
def State.engNext (s : State) (e : Nat) : State :=
  match s.kt.yielded.find? (fun x => x.e == e) with
  | some r =>
    if s.kt.due.any (fun k => k / 8 == e) then (s.setRun e none).put (KT_STAT_STATE e) s.restState
    else
      let s := { s with kt := { s.kt with yielded := s.kt.yielded.filter (fun x => x.e != e) } }
      (((s.setRun e (some { r with stop := none })).put (KT_STAT_STATE e) ktRUNNING).put (KT_STAT_QUEUE e) r.q).engResume e
  | none => (s.setRun e none).put (KT_STAT_STATE e) s.restState

/-- Starts a due program: a running job of another queue has yielded (R219). -/
def State.startProgram (s : State) (e k : Nat) : State :=
  let p := k % 8
  let yl := match s.runOf e with | some r => s.kt.yielded ++ [r] | none => s.kt.yielded
  let ran := if s.on (FP_CTL_TWIN e p) ∧ !s.kt.shRan.contains e then s.kt.shRan ++ [e] else s.kt.shRan
  let s := { s with kt := { s.kt with yielded := yl, due := s.kt.due.filter (· ≠ k), sig := tset s.kt.sig k sigInit, shRan := ran } }
  s.runJob e 0 p 0 (s.fpJob e p 0)

/-- May a program take the engine from a running job: the job has come to its boundary, or its accesses are all made (R219)? -/
def RunJob.gives (r : RunJob) : Bool := r.wait.isNone && (r.jst.isSome || r.yields)

/-- The dispatcher starts the next job of engine `e`. -/
def State.jobStart (s : State) (e : Nat) : State :=
  if !s.on (KT_CTL_EN e) ∨ s.ktState e = ktFAULTED ∨ s.kt.stopped then s.smIgnored
  else
    let due := s.kt.due.find? (fun k => k / 8 == e)
    match s.runOf e with
    | some r =>
      if r.q = 0 then
        (if r.waits ∧ r.idx < s.fpCount e r.fp ∧ s.engQuiet e then s.runJob e 0 r.fp r.idx (s.fpJob e r.fp r.idx) else s.smIgnored)
      else match due with
        | some k => if r.gives ∧ s.engQuiet e then s.startProgram e k else s.smIgnored
        | none => s.smIgnored
    | none => match due with
      | some k => if s.engQuiet e then s.startProgram e k else s.smIgnored
      | none =>
        let (pick, s') := s.pickDrr e
        match pick with
        | none => s.smIgnored
        | some j =>
          if (readDesc j.desc).order ∧ !s.engQuiet e then s.smIgnored
          else
            let s' := { s' with kt := { s'.kt with queue := dropFirst (fun x => x == j) s'.kt.queue } }
            let s' := (s'.doIf (decide (2 ≤ j.q)) (·.consume e j.q j.basin)).slotFreed e j.q
            s'.runJob e j.q 0 0 j

/-- JOB_START (R204). -/
def execJobStart (e : Nat) (s : State) : Out := act s (if 12 ≤ e then s.smIgnored else s.jobStart e)

/-! ### Completion (R208, R209, R220, R221) -/

/-- Drops the access of a job that is out: nothing further of it is issued, and what still comes is discarded (R221). -/
def State.dropAcc (s : State) (t id : Nat) : State :=
  let mine (o : Org) : Bool := match o with | .native a _ => a == id | .mirror a _ => a == id | _ => false
  let wait := s.req.roWait.filter (fun w => mine w.org)
  let es := s.req.ro.filter (fun x => x.1 / 65536 == t && x.2.st == 1 && mine x.2.org)
  let unsent (h : Held) : Bool := h.tile == t && pktClass h.pkt == 1 && es.any (fun x => x.1 % 65536 == h.pkt.tag && x.2.gen == h.pkt.gen)
  let hs := s.mesh.held.filter unsent
  let s := { s with
    req := { s.req with
      roWait := s.req.roWait.filter (fun w => !mine w.org)
      accs := s.req.accs.filter (fun a => a.id != id)
      ready := s.req.ready.filter (fun a => a.id != id) }
    mesh := { s.mesh with held := s.mesh.held.filter (fun h => !unsent h) } }
  let s := s.forEach wait (fun w u => u.guardRetire w.guard)
  s.forEach hs (fun h u => ((u.dropHeld h).roDone t h.pkt.tag).roNextWait t)

/-- A running job is dropped. -/
def State.dropJob (s : State) (r : RunJob) : State := match r.wait with | some id => s.dropAcc (ktTile r.e) id | none => s

/-- The status of a program so far: the first job status that is neither OK nor LIMIT, else LIMIT if any. -/
def fpWorst (a b : Nat) : Nat := if a ≠ jOK ∧ a ≠ jLIMIT then a else if b ≠ jOK then b else a

/-- A job completes with a status: its record, its counters, its vector. -/
def State.jobDone (s : State) (r : RunJob) (jst pst done : Nat) : State :=
  let d := readDesc r.job.desc
  let c := ejOf r.e r.q r.job.basin
  let s := (s.cplRecord c d jst pst done).count (C_KT_JOBS_DONE r.e)
  let s := s.doIf (jst == jLIMIT && s.on (KT_CTL_LIMIT_INT_EN r.e)) (·.ktEvent)
  if r.q < 2 then s
  else
    let s := s.count (C_BSN_JOBS r.job.basin)
    match d.int_, s.bindOf r.job.basin r.e r.q with
    | true, some i => s.vecRaise r.e r.job.basin (s.get (BIND_CTL_VEC r.job.basin i))
    | _, _ => s

/-- LAST.JSTATUS of a running program holds its status so far. -/
def State.fpNote (s : State) (e p idx jst : Nat) : State :=
  s.put (FP_LAST_JSTATUS e p) (if idx = 0 then jst else fpWorst (s.get (FP_LAST_JSTATUS e p)) jst)

def State.jobComplete (s : State) (e : Nat) : State :=
  match s.runOf e with
  | none => s.smIgnored
  | some r =>
    if r.waits ∨ s.kt.scat.any (fun x => x.job.e == e && x.job.id == r.id) ∨ s.ktState e ≠ ktRUNNING
        ∨ !s.postedRoom e 16 then s.smIgnored
    else match r.jst with
    | none => s.smIgnored
    | some jst =>
      let s := s.jobDone r jst r.pst r.fin
      if r.q = 0 then
        (s.fpNote e r.fp r.idx jst).setRun e (some (newRun e 0 r.fp (r.idx + 1) ⟨e, 0, [], 0, 0⟩))
      else s.engNext e

/-- JOB_COMPLETE (R208). -/
def execJobComplete (e : Nat) (s : State) : Out := act s (if 12 ≤ e then s.smIgnored else s.jobComplete e)

/-- The signature of a program as reported: the register after the final XOR (R214). -/
def State.sigOf (s : State) (k : Nat) : Nat := tgetD s.kt.sig k sigInit ^^^ (2 ^ 64 - 1)

def State.showSig (s : State) (e p : Nat) : State :=
  let g := s.sigOf (e * 8 + p)
  (s.put (FP_SIG_LO_SIG e p) g).put (FP_SIG_HI_SIG e p) (g / 2 ^ 32)

/-- A program's outcome as CX records it: 1 completed with OK or LIMIT, 2 overrun, 3 anything else (R225). -/
def fpOutcome (jst : Nat) : Nat := if jst = jOK ∨ jst = jLIMIT then 1 else if jst = jOVERRUN then 2 else 3

def State.setOutcome (s : State) (k o : Nat) : State := { s with kt := { s.kt with outcome := tset s.kt.outcome k o } }

/-- The MGMT report of a program to CX; the layout of its payload is the model's (assumption log 13). -/
def State.fpReport (s : State) (e p : Nat) : State :=
  let g := s.sigOf (e * 8 + p)
  let d := [p + e * 2 ^ 4 + s.get (FP_LAST_JSTATUS e p) * 2 ^ 8, g % 2 ^ 32, g / 2 ^ 32].map (BitVec.ofNat 32)
  s.inject (ktTile e) { pkt0 kMGMT 6 4 3 (tileEid s.node cxTile) (tileEid s.node (ktTile e)) d with addr := 0x10, priv := 1 } none

/-- The closing LOCAL barrier of a program has completed (R220). -/
def State.fpComplete (s : State) (e : Nat) : State :=
  match s.runOf e with
  | none => s.smIgnored
  | some r =>
    if !r.waits ∨ r.idx < s.fpCount e r.fp ∨ !s.engQuiet e then s.smIgnored
    else ((s.showSig e r.fp).fpReport e r.fp).engNext e

/-- FP_COMPLETE (R220). -/
def execFpComplete (e : Nat) (s : State) : Out := act s (if 12 ≤ e then s.smIgnored else s.fpComplete e)

/-- CX takes a program's report (MGMT code 0x0010, R220). -/
def State.takeReport (s : State) (p : Pkt) : State :=
  let w := (p.data.getD 0 0).toNat
  let k := bits w 4 4 * 8 + bits w 0 4 % 8
  if (tget s.kt.outcome k).isSome then s else s.setOutcome k (fpOutcome (bits w 8 8))

/-- Inserts a due program by START, then by number (R219). -/
def State.dueAdd (s : State) (e p : Nat) : State :=
  let key (k : Nat) : Nat := s.get (FP_START_NS (k / 8) (k % 8)) * 8 + k % 8
  let k := e * 8 + p
  let before := s.kt.due.filter (fun x => decide (key x ≤ key k))
  let after := s.kt.due.filter (fun x => decide (key k < key x))
  { s with kt := { s.kt with due := before ++ [k] ++ after } }

/-- A running job of another queue is to yield at its next 1 KiB operand boundary (R219). -/
def State.askYield (s : State) (e : Nat) : State :=
  match s.runOf e with
  | some r => if r.q = 0 ∨ r.stop.isSome then s else s.setRun e (some { r with stop := some ((r.ops / 1024 + 1) * 1024) })
  | none => s

/-- FP_START: at tick + START an enabled program enters queue 0 (R219, assumption log 3). -/
def execFpStart (e p : Nat) (s : State) : Out :=
  act s (if 12 ≤ e ∨ 8 ≤ p ∨ !s.ticking ∨ !s.on (FP_CTL_EN e p) ∨ s.tm.last.isNone ∨ s.get (FP_START_NS e p) < s.tm.e ∨ !s.reaches (s.get (FP_START_NS e p))
          ∨ s.kt.due.contains (e * 8 + p) ∨ (tget s.kt.outcome (e * 8 + p)).isSome then s.smIgnored
    else
      let s := s.reachE (s.get (FP_START_NS e p))
      if !s.on (KT_CTL_EN e) ∨ s.ktState e = ktFAULTED ∨ s.kt.stopped then s
      else (s.dueAdd e p).askYield e)

/-- Aborts the program of slot `p` as an overrun (R221): its running job completes with OVERRUN. -/
def State.fpAbort (s : State) (e p : Nat) : State :=
  let k := e * 8 + p
  let ovr (s : State) : State :=
    let s := ((s.put (FP_LAST_JSTATUS e p) jOVERRUN).setOutcome k 2).count (C_KT_OVERRUN e)
    s.doIf (s.on (KT_CTL_OVR_INT_EN e)) (·.ktEvent)
  if s.kt.due.contains k then ovr { s with kt := { s.kt with due := s.kt.due.filter (· ≠ k) } }
  else match s.runOf e with
  | none => s
  | some r =>
    if r.q ≠ 0 ∨ r.fp ≠ p then s
    else
      let s := { s with kt := { s.kt with scat := s.kt.scat.filter (fun x => x.job.e != e || x.job.q != 0) } }
      let s := s.doIf (!r.waits) (fun s => (s.dropJob r).jobDone r jOVERRUN r.pst r.fin)
      (((ovr s).showSig e p)).engNext e

/-- Is the program of a slot running or due? -/
def State.fpLive (s : State) (e p : Nat) : Bool :=
  s.kt.due.contains (e * 8 + p) || (match s.runOf e with | some r => r.q == 0 && r.fp == p | none => false)

/-- FP_WEIR_ABORT: at the next tick minus WEIR (R221). -/
def execFpWeirAbort (e p : Nat) (s : State) : Out :=
  act s (if 12 ≤ e ∨ 8 ≤ p ∨ !s.ticking ∨ !s.fpLive e p then s.smIgnored
    else (s.reachNs (s.nextTickNs - max 1 (s.get (FP_WEIR_NS e p))).toNat).fpAbort e p)

/-- An engine enters FAULTED (R209): the running job completes with FAULT, and queued jobs are answered RETIRED. -/
def State.engFault (s : State) (e code flags : Nat) : State :=
  let s := { s with kt := { s.kt with scat := s.kt.scat.filter (fun x => x.job.e != e) } }
  let runs := s.kt.run.filter (fun x => x.e == e) ++ s.kt.yielded.filter (fun x => x.e == e)
  let s := s.forEach runs (fun r u =>
    let u := u.dropJob r
    let u := u.doIf (!r.waits) (·.jobDone r jFAULT r.pst r.fin)
    if r.q = 0 then ((u.put (FP_LAST_JSTATUS e r.fp) jFAULT).setOutcome (e * 8 + r.fp) 3).showSig e r.fp else u)
  let jobs := s.kt.queue.filter (fun j => j.e == e)
  let s := { s with kt := { s.kt with
    run := s.kt.run.filter (fun x => x.e != e)
    yielded := s.kt.yielded.filter (fun x => x.e != e)
    due := s.kt.due.filter (fun k => k / 8 != e)
    queue := s.kt.queue.filter (fun j => j.e != e) } }
  let s := s.forEach jobs (fun j u => (u.cplRecord (ejOf e j.q j.basin) (readDesc j.desc) jRETIRED 0 0).showFree e j.q)
  let s := ((s.put (KT_STAT_STATE e) ktFAULTED).put (KT_ERR_FAULT e) 1).put (KT_ERR_FAULT_CODE e) code
  s.logFault 6 e code flags

/-- ENGINE_FAULT (R209): code 1 residue, 2 LS uncorrectable, 3 dispatcher. -/
def execEngineFault (e code : Nat) (s : State) : Out :=
  act s (if 12 ≤ e ∨ code = 0 ∨ 3 < code ∨ s.ktState e = ktFAULTED then s.smIgnored else s.engFault e code 0)

/-- The held SCATTER record of engine `e` that is due first. -/
def State.scatNext (s : State) (e : Nat) : Option ScatRec :=
  (s.kt.scat.filter (fun x => x.job.e == e)).foldl (fun (b : Option ScatRec) x =>
    match b with | none => some x | some y => if x.at_ < y.at_ then some x else b) none

/-- SCATTER_RECORD_TIME: the held record of engine `e` that is due first is sent at tick + TIME, or at once where that has passed
(R210). A posted write waits for room (R211). -/
def execScatterRecordTime (e : Nat) (s : State) : Out :=
  act s (match s.scatNext e with
    | none => s.smIgnored
    | some x =>
      if s.tm.e < x.at_ ∧ !s.reaches x.at_ then s.smIgnored
      else
        let s := if s.tm.e < x.at_ then s.reachE x.at_ else s
        if !s.scatRoom x then s
        else ({ s with kt := { s.kt with scat := dropFirst (fun y => y == x) s.kt.scat } }).scatSend { x with at_ := 0 })

/-! ### Snapshots and publication (R198 to R201, R225 to R227) -/

/-- SNAPSHOT_COMMIT: the commit reaches CX once receipts cover what its NI sent to the WORK0 bank (R199). -/
def execSnapshotCommit (n : Nat) (s : State) : Out :=
  act s (match s.cis.commits.find? (fun x => x.obj == n) with
    | none => s.smIgnored
    | some x =>
      if x.pend.any (fun i => s.mesh.kept.any (fun k => k.id == i) || s.mesh.held.any (fun h => h.id == i)) then s.smIgnored
      else ({ s with cis := { s.cis with commits := dropFirst (fun y => y == x) s.cis.commits } }).put (SNAP_STAT_READY n) 1)

/-- Enabled programs whose SNAP names object `n`: e × 8 + p. -/
def State.producers (s : State) (n : Nat) : List Nat :=
  (List.range 96).filter (fun k => s.on (FP_CTL_EN (k / 8) (k % 8)) && s.on (FP_CTL_SNAP_EN (k / 8) (k % 8)) && s.get (FP_CTL_SNAP (k / 8) (k % 8)) == n)

/-- A bit of SNAP_EVT. -/
def State.snapEvt (s : State) (n : Nat) : State := s.wr (R_SNAP_EVT (n / 32)) (s.rd (R_SNAP_EVT (n / 32)) ||| 2 ^ (n % 32))

def State.sigReg (s : State) (k : Nat) : Nat := s.get (FP_SIG_LO_SIG (k / 8) (k % 8)) + s.get (FP_SIG_HI_SIG (k / 8) (k % 8)) * 2 ^ 32

def State.shadowed (s : State) (k : Nat) : Bool := decide (0 < tgetD s.kt.shadow (k / 8) 0)

/-- The decision for an object: 0 nothing, 1 WORK0, 2 WORK1; its OUTCOME; the program whose signature the header
holds; whether Table 7-8 raises an event, and whether a SHADOW mismatch counts. A SHADOW primary publishes the
secondary's buffer on a mismatch (assumption log 15). -/
def State.decide_ (s : State) (n : Nat) : Nat × Nat × Nat × Bool × Bool :=
  let ok (k : Nat) : Bool := tgetD s.kt.outcome k 0 == 1 && s.ktState (k / 8) != ktFAULTED
  let ps := s.producers n
  if !s.on (SNAP_CTL_TWIN n) then
    match ps with
    | [] => (0, 0, 0, false, false)
    | k :: _ => if ps.all ok then (1, 0, k, false, false) else (0, 0, 0, false, false)
  else
    match ps.find? (fun k => !s.on (FP_CTL_ROLE (k / 8) (k % 8))), ps.find? (fun k => s.on (FP_CTL_ROLE (k / 8) (k % 8))) with
    | some a, some b =>
      if ok a && ok b then
        if s.sigReg a = s.sigReg b then (1, 0, a, false, false)
        else if s.shadowed b then (1, 0, a, false, true)
        else if s.shadowed a then (2, 0, b, false, true)
        else (0, 0, 0, true, false)
      else if ok a then (1, if s.shadowed b then 0 else 1, a, !s.shadowed b, false)
      else if ok b then (2, 1, b, true, false)
      else (0, 0, 0, true, false)
    | some a, none => if ok a then (1, 1, a, true, false) else (0, 0, 0, true, false)
    | none, some b => if ok b then (2, 1, b, true, false) else (0, 0, 0, true, false)
    | none, none => (0, 0, 0, true, false)

/-- The header of R201 written at offset 0 of a buffer; the bytes the rule does not give are free. -/
def State.writeHeader (s : State) (n buf outcome sig : Nat) : State :=
  let (f1, s) := s.freeBytes 8
  let (f2, s) := s.freeBytes 8
  let bs := leBytes 8 (s.tm.last.getD 0) ++ [outcome] ++ f1.take 7 ++ leBytes 8 sig ++ f2
  let a := s.snapBase n + buf * 2 ^ s.snapSize n
  match s.cisReal a none with
  | .at_ r copy part _ => s.forEach (s.writeCopies r copy part) (fun c u =>
      let (st, u) := u.bankWrite c bs false none
      let u := u.doIf (st == .locked) (·.count (C_CT_SEAL_DROP (bankOf c)))
      match part with
      | some q => u.doIf (st == .retired && copy.isSome) (·.loseCopy q (if c = r then 0 else 1))
      | none => u)
  | _ => s

/-- CX decides one PROGRAM-mode object (R225). -/
def State.decideObj (s : State) (n : Nat) : State :=
  if !s.snapOn n ∨ s.on (SNAP_CTL_MODE n) ∨ s.kt.decided.any (fun x => x.1 == n) then s
  else
    let (ch, oc, k, ev, diff) := s.decide_ n
    let s := (s.doIf ev (·.snapEvt n)).doIf diff (·.count (C_SNAP_SHADOW_DIFF n))
    let s := if ch = 0 then s
      else s.writeHeader n (if ch = 1 then s.get (SNAP_STAT_WORK0 n) else s.get (SNAP_STAT_WORK1 n)) oc (s.sigReg k)
    { s with kt := { s.kt with decided := s.kt.decided ++ [(n, ch, oc)] } }

/-- The smallest WEIR among an object's programs: the last of their weir instants, when every outcome is known, lies that long
before the next tick (assumption log 80). -/
def State.objWeir (s : State) (n : Nat) : Nat :=
  match (s.producers n).map (fun k => s.get (FP_WEIR_NS (k / 8) (k % 8))) with
  | [] => 0
  | w :: r => r.foldl min w

/-- PUBLICATION_DECISION: at the last weir instant of its programs CX decides object `n` (R225). A program still running then has
overrun (R221). -/
def execPublicationDecision (n : Nat) (s : State) : Out :=
  act s (if 64 ≤ n ∨ !s.ticking ∨ !s.snapOn n ∨ s.on (SNAP_CTL_MODE n) then s.smIgnored
    else
      let s := s.reachNs (s.nextTickNs - max 1 (s.objWeir n)).toNat
      let s := s.forEach ((s.producers n).filter (fun k => s.fpLive (k / 8) (k % 8))) (fun k u => u.fpAbort (k / 8) (k % 8))
      s.decideObj n)

/-- The roles rotate as a buffer is published (R198). -/
def State.rotate (s : State) (n ch : Nat) : State :=
  let w0 := s.get (SNAP_STAT_WORK0 n)
  let w1 := s.get (SNAP_STAT_WORK1 n)
  let pub := s.get (SNAP_STAT_PUB n)
  let prev := s.get (SNAP_STAT_PREV n)
  let s := ((s.put (SNAP_STAT_PUB n) (if ch = 1 then w0 else w1)).put (SNAP_STAT_PREV n) pub).put (SNAP_STAT_WORK0 n) prev
  if s.on (SNAP_CTL_TWIN n) then s.put (SNAP_STAT_WORK1 n) (if ch = 1 then w1 else w0) else s

/-- One object at order 2 of the tick `num` (R198, R199). -/
def State.publish (s : State) (n num : Nat) : State :=
  if !s.snapOn n then s
  else
    let ch := if s.on (SNAP_CTL_MODE n) then s.get (SNAP_STAT_READY n)
      else ((s.kt.decided.find? (fun x => x.1 == n)).map (·.2.1)).getD 0
    let s := s.put (SNAP_STAT_READY n) 0
    if ch = 0 then (s.put (SNAP_STAT_WITHHELD n) 1).count (C_SNAP_HELD n)
    else
      let s := ((s.rotate n ch).put (SNAP_STAT_WITHHELD n) 0).put (SNAP_PUB_FRAME_LO_FRAME n) num
      s.put (SNAP_PUB_FRAME_HI_FRAME n) (num / 2 ^ 32)

/-! ### Plume (R217, R218, R443) -/

/-- An NI makes one copy of a plume packet for each child of its group entry. -/
def State.plumeCopies (s : State) (t : Nat) (p : Pkt) : State :=
  let g := bits p.addr 48 3
  let b := plumeBase t g
  let n := s.get (PLUME_CTL_COUNT b)
  if p.tc = 7 ∨ !s.on (PLUME_CTL_EN b) ∨ n = 0 ∨ 28 < n ∨ bits p.addr 51 5 ≠ 0 then s.count (C_NI_PLUME_DROP (elimBase t))
  else
    let off := p.addr % 2 ^ 48
    let xl := s.rd64 (R_PLUME_XLAT_LO b)
    s.forEach (List.range n) (fun i u =>
      let d := u.get (PLUME_CHILD_EID b i)
      let a := if u.on (PLUME_CHILD_NODE b i) then 0xFE * 2 ^ 56 + u.get (PLUME_CHILD_GROUP b i) * 2 ^ 48 + off else (xl + off) % 2 ^ 64
      let c : Pkt := { pkt0 kWRITE_P p.tc (vnOf 0 p.tc) p.len d (tileEid u.node t) p.data with addr := a, priv := p.priv, basin := p.basin, pasid := p.pasid, status := p.status }
      if u.on (PLUME_CHILD_NODE b i) then u.injectOn t c none else u.injectWriteAs t true c none)

/-- PLUME_PACKET: the NI of tile `t` expands the oldest plume packet in its buffer. -/
def execPlumePacket (t : Nat) (s : State) : Out :=
  act s (match s.kt.plume.find? (fun x => x.1 == t) with
    | none => s.smIgnored
    | some x => ({ s with kt := { s.kt with plume := dropFirst (fun y => y.1 == t) s.kt.plume } }).plumeCopies t x.2)

/-- A node of a PLUME_SET body: tile, group, XLAT and child words. -/
abbrev PlumeNode := Nat × Nat × Nat × List Nat

/-- The child nodes (tile, group) of a node. -/
def kidsOf (x : PlumeNode) : List (Nat × Nat) :=
  (x.2.2.2.filter (fun w => bit w 24)).map (fun w => (eidPort (bits w 0 24) % 64, bits w 25 3))

/-- The nodes of a tree level by level from a list of nodes; none where a child node is missing. -/
def plumeWalk (body : List PlumeNode) : Nat → List PlumeNode → Option (List PlumeNode)
  | 0, l => if l.isEmpty then some [] else none
  | n + 1, l =>
    let kids := l.flatMap kidsOf
    let found := kids.map (fun k => body.find? (fun x => x.1 == k.1 && x.2.1 == k.2))
    if found.any (·.isNone) then none
    else (plumeWalk body n (found.filterMap id)).map (l ++ ·)

/-- Does a tree obey R218? -/
def State.plumeOk (s : State) (g : Nat) (body : List PlumeNode) : Bool :=
  match body.head? with
  | none => false
  | some root =>
    match plumeWalk body 3 [root] with
    | none => false
    | some nodes =>
      let leaves := nodes.flatMap (fun x => (x.2.2.2.filter (fun w => !bit w 24)).map (fun w => (w, x.2.2.1)))
      root.2.1 == g && decide ((nodes.map (·.1)).Nodup) && nodes.length == body.length
        && nodes.all (fun x => plumeTile x.1 && decide (x.2.1 < 8 ∧ 1 ≤ x.2.2.2.length ∧ x.2.2.2.length ≤ 28) && x.2.2.1 % 4 == 0
              && decide (x.2.2.1 < 2 ^ 64)
              && (x.2.2.2.filter (fun w => bit w 24)).all (fun w => eidNode (bits w 0 24) == s.node && eidSub (bits w 0 24) == 31))
        && decide (leaves.length ≤ 64) && leaves.all (fun l => l.2 / 2 ^ 56 != 0xFE)

def State.plumeLoad (s : State) (x : PlumeNode) : State :=
  let b := plumeBase x.1 x.2.1
  let s := ((s.wr (R_PLUME_XLAT_LO b) x.2.2.1).wr (R_PLUME_XLAT_HI b) (x.2.2.1 / 2 ^ 32))
  let s := s.forEach (x.2.2.2.zipIdx) (fun w u => u.wr (R_PLUME_CHILD b w.2) (w.1 % 2 ^ 28))
  (s.put (PLUME_CTL_COUNT b) x.2.2.2.length).put (PLUME_CTL_EN b) 1

/-- PLUME_SET (R218): the first node of the body is the root. -/
def execPlumeSet (mb g : Nat) (body : List PlumeNode) (s : State) : Out :=
  act s (s.runCmd mb 0x0506 (fun _ s =>
    if 8 ≤ g ∨ !s.plumeOk g body then s.refuse mb 0 0 else (s.forEach body (fun x u => u.plumeLoad x)).ok mb []))

/-! ### Commands (Table 7-15) -/

/-- KT_QUEUE_SET (R204, R229). -/
def execKtQueueSet (mb e q cfg basin : Nat) (s : State) : Out :=
  act s (s.runCmd mb 0x0501 (fun _ s =>
    if 12 ≤ e ∨ 64 ≤ q ∨ 2 ^ 29 ≤ cfg ∨ 2 ^ 18 ≤ basin ∨ 1024 < bits cfg 1 10 + bits cfg 11 10 + 1 then s.refuse mb 0 0
    else (((s.wr (R_KT_Q_CFG e q) cfg).wr (R_KT_Q_BASIN e q) basin).showFree e q).ok mb []))

/-- W_min by performance level (Table 7-7). -/
def wMin (pl : Nat) : Nat := [223, 253, 319, 537].getD pl 537

/-- The first case of R223 that a program meets; 0 if none. A partner slot that has never been loaded differs in nothing
(assumption log 103). -/
def State.fpFail (s : State) (e p pl ctl start weir est : Nat) (descs : List (List Word)) : Nat :=
  let late (per : Nat) : Bool := decide (per < start + est + weir)
  let pe := bits ctl 4 4
  let fp := s.get (FP_CTL_FIRST pe p)
  let loaded := (tget s.kt.fpPl (pe * 8 + p)).isSome || s.rd (R_FP_CTL pe p) != 0
  let twinBad := bit ctl 1 && decide (pe < 12) && loaded &&
    (s.get (FP_CTL_SNAP pe p) != bits ctl 8 6 || s.fpCount pe p != descs.length ||
      (List.range descs.length).any (fun i => tgetD s.kt.prog (pe * 256 + (fp + i) % 256) (List.replicate 16 0) != descs.getD i []))
  if late s.framePer || (s.tm.swS.isSome && late s.nextPer) then 1
  else if weir < wMin pl then 2
  else if descs.any (fun d => d.length != 16 || !s.descOk ⟨e, 0, 0, some p, bit ctl 2, 0⟩ (readDesc d)) then 3
  else if twinBad then 4
  else 0

/-- FP_LOAD (R223): a program goes into a free slot with EN clear. -/
def execFpLoad (mb e p pl ctl start weir est : Nat) (descs : List (List Word)) (s : State) : Out :=
  act s (s.runCmd mb 0x0502 (fun _ s =>
    let n := let c := bits ctl 22 5; if c = 0 then 32 else c
    if 12 ≤ e ∨ 8 ≤ p ∨ 4 ≤ pl ∨ 2 ^ 27 ≤ ctl ∨ 2 ^ 22 ≤ start ∨ 2 ^ 22 ≤ weir ∨ 2 ^ 22 ≤ est ∨ descs.length ≠ n
        ∨ 256 < bits ctl 14 8 + n ∨ (bit ctl 1 ∧ 12 ≤ bits ctl 4 4) then s.refuse mb 0 0
    else if s.on (FP_CTL_EN e p) then s.busy mb 0
    else
      let f := s.fpFail e p pl ctl start weir est descs
      if f ≠ 0 then s.refuse mb f 0
      else
        let s := s.forEach descs.zipIdx (fun d u => { u with kt := { u.kt with prog := tset u.kt.prog (e * 256 + bits ctl 14 8 + d.2) d.1 } })
        let s := { s with kt := { s.kt with fpPl := tset s.kt.fpPl (e * 8 + p) pl } }
        let s := (((s.wr (R_FP_CTL e p) (ctl / 2 * 2)).wr (R_FP_START e p) start).wr (R_FP_WEIR e p) weir).wr (R_FP_EST e p) est
        s.ok mb []))

/-- FP_SWAP (R224): slots are named e × 8 + p. -/
def execFpSwap (mb : Nat) (on_ off_ : List Nat) (frame : Nat) (s : State) : Out :=
  act s (s.runCmd mb 0x0503 (fun _ s =>
    match (on_ ++ off_).findIdx? (fun k => decide (96 ≤ k)) with
    | some i => s.refuse mb 0 i
    | none =>
      if s.fired frame ∨ s.kt.swap.isSome then ({ s with kt := { s.kt with swapBad := true } }).refuse mb 0 0
      else ({ s with kt := { s.kt with swap := some ⟨on_, off_, frame⟩ } }).ok mb []))

/-- The named slots change together at order 4 of tick `num` (R224). -/
def State.fpSwapApply (s : State) (num : Nat) : State :=
  match s.kt.swap with
  | none => s
  | some w =>
    if w.s ≤ num then
      let s := s.forEach w.off_ (fun k u => u.put (FP_CTL_EN (k / 8) (k % 8)) 0)
      let s := s.forEach w.on_ (fun k u => u.put (FP_CTL_EN (k / 8) (k % 8)) 1)
      ({ s with kt := { s.kt with swap := none } }).showLimits
    else s

/-- Does a program name object `n`, enabled or not (Table 7-15)? -/
def State.named (s : State) (n : Nat) : Bool :=
  (List.range 96).any (fun k => s.on (FP_CTL_SNAP_EN (k / 8) (k % 8)) && s.get (FP_CTL_SNAP (k / 8) (k % 8)) == n)

/-- SNAP_SET (R196, R229): BUSY while a program names the object; LOCKED under the SNAP lock group. -/
def execSnapSet (mb n base ctl : Nat) (s : State) : Out :=
  act s (s.runCmd mb 0x0504 (fun _ s =>
    if 64 ≤ n ∨ 0x6000000 ≤ base ∨ 256 ≤ ctl ∨ bits ctl 3 5 < 12 ∨ 20 < bits ctl 3 5 ∨ base % 2 ^ bits ctl 3 5 ≠ 0 then s.refuse mb 0 0
    else if bit (s.get SC_LOCK_GROUPS) 5 ∧ s.rd (R_SNAP_BASE n) ≠ base then s.lockedMb mb 0
    else if s.named n then s.busy mb 0
    else ((s.wr (R_SNAP_BASE n) base).wr (R_SNAP_CTL n) ctl).ok mb []))

/-- KT_RESET (R209, R226): IDLE, LS cleared, twin programs SHADOW for two frames. -/
def State.ktReset (s : State) (e : Nat) : State :=
  let ids := (s.kt.run ++ s.kt.yielded).filter (fun x => x.e == e)
  let s := s.forEach ids (fun r u => u.dropJob r)
  let s := { s with kt := { s.kt with
    run := s.kt.run.filter (fun x => x.e != e)
    yielded := s.kt.yielded.filter (fun x => x.e != e)
    scat := s.kt.scat.filter (fun x => x.job.e != e)
    ls := s.kt.ls.filter (fun c => c.1 / 0x40000 != e)
    lsBad := s.kt.lsBad.filter (fun w => w / 0x8000 != e)
    shadow := tset s.kt.shadow e 2
    shRan := s.kt.shRan.filter (· ≠ e) } }
  s.put (KT_STAT_STATE e) s.restState

def execKtReset (mb e : Nat) (s : State) : Out :=
  act s (s.runCmd mb 0x0505 (fun _ s => if 12 ≤ e then s.refuse mb 0 0 else (s.ktReset e).ok mb []))

/-- KT_QUERY returns STAT, ERR, queue levels and program outcomes. -/
def execKtQuery (mb e : Nat) (s : State) : Out :=
  act s (s.runCmd mb 0x050A (fun _ s =>
    if 12 ≤ e then s.refuse mb 0 0
    else s.okQuery mb ([s.rd (R_KT_STAT e), s.rd (R_KT_ERR e)] ++ (List.range 64).map (fun q => s.rd (R_KT_Q_STAT e q))
      ++ (List.range 8).map (fun p => s.rd (R_FP_LAST e p)))))

/-- A partition other than `n` that a range of 64 KiB units meets, in its own range or in its copy; one of size 0 has none. -/
def State.partMeets (s : State) (n base units : Nat) : Option Nat :=
  (List.range 32).find? (fun m =>
    let len := s.get (PART_SIZE_UNITS m) * 65536
    m != n && len != 0 && (rangesMeet base (units * 65536) (s.partBase m) len
      || (s.mirrorOf m != 0 && rangesMeet base (units * 65536) (s.partBase m + s.mirrorOf m) len)))

/-- PART_SET (R190, R192, R194): refused whether or not it enables the partition; DETAIL names it. -/
def execPartSet (mb n base units ctl : Nat) (s : State) : Out :=
  act s (s.runCmd mb 0x0507 (fun _ s =>
    let m := bits ctl 4 5
    let len := units * 65536
    if 32 ≤ n ∨ base % 65536 ≠ 0 ∨ 2 ^ 27 ≤ base ∨ units = 0 ∨ 1536 < units ∨ 512 ≤ ctl ∨ 6 < bits ctl 1 3 then s.refuse mb 0 0
    else if s.on (PART_CTL_SEAL n) ∨ bit (s.get SC_LOCK_GROUPS) 4 then s.lockedMb mb n
    else if (s.partMeets n base units).isSome then s.refuse mb 1 n
    else if cisEnd < base + len then s.refuse mb 2 n
    else if m ≠ 0 ∧ (24 ≤ m ∨ cisEnd < base + m * 0x400000 + len ∨ (s.partMeets n (base + m * 0x400000) units).isSome
          ∨ rangesMeet base len (base + m * 0x400000) len) then s.refuse mb 3 n
    else (((s.wr (R_PART_BASE n) base).wr (R_PART_SIZE n) units).wr (R_PART_CTL n) ctl).ok mb []))

/-- PART_SEAL (R194). -/
def execPartSeal (mb n : Nat) (s : State) : Out :=
  act s (s.runCmd mb 0x0508 (fun _ s => if 32 ≤ n then s.refuse mb 0 0 else (s.put (PART_CTL_SEAL n) 1).ok mb []))

/-- Copies a range of the cistern with its poison (R192). -/
def State.cisCopy (s : State) (src dst n : Nat) : State :=
  let s := s.cisClear dst n
  let moved := (s.cis.mem.filter (fun c => decide (src ≤ c.1 ∧ c.1 < src + n))).foldl (fun m c => tset m (c.1 - src + dst) c.2) s.cis.mem
  let inDst (w : Nat) : Bool := decide (dst / 8 ≤ w ∧ w < (dst + n) / 8)
  let pz := s.cis.poison.filter (fun e => !inDst e.1)
  let pz := (s.cis.poison.filter (fun e => decide (src / 8 ≤ e.1 ∧ e.1 < (src + n) / 8))).foldl (fun m e => tset m (e.1 - src / 8 + dst / 8) 2) pz
  let sf := s.cis.soft.filter (fun e => !inDst e.1)
  { s with cis := { s.cis with mem := moved, poison := pz, soft := sf } }

/-- PART_RESYNC (R192). -/
def execPartResync (mb n : Nat) (s : State) : Out :=
  act s (s.runCmd mb 0x0509 (fun _ s =>
    if 32 ≤ n ∨ !s.on (PART_STAT_DEGRADED n) ∨ s.mirrorOf n = 0 then s.refuse mb 0 0
    else
      let pri := s.partBase n
      let cpy := pri + s.mirrorOf n
      let len := s.partEnd n - pri
      let (src, dst) := if s.on (PART_STAT_LOST n) then (pri, cpy) else (cpy, pri)
      let banks := (List.range 24).filter (fun b => rangesMeet dst len (bankBase b) 0x400000)
      if banks.any (fun b => s.bankRetired b) then s.busy mb n
      else (((s.cisCopy src dst len).put (PART_STAT_DEGRADED n) 0).put (PART_STAT_LOST n) 0).ok mb []))

/-! ### Trace rings (R181) -/

/-- The TL NI appends a record to ring `r`. -/
def State.traceAppend (s : State) (r : Nat) (p : Pkt) : State :=
  let sz := clampN 12 24 (s.get (TL_CTL_SIZE r))
  let wr := s.get (TL_WR_OFFSET r)
  let full := decide ((wr + 64) % 2 ^ sz = s.get (TL_RD_OFFSET r))
  if !s.ringOn r then s
  else if full && s.on (TL_CTL_MODE r) then s.count (C_TL_DROP r)
  else
    let a := s.rd64 (R_TL_BASE_LO r) + wr
    let s := s.unitWrite tlTile a (((wordsBytes p.data) ++ List.replicate 64 0).take 64)
    s.put (TL_WR_OFFSET r) ((wr + 64) % 2 ^ sz)

/-- The TL NI acts on a telemetry message; the argument names the ring. -/
def State.traceMsg (s : State) (p : Pkt) : State := if 16 ≤ p.addr / 65536 then s else s.traceAppend (p.addr / 65536) p

/-- TRACE_RECORD: the TL NI takes the oldest record delivered to it. -/
def execTraceRecord (s : State) : Out :=
  act s (match s.takeArrived tlTile (fun p => p.kind == kMSG && p.addr % 65536 == telCode) with
    | (none, s) => s.smIgnored
    | (some p, s) => s.traceMsg p)

end Sys2Proof.Machine
end

