-- ==== Sys2Proof/Machine/Basins.lean ====
section
/-! DEFINITION. Basins: the lookup map, the doorbell page, and the basin commands (R322 to R336). -/

namespace Sys2Proof.Machine

def bFREE : Nat := 0
def bACTIVE : Nat := 1
def bRESETTING : Nat := 2
def bDESTROYING : Nat := 3

def State.basinSt (s : State) (b : Nat) : Nat := s.get (BSN_CTL_STATE b)

/-! ### Lookup (R323) -/

/-- The basin that a request of partition `h` names. -/
def State.basinOf (s : State) (h rid : Nat) (pasid : Option Nat) : Option Nat :=
  let mine : List MapEnt := s.bsn.map.filter (fun (e : MapEnt) => e.hpart == h && e.rid == rid)
  let exact := match pasid with | none => none | some p => mine.find? (fun (e : MapEnt) => !e.any && e.pasid == p)
  match exact with
  | some e => some e.basin
  | none => (mine.find? (fun (e : MapEnt) => e.any)).map (fun (e : MapEnt) => e.basin)

/-! ### The doorbell page (R324) -/

/-- A write of `n` dwords to the doorbell aperture at a TLP address: dropped, or the packet it becomes, with the
engine whose KT tile it goes to. -/
def State.bellPkt (s : State) (p h rid : Nat) (pasid : Option Nat) (ptc a : Nat) (data : List Word) : Option Pkt :=
  let b := a / 4096 % 1024
  let o := a % 4096
  let open_ := s.basinOf h rid pasid == some b && s.basinSt b == bACTIVE && s.get (BSN_CTL_HPART b) == h && b != 0
  if !open_ then none
  else
    let mk (kind i addr : Nat) (d : List Word) : Pkt :=
      let tc := s.tcMap p ptc
      { pkt0 kind tc (vnOf 0 tc) d.length (tileEid s.node (ktTile (s.get (BIND_CTL_ENG b i)))) (s.viewEid p h) d with
        addr := addr, gen := s.get (BSN_CTL_GEN b), basin := b }
    if o < 0x200 then
      let i := o / 64
      if o % 64 = 0 ∧ data.length = 16 ∧ s.on (BIND_CTL_EN b i) ∧ !s.on (BIND_CTL_RING b i) then
        some (mk kJOB i (s.get (BIND_CTL_QUEUE b i)) data)
      else none
    else if 0x800 ≤ o ∧ o < 0x820 then
      let i := (o - 0x800) / 4
      if o % 4 = 0 ∧ data.length = 1 ∧ s.on (BIND_CTL_EN b i) ∧ s.on (BIND_CTL_RING b i) then
        some (mk kMSG i (0x0601 + (bits (data.getD 0 0).toNat 0 12 + i * 2 ^ 12) * 65536) [])
      else none
    else none

/-- A write of the doorbell aperture that guard `n` has passed as access `k`: is it accepted, and the state after
(R324). -/
def State.bellWrite (s : State) (n k p h rid : Nat) (pasid : Option Nat) (ptc a : Nat) (data : List Word) : Bool × State :=
  let b := a / 4096 % 1024
  match s.bellPkt p h rid pasid ptc a data with
  | none => (false, if b ≠ 0 ∧ s.basinSt b ≠ bFREE then s.count (C_DB_DROP b) else s.cfgBusy)
  | some m => (true, (s.guardOpen n k true).inject (ptTile n) m (some (n, k)))

/-! ### What an agent has outstanding (R238, R240, Table 8-3) -/

/-- Is a packet an access of a barrier's agent: of the tile, or of one port and partition (R307)? -/
def ofAgent (v : Option (Nat × Nat × Nat)) (p : Pkt) : Bool :=
  match v with
  | none => true
  | some (port, h, _) => eidPort p.src == port && eidSub p.src == (if h = 0 then 0 else h + 1)

/-- Key of a retained packet: its number, which a resend on the other plane keeps (R246). -/
def keptKey (k : Kept) : Nat := k.id

/-- Does a LOCAL barrier wait for a posted packet of the NI: not a TC7 packet, not a copy of a plume packet (R238)? -/
def State.waitsFor (s : State) (t : Nat) (v : Option (Nat × Nat × Nat)) (p : Pkt) (g : Option (Nat × Nat)) : Bool :=
  ofAgent v p && decide (p.tc < 6) && pktClass p == 0 && !isCopy s.node t p g

/-- The number by which a barrier knows a request, beside the numbers of packets. -/
def reqNum (n : Nat) : Nat := 2 ^ 40 + n

/-- The agent's accesses that are not complete: posted packets retained or held, and requests outstanding or waiting for an
entry (Table 8-3). -/
def State.outNow (s : State) (t : Nat) (v : Option (Nat × Nat × Nat)) : List Nat :=
  ((s.mesh.kept.filter (fun k => k.tile == t && s.waitsFor t v k.pkt k.guard)).map keptKey)
    ++ ((s.mesh.held.filter (fun h => h.tile == t && s.waitsFor t v h.pkt h.guard)).map (·.id))
    ++ ((s.req.ro.filter (fun x => x.1 / 65536 == t && x.2.st == 1 && ofAgent v x.2.req)).map (fun x => reqNum x.2.num))
    ++ ((s.req.roWait.filter (fun w => w.tile == t && ofAgent v w.req)).map (fun w => reqNum w.num))

/-- Has everything a barrier waits for completed? -/
def State.outDone (s : State) (t : Nat) (v : Option (Nat × Nat × Nat)) (pend : List Nat) : Bool :=
  let now := s.outNow t v
  pend.all (fun k => !now.contains k)

/-! ### Flushes (R240, R332) -/

/-- Starts a flush: one flushing read per flow (tile, SRC_EID, DEST_EID, TC); its number. -/
def State.startFlush (s : State) (fl : List (Nat × Nat × Nat × Nat)) : Nat × State :=
  let id := s.ord.nextFlush
  let s := { s with ord := { s.ord with nextFlush := id + 1, flushes := s.ord.flushes ++ [(⟨id, fl.length, .ok⟩ : Flush)] } }
  (id, s.forEach fl (fun f u =>
    u.request f.1 (.flush id) { pkt0 kREAD f.2.2.2 (vnOf 1 f.2.2.2) 0 f.2.2.1 f.2.1 [] with priv := 1 } none 1))

/-- The flow of an engine towards a destination. -/
def State.engFlow (s : State) (e dest tc : Nat) : Nat × Nat × Nat × Nat := (ktTile e, tileEid s.node (ktTile e), dest, tc)

def State.flushOf (s : State) (id : Nat) : Option Flush := s.ord.flushes.find? (fun f => f.id == id)

def State.endFlush (s : State) (id : Nat) : State := { s with ord := { s.ord with
  flushes := s.ord.flushes.filter (fun f => f.id != id)
  locs := s.ord.locs.filter (fun x => x.1 != id) } }

/-- The LOCAL barrier of an engine that belongs to flush `id` begins; one with nothing to wait for is over at once. -/
def State.locOpen (s : State) (id e : Nat) : State :=
  let pend := s.outNow (ktTile e) none
  if pend.isEmpty then s else { s with ord := { s.ord with locs := s.ord.locs ++ [(id, ktTile e, pend)] } }

/-- A LOCAL barrier and a remote flush of the engines of the flows `fl` (R332, R335): the number of the flush. -/
def State.engFlush (s : State) (engs : List Nat) (fl : List (Nat × Nat × Nat × Nat)) : Nat × State :=
  let id := s.ord.nextFlush
  let s := s.forEach engs (fun e u => u.locOpen id e)
  s.startFlush fl

/-! ### Entitlement and states (R330, R331) -/

/-- May the issuer create, reset and destroy basins (R331)? -/
def State.basinIssuer (s : State) (c : OpenCmd) : Bool :=
  c.issuer == 1 || (decide (0x20 < c.issuer) && s.on (GLB_HPART_CTL_PRIV (c.issuer - 0x20)))

/-- Is a command running on a basin? -/
def State.basinBusy (s : State) (b : Nat) : Bool := s.bsn.wait.any (fun w => w.1 == b)

/-- Runs a basin command that needs an ACTIVE basin and, if `own`, an entitled issuer (reason 1). -/
def State.basinCmd (s : State) (mb op b : Nat) (own : Bool) (f : OpenCmd → State → State) : State :=
  s.runCmd mb op (fun c s =>
    if 1024 ≤ b then s.refuse mb 0 0
    else if own && !s.basinIssuer c then s.refuse mb 1 0
    else if s.basinSt b ≠ bACTIVE ∨ s.basinBusy b then s.busy mb 0
    else f c s)

/-! ### BASIN_CREATE (R331) -/

/-- A binding of a BASIN_CREATE body: BINDi_CTL and the ring base. -/
abbrev BindRec := Nat × Nat

/-- Is a range inside enabled, unmirrored BASIN partitions? -/
def State.inBasinPart (s : State) (a n : Nat) : Bool :=
  (List.range (ceilDiv n 65536)).all (fun i => match s.partOf ((a / 65536 + i) * 65536) with
    | none => false
    | some q => s.get (PART_CTL_USE q) == 3 && s.mirrorOf q == 0)

/-- Size of a dirty-log buffer of a basin. -/
def State.logBytes (s : State) (b : Nat) : Nat := 2 ^ (clampN 24 37 (s.get (LOG_SIZE b)) - 15)

/-- Does basin `b` have dirty-log buffers? -/
def State.hasLog (s : State) (b : Nat) : Bool := s.logBuf b 0 != 0 || s.logBuf b 1 != 0

/-- Does a range meet a quota of another basin, or a dirty-log buffer of any? -/
def State.poolMeets (s : State) (me a n : Nat) : Bool :=
  (List.range 1024).any (fun b => s.basinSt b != bFREE && b != 0 &&
    ((b != me && rangesMeet a n (s.get (BSN_QBASE_BASE b) * 65536) (s.get (BSN_QSIZE_UNITS b) * 65536))
      || (s.hasLog b && (rangesMeet a n (s.logBuf b 0) (s.logBytes b) || rangesMeet a n (s.logBuf b 1) (s.logBytes b)))))

/-- Is a queue bound to a basin? -/
def State.queueBound (s : State) (e q : Nat) : Bool :=
  (List.range 1024).any (fun b => s.basinSt b != bFREE && (s.bindOf b e q).isSome)

/-- Check 4 on a binding in use. -/
def State.bindFree (s : State) (x : BindRec) : Bool :=
  let e := bits x.1 0 4
  let q := bits x.1 4 6
  !bit x.1 10 || (decide (e < 12 ∧ 2 ≤ q) && !s.queueBound e q && !s.on (KT_Q_CFG_EN e q) && s.ktState e != ktFAULTED)

/-- The first failing check of Table 11-4; 0 if none. -/
def State.createFail (s : State) (c : OpenCmd) (b h pasid qbase qsize cons : Nat) (binds : List BindRec) (vecs : List (Nat × Nat)) : Nat :=
  let used := binds.filter (fun x => bit x.1 10)
  if !s.basinIssuer c then 1
  else if b = 0 ∨ s.basinSt b ≠ bFREE then 2
  else if h = 0 ∨ 29 < h ∨ !s.on (GLB_HPART_CTL_EN h) then 3
  else if !binds.all s.bindFree ∨ !decide ((used.map (fun x => bits x.1 0 10)).Nodup) then 4
  else if qsize ≠ 0 ∧ (!s.inBasinPart qbase (qsize * 65536) ∨ s.poolMeets b qbase (qsize * 65536)) then 5
  else if 2 ^ 20 ≤ pasid ∨ qbase % 65536 ≠ 0 ∨ 2 ^ 27 ≤ qbase ∨ 1024 < qsize ∨ cons % 32 ≠ 0 ∨ 2 ^ 64 ≤ cons ∨ 8 < binds.length
      ∨ 8 < vecs.length ∨ !used.all (fun x => decide (x.1 < 2 ^ 19 ∧ x.2 < 2 ^ 64) && x.2 % 4096 == 0 &&
          (!bit x.1 11 || decide (4 ≤ bits x.1 12 4 ∧ bits x.1 12 4 ≤ 12)))
      ∨ !vecs.all (fun v => v.1 % 4 == 0 && decide (v.1 < 2 ^ 64 ∧ v.2 < 2 ^ 32)) then 6
  else 0

def State.wr64 (s : State) (lo v : Nat) : State := (s.wr lo v).wr (lo + 4) (v / 2 ^ 32)

/-- Binds a queue to a basin with its current GEN. Reserved bits read 0, in a binding that is not in use too (R9). -/
def State.bindQueue (s : State) (b i : Nat) (x : BindRec) : State :=
  let e := bits x.1 0 4
  let q := bits x.1 4 6
  let s := ((s.wr (R_BIND_CTL b i) (x.1 % 2 ^ 19)).wr (R_BIND_CONS b i) 0).wr64 (R_BIND_RING_LO b i) (x.2 / 4096 * 4096)
  let s := { s with bsn := { s.bsn with ring := tdel s.bsn.ring (b * 8 + i) } }
  if bit x.1 10 then
    ((s.put (KT_Q_BASIN_BASIN e q) b).put (KT_Q_BASIN_GEN e q) (s.get (BSN_CTL_GEN b))).put (KT_Q_CFG_EN e q) 1 |>.showFree e q
  else s

def State.basinCreate (s : State) (b h pasid qbase qsize cons : Nat) (binds : List BindRec) (vecs : List (Nat × Nat)) : State :=
  let s := (((s.put (BSN_CTL_HPART b) h).put (BSN_PASID_PASID b) pasid).wr (R_BSN_QBASE b) qbase).wr (R_BSN_QSIZE b) qsize
  let s := s.wr64 (R_BSN_CONS_ADDR_LO b) cons
  let s := s.forEach (List.range 8) (fun i u => u.bindQueue b i (binds.getD i (0, 0)))
  let s := s.forEach (List.range 8) (fun v u =>
    let x := vecs.getD v (0, 0)
    ((u.wr64 (R_VEC_ADDR_LO b v) x.1).wr (R_VEC_DATA b v) x.2).wr (R_VEC_CTL b v) 1)
  let s := (((s.put (LOG_EN b) 0).wr (R_LOG_BUF0 b) 0).wr (R_LOG_BUF1 b) 0)
  s.put (BSN_CTL_STATE b) bACTIVE

/-- BASIN_CREATE. -/
def execBasinCreate (mb b h pasid qbase qsize cons : Nat) (binds vecs : List (Nat × Nat)) (s : State) : Out :=
  act s (s.runCmd mb 0x0601 (fun c s =>
    if 1024 ≤ b then s.refuse mb 0 0
    else if s.basinBusy b then s.busy mb 0
    else
      let f := s.createFail c b h pasid qbase qsize cons binds vecs
      if f ≠ 0 then s.refuse mb f 0 else (s.basinCreate b h pasid qbase qsize cons binds vecs).ok mb []))

/-! ### Reset and destroy (R332, R333) -/

/-- The bindings of a basin in use: (engine, queue, index). -/
def State.bindings (s : State) (b : Nat) : List (Nat × Nat × Nat) :=
  ((List.range 8).filter (fun i => s.on (BIND_CTL_EN b i))).map (fun i => (s.get (BIND_CTL_ENG b i), s.get (BIND_CTL_QUEUE b i), i))

/-- Retires the reorder entries of a basin at its engines, but one whose response has come (R412); requests that have not left
their NI are not sent (R97, R332). -/
def State.retireBasin (s : State) (b : Nat) : State :=
  let own (o : Org) : Bool := match o with | .flush _ => false | _ => true
  let es := s.req.ro.filter (fun x => x.2.st == 1 && x.2.req.basin == b && own x.2.org && !s.answered (x.1 / 65536) (x.1 % 65536) x.2)
  let unsent (h : Held) : Bool := pktClass h.pkt == 1 &&
    es.any (fun x => x.1 == roKey h.tile h.pkt.tag && x.2.gen == h.pkt.gen)
  let hs := s.mesh.held.filter unsent
  let ws := s.req.roWait.filter (fun w => w.req.basin == b && own w.org)
  let ring (a : MAcc) : Bool := match a.taker with | .ring x _ => x == b | _ => false
  let s := s.forEach es (fun x u => u.roRetire (x.1 / 65536) (x.1 % 65536))
  let s := { s with
    mesh := { s.mesh with held := s.mesh.held.filter (fun h => !unsent h) }
    req := { s.req with
      roWait := s.req.roWait.filter (fun w => !(w.req.basin == b && own w.org))
      accs := s.req.accs.filter (fun a => !ring a)
      ready := s.req.ready.filter (fun a => !ring a) } }
  (s.forEach hs (fun h u => u.dropHeld h)).forEach ws (fun w u => u.guardRetire w.guard)

/-- Step 2 of R332 at the engines: slots, ring pointers and running jobs of a basin are dropped. -/
def State.dropJobs (s : State) (b : Nat) : State :=
  let mine (r : RunJob) : Bool := decide (2 ≤ r.q) && r.job.basin == b
  let runs := (s.kt.run ++ s.kt.yielded).filter mine
  let s := s.forEach runs (fun r u => u.dropJob r)
  let idle := (s.kt.run.filter mine).map (·.e)
  let s := { s with kt := { s.kt with
    run := s.kt.run.filter (fun r => !mine r)
    yielded := s.kt.yielded.filter (fun r => !mine r)
    scat := s.kt.scat.filter (fun x => x.job.basin != b || x.job.q < 2)
    queue := s.kt.queue.filter (fun j => j.q < 2 || j.basin != b) } }
  let s := s.forEach idle (fun e u => u.put (KT_STAT_STATE e) u.restState)
  let s := { s with bsn := { s.bsn with
    ring := s.bsn.ring.filter (fun r => r.1 / 8 != b)
    cons := s.bsn.cons.filter (· ≠ b) } }
  s.forEach (s.bindings b) (fun x u => u.showFree x.1 x.2.1)

/-- Steps 1 to 4 of R332. -/
def State.basinReset (s : State) (mb b : Nat) (destroy : Bool) : State :=
  let s := s.put (BSN_CTL_STATE b) (if destroy then bDESTROYING else bRESETTING)
  let gen := (s.get (BSN_CTL_GEN b) + 1) % 256
  let s := s.put (BSN_CTL_GEN b) gen
  let s := s.forEach (s.bindings b) (fun x u => u.put (KT_Q_BASIN_GEN x.1 x.2.1) gen)
  let s := (s.dropJobs b).retireBasin b
  let s := { s with ord := { s.ord with resv := s.ord.resv.filter (fun r => r.basin != some b) } }
  let s := s.forEach (List.range 8) (fun v u => u.put (VEC_CTL_PENDING b v) 0)
  let mine := s.bsn.flows.filter (fun f => f.1 == b)
  let s := { s with bsn := { s.bsn with flows := s.bsn.flows.filter (fun f => f.1 != b) } }
  let (id, s) := s.engFlush (mine.map (·.2.1)).dedup (mine.map (fun f => s.engFlow f.2.1 f.2.2.1 f.2.2.2))
  let s := { s with bsn := { s.bsn with wait := s.bsn.wait ++ [(b, id)] } }
  s.park mb (.basin b destroy)

/-- BASIN_RESET (R332). Basin 0 cannot be reset (R322). -/
def execBasinReset (mb b : Nat) (s : State) : Out :=
  act s (s.basinCmd mb 0x0602 b true (fun _ s => if b = 0 then s.refuse mb 0 0 else s.basinReset mb b false))

/-- BASIN_DESTROY (R333). -/
def execBasinDestroy (mb b : Nat) (s : State) : Out :=
  act s (s.basinCmd mb 0x0603 b true (fun _ s => if b = 0 then s.refuse mb 0 0 else s.basinReset mb b true))

/-- The flush of a basin's running command, when every read of it and the LOCAL barriers beside it have completed. -/
def State.flushDone (s : State) (b : Nat) : Option Flush :=
  match s.bsn.wait.find? (fun w => w.1 == b) with
  | none => none
  | some w => (s.flushOf w.2).filter (fun f => f.left == 0 && !s.ord.locs.any (fun x => x.1 == f.id))

def State.unwait (s : State) (b : Nat) (f : Flush) : State :=
  ({ s with bsn := { s.bsn with wait := s.bsn.wait.filter (fun w => w.1 != b) } }).endFlush f.id

/-- Step 5 of R332: zeros to CONS_ADDR, and CONS at zero. -/
def State.zeroCons (s : State) (b : Nat) : State :=
  let s := match s.basinEng b with | some e => s.consWrite e b (List.replicate 8 0) | none => s
  s.forEach (List.range 8) (fun i u => u.put (BIND_CONS_CONS b i) 0)

/-- A basin command of R332 answers with the worst status among its flushing reads. -/
def State.flushAnswer (s : State) (b : Nat) (destroy : Bool) (f : Flush) : State :=
  match s.parkedOn (fun w => w == .basin b destroy) with
  | none => s
  | some mb => if f.worst = .ok then s.ok mb [] else s.reply mb mFABRIC f.worst.code 0 0 []

/-- BASIN_RESET_DONE. -/
def execBasinResetDone (b : Nat) (s : State) : Out :=
  act s (match s.flushDone b with
    | none => s.smIgnored
    | some f =>
      if s.basinSt b ≠ bRESETTING then s.smIgnored
      else (((s.zeroCons b).unwait b f).put (BSN_CTL_STATE b) bACTIVE).flushAnswer b false f)

/-- Releases the resources of a basin (R333). -/
def State.basinRelease (s : State) (b : Nat) : State :=
  let s := s.forEach (s.bindings b) (fun x u =>
    (((u.put (KT_Q_CFG_EN x.1 x.2.1) 0).put (KT_Q_BASIN_BASIN x.1 x.2.1) 0).put (KT_Q_BASIN_GEN x.1 x.2.1) 0).put (BIND_CTL_EN b x.2.2) 0)
  let s := s.cisZero (s.get (BSN_QBASE_BASE b) * 65536) (s.get (BSN_QSIZE_UNITS b) * 65536)
  let s := s.doIf (s.hasLog b) (fun s => (s.cisZero (s.logBuf b 0) (s.logBytes b)).cisZero (s.logBuf b 1) (s.logBytes b))
  let s := { s with bsn := { s.bsn with
    map := s.bsn.map.filter (fun e => e.basin != b)
    marked := s.bsn.marked.filter (fun m => m.1 != b)
    cache := s.bsn.cache.filter (fun c => c.2.1 != b) } }
  (s.put (LOG_EN b) 0).put (BSN_CTL_STATE b) bFREE

/-- BASIN_RELEASE_COMPLETE (R333), which answers as the reset sequence that it runs does. -/
def execBasinReleaseComplete (b : Nat) (s : State) : Out :=
  act s (match s.flushDone b with
    | none => s.smIgnored
    | some f =>
      if s.basinSt b ≠ bDESTROYING then s.smIgnored
      else (((s.zeroCons b).unwait b f).basinRelease b).flushAnswer b true f)

/-! ### Lookup commands -/

/-- BASIN_MAP_ADD: entries are (HPART, RID, PASID, ANY_PASID). -/
def execBasinMapAdd (mb b : Nat) (ents : List (Nat × Nat × Nat × Bool)) (s : State) : Out :=
  act s (s.basinCmd mb 0x0604 b true (fun _ s =>
    let key (e : Nat × Nat × Nat × Bool) : Nat × Nat × Nat × Bool := (e.1, e.2.1, if e.2.2.2 then 0 else e.2.2.1, e.2.2.2)
    let have_ := s.bsn.map.map (fun (m : MapEnt) => key (m.hpart, m.rid, m.pasid, m.any))
    let bad (x : (Nat × Nat × Nat × Bool) × Nat) : Bool :=
      x.1.1 == 0 || decide (29 < x.1.1 ∨ 65536 ≤ x.1.2.1 ∨ 2 ^ 20 ≤ x.1.2.2.1) || have_.contains (key x.1)
        || ((ents.take x.2).map key).contains (key x.1) || decide (2048 ≤ s.bsn.map.length + x.2)
    match ents.zipIdx.find? bad with
    | some x => s.refuse mb 0 x.2
    | none => ({ s with bsn := { s.bsn with
        map := s.bsn.map ++ ents.map (fun (e : Nat × Nat × Nat × Bool) => (⟨e.1, e.2.1, e.2.2.1, e.2.2.2, b⟩ : MapEnt)) } }).ok mb []))

/-- BASIN_MAP_DEL. -/
def execBasinMapDel (mb b : Nat) (ents : List (Nat × Nat × Nat × Bool)) (s : State) : Out :=
  act s (s.basinCmd mb 0x0605 b true (fun _ s =>
    let is (m : MapEnt) (e : Nat × Nat × Nat × Bool) : Bool :=
      m.basin == b && m.hpart == e.1 && m.rid == e.2.1 && m.any == e.2.2.2 && (m.any || m.pasid == e.2.2.1)
    match ents.findIdx? (fun e => !s.bsn.map.any (fun m => is m e)) with
    | some i => s.refuse mb 0 i
    | none => ({ s with bsn := { s.bsn with map := s.bsn.map.filter (fun m => !ents.any (is m)) } }).ok mb []))

/-! ### The dirty log (R334, R335) -/

/-- May a range serve as a dirty-log buffer of `n` bytes? -/
def State.logBufOk (s : State) (b a n : Nat) : Bool :=
  a % n == 0 && decide (a + n ≤ cisEnd) && bankOf a == bankOf (a + n - 1) && s.inBasinPart a n &&
    !((List.range 1024).any (fun k => s.basinSt k != bFREE && k != 0 &&
      rangesMeet a n (s.get (BSN_QBASE_BASE k) * 65536) (s.get (BSN_QSIZE_UNITS k) * 65536)))
    && !((List.range 1024).any (fun k => k != b && s.basinSt k != bFREE && s.hasLog k &&
      (rangesMeet a n (s.logBuf k 0) (s.logBytes k) || rangesMeet a n (s.logBuf k 1) (s.logBytes k))))

/-- BASIN_LOG_SET. -/
def execBasinLogSet (mb b base size buf0 buf1 : Nat) (en : Bool) (s : State) : Out :=
  act s (s.basinCmd mb 0x0606 b true (fun _ s =>
    if s.on (LOG_EN b) then (if en then s.refuse mb 0 0 else (s.put (LOG_EN b) 0).ok mb [])
    else if b = 0 ∨ size < 24 ∨ 37 < size ∨ base % 2 ^ size ≠ 0 ∨ 2 ^ 64 ≤ base ∨ !s.logBufOk b buf0 (2 ^ (size - 15))
        ∨ !s.logBufOk b buf1 (2 ^ (size - 15)) ∨ rangesMeet buf0 (2 ^ (size - 15)) buf1 (2 ^ (size - 15)) then s.refuse mb 0 0
    else
      let s := (((s.wr64 (R_LOG_BASE_LO b) base).wr (R_LOG_BUF0 b) buf0).wr (R_LOG_BUF1 b) buf1).put (LOG_SIZE b) size
      (s.put (LOG_EN b) (b2n en)).ok mb []))

/-- A harvest whose flush has completed answers with the buffer that left service. -/
def State.harvestDone (s : State) (b : Nat) : State :=
  match s.flushDone b, s.parkedOn (fun w => w == .harvest b) with
  | some f, some mb => (s.unwait b f).ok mb [s.logBuf b (1 - s.get (LOG_CUR b))]
  | _, _ => s

/-- BASIN_HARVEST (R335). -/
def execBasinHarvest (mb b : Nat) (s : State) : Out :=
  act s (s.basinCmd mb 0x0607 b false (fun _ s =>
    if !s.hasLog b then s.refuse mb 0 0
    else
      let s := s.cisZero (s.logBuf b (1 - s.get (LOG_CUR b))) (s.logBytes b)
      let s := s.put (LOG_CUR b) (1 - s.get (LOG_CUR b))
      let engs := (s.bsn.marked.filter (fun m => m.1 == b)).map (·.2)
      let fl := (s.bsn.flows.filter (fun f => f.1 == b && engs.contains f.2.1)).map (fun f => s.engFlow f.2.1 f.2.2.1 f.2.2.2)
      let s := { s with bsn := { s.bsn with
        marked := s.bsn.marked.filter (fun m => m.1 != b)
        cache := s.bsn.cache.filter (fun c => c.2.1 != b) } }
      let (id, s) := s.engFlush engs.dedup fl
      let s := { s with bsn := { s.bsn with wait := s.bsn.wait ++ [(b, id)] } }
      (s.park mb (.harvest b)).harvestDone b))

/-- BASIN_QUERY returns the basin block, its lookup entries and the free pool levels. -/
def execBasinQuery (mb b : Nat) (s : State) : Out :=
  act s (s.basinCmd mb 0x0608 b false (fun _ s =>
    let block := [0, 4, 8, 0xC, 0x20, 0x24] ++ (List.range 32).map (fun i => 0x40 + 4 * i) ++ (List.range 32).map (fun i => 0x100 + 4 * i)
      ++ [0x200, 0x204, 0x208, 0x20C, 0x210]
    let ents := (s.bsn.map.filter (fun (e : MapEnt) => e.basin == b)).flatMap (fun (e : MapEnt) => [e.hpart + e.rid * 2 ^ 16, e.pasid + b2n e.any * 2 ^ 20])
    let freeQ := ((List.range 12).flatMap (fun e => (List.range 62).filter (fun q => !s.queueBound e (q + 2)))).length
    let freeU := ((List.range 1536).filter (fun u => s.inBasinPart (u * 65536) 65536 && !s.poolMeets 1024 (u * 65536) 65536)).length
    let ctrs := [C_LOG_MISS b, C_LOG_MARKS b, C_DB_DROP b, C_BSN_STALE b, C_QUOTA_FAULT b, C_BSN_JOBS b].flatMap
      (fun c => [s.cnt c % 2 ^ 32, s.cnt c / 2 ^ 32])
    s.okQuery mb (block.map (fun o => s.rd (R_BSN_CTL b + o)) ++ ctrs ++ [ents.length / 2] ++ ents ++ [freeQ, freeU, 2048 - s.bsn.map.length])))

/-! ### Flush responses -/

/-- A flushing read has completed with a status; a harvest that waited for it may answer. -/
def State.flushStep (s : State) (id : Nat) (st : Status) : State :=
  let s := { s with ord := { s.ord with flushes := s.ord.flushes.map (fun (f : Flush) =>
    if f.id = id then ⟨f.id, f.left - 1, firstBad f.worst st⟩ else f) } }
  s.forEach (s.bsn.wait.filter (fun (w : Nat × Nat) => w.2 == id)) (fun w u => u.harvestDone w.1)

/-- The LOCAL barrier of a basin command at tile `t` is over, if everything it waits for has completed; none where no such
barrier is. -/
def State.locStep (s : State) (t : Nat) : Option State :=
  (s.ord.locs.find? (fun x => x.2.1 == t && s.outDone t none x.2.2)).map (fun x =>
    let s := { s with ord := { s.ord with locs := s.ord.locs.filter (fun y => y != x) } }
    s.forEach (s.bsn.wait.filter (fun (w : Nat × Nat) => w.2 == x.1)) (fun w u => u.harvestDone w.1))

end Sys2Proof.Machine
end

