-- ==== Sys2Proof/Machine/Ordering.lean ====
section
/-! DEFINITION. Barriers and flushes: the agent's LOCAL part, remote flushes, the die flush engine of CX and SYSTEM
barriers towards other nodes (R240 to R246). -/

namespace Sys2Proof.Machine

/-- The 30 requester NIs of the die: the PT, KT, Wellhead and CX tiles (R245). -/
def reqTiles : List Nat := (List.range 16).map ptTile ++ ktTiles ++ [whTile, cxTile]

/-- The barrier number an NI or CX uses next. -/
def State.nextBar (s : State) (t : Nat) : Nat × State :=
  let n := (tgetD s.ord.barNum t 0 + 1) % 65536
  (n, { s with ord := { s.ord with barNum := tset s.ord.barNum t n } })

/-- Opens a barrier at an NI. -/
def State.barOpen (s : State) (t scope : Nat) (v : Option (Nat × Nat × Nat)) : State :=
  let (n, s) := s.nextBar t
  { s with ord := { s.ord with bars := s.ord.bars ++ [(⟨t, scope, n, 0, .ok, v, s.outNow t v, 0⟩ : Bar)] } }

/-- Is a barrier open for an agent of tile `t`? -/
def State.barred (s : State) (t : Nat) (p : Pkt) : Bool := s.ord.bars.any (fun b => b.tile == t && ofAgent b.vdm p)

def ctlPkt (s : State) (kind t dest addr tag seq : Nat) (st : Status) : Pkt :=
  { pkt0 kind 6 4 0 dest (tileEid s.node t) [] with addr := addr, tag := tag, seq := seq, status := st.code }

/-- A BARRIER of a scope and role to an EID. -/
def State.sendBarrier (s : State) (t dest scope role tag seq : Nat) : State :=
  s.inject t (ctlPkt s kBARRIER t dest (scope * 2 ^ 8 + role * 2 ^ 10) tag seq .ok) none

def State.sendBack (s : State) (t dest tag seq : Nat) (st : Status) : State :=
  s.inject t (ctlPkt s kBACK t dest 0 tag seq st) none

def State.setBar (s : State) (old : Bar) (new : Option Bar) : State :=
  { s with ord := { s.ord with bars := s.ord.bars.flatMap (fun b => if b == old then new.toList else [b]) } }

/-- The remote flush of an NI (R240): one flushing read for each of its flows. -/
def State.remoteFlush (s : State) (t : Nat) : Nat × State :=
  let mine := s.ord.flows.filter (fun f => f.1 == t)
  let s := { s with ord := { s.ord with flows := s.ord.flows.filter (fun f => f.1 != t) } }
  s.startFlush mine

/-- Has a flush completed, and with what status as a barrier counts it (R246)? -/
def State.flushBar (s : State) (id : Nat) : Option Status :=
  match s.flushOf id with
  | none => some .ok
  | some f => if f.left = 0 then some (if f.worst = .timeout ∨ f.worst = .pathLost then .pathLost else .ok) else none

/-! ### At the issuing NI -/

/-- The BARRIER_DONE VDM of Table 10-3: SUBTYPE, STATUS and TOKEN in the message word. -/
def doneVdm (h : Nat) (st : Status) (token : Nat) : Tlp :=
  { tlp0 with typ := tyVdm, part := h, msg := 2 + st.code * 2 ^ 8 + token % 2 ^ 16 * 2 ^ 16 }

/-- A barrier completes: later accesses are released, and its issuer hears (R244, R246). -/
def State.barDone (s : State) (b : Bar) (st : Status) : State :=
  let s := s.setBar b none
  match b.vdm with
  | none => if b.tile = whTile then (s.put CX_WHBAR_DONE 1).put CX_WHBAR_STATUS st.code else s
  | some (port, h, token) =>
    -- On the same link (R307), which may be down by now.
    if s.get (PCFG_LSTAT_STATE (portC port) (portK port)) = 2 then s.portTlp port (s.tcMap port 0) (doneVdm h st token) [] else s

/-- The NI's own part is done: LOCAL completes; DIE and SYSTEM go to CX. -/
def State.barToCx (s : State) (b : Bar) : State :=
  let b' : Bar := { b with phase := 2 }
  (s.setBar b (some b')).sendBarrier b.tile (tileEid s.node cxTile) b.scope 0 0 b.seq

/-- The LOCAL part of a barrier has completed. -/
def State.barLocal (s : State) (b : Bar) : State :=
  if b.scope = 1 then s.barDone b .ok
  else if b.scope = 2 then s.barToCx b
  else
    let (id, s) := s.remoteFlush b.tile
    let b' : Bar := { b with phase := 1, fid := id }
    let s := s.setBar b (some b')
    if s.flushBar id = some .ok then (s.endFlush id).barToCx b' else s

/-- A flush order has been carried out: the NI acknowledges (R244). -/
def State.ordDone (s : State) (o : FlushOrd) (st : Status) : State :=
  let s := { s with ord := { s.ord with orders := s.ord.orders.filter (fun x => x != o) } }
  s.sendBack o.tile o.dest o.tag o.seq st

def State.ordLocal (s : State) (o : FlushOrd) : State :=
  if !o.remote then s.ordDone o .ok
  else
    let (id, s) := s.remoteFlush o.tile
    let o' : FlushOrd := { o with phase := 1, fid := id }
    let s := { s with ord := { s.ord with orders := s.ord.orders.map (fun x => if x == o then o' else x) } }
    if s.flushBar id = some .ok then (s.endFlush id).ordDone o' .ok else s

/-- Does an earlier DIE or SYSTEM barrier of the tile keep this one back (R245)? -/
def State.barFirst (s : State) (b : Bar) : Bool :=
  b.scope == 1 || ((s.ord.bars.filter (fun x => x.tile == b.tile && decide (2 ≤ x.scope))).head? == some b)

/-- LOCAL_BARRIER_COMPLETE: the first barrier, flush order or barrier of a basin command of tile `t` whose LOCAL part has
completed moves on. -/
def execLocalBarrierComplete (t : Nat) (s : State) : Out :=
  act s (match s.ord.bars.find? (fun b => b.tile == t && b.phase == 0 && s.outDone t b.vdm b.pend && s.barFirst b) with
    | some b => s.barLocal b
    | none => match s.ord.orders.find? (fun o => o.tile == t && o.phase == 0 && s.outDone t none o.pend) with
      | some o => s.ordLocal o
      | none => (s.locStep t).getD s.smIgnored)

/-- A flush has completed: the barrier or flush order that waits for it moves on. -/
def State.barFlush (s : State) (id : Nat) : State :=
  match s.flushBar id with
  | none => s
  | some st =>
    match s.ord.bars.find? (fun b => b.phase == 1 && b.fid == id) with
    | some b =>
      let b' : Bar := { b with status := st }
      (((s.endFlush id).setBar b (some b')).barToCx b')
    | none => match s.ord.orders.find? (fun o => o.phase == 1 && o.fid == id) with
      | some o => (s.endFlush id).ordDone o st
      | none => s

/-! ### At CX -/

def State.showDie (s : State) : State :=
  ((s.put CX_BAR_STAT_FLUSH_BUSY (b2n s.ord.die.isSome)).put CX_BAR_STAT_QDEPTH (min 31 s.ord.dieq.length)).put CX_BAR_STAT_SYS_OUT (b2n s.ord.sys.isSome)

/-- The nodes of the barrier set other than this one (R246). -/
def State.barSet (s : State) : List Nat :=
  (List.range 4096).filter (fun n => n != s.node && bit (s.get (CX_BAR_SET_NODES (n / 32))) (n % 32))

/-- CX answers the sender of a barrier. -/
def State.barAnswer (s : State) (r : DieReq) (st : Status) : State :=
  (s.sendBack cxTile r.src r.tag r.seq st).count C_CX_BAR_DONE

/-- A node counts as PATH_LOST (R246). -/
def State.nodeFailed (s : State) (n : Nat) : State :=
  let s := if s.on CX_BAR_STAT_FAILED then s else (s.put CX_BAR_STAT_FAILED 1).put CX_BAR_STAT_FAIL_NODE n
  { s with ord := { s.ord with sysSt := firstBad s.ord.sysSt .pathLost, sysLeft := s.ord.sysLeft.filter (· ≠ n) } }

/-- Opens SYSTEM barriers towards other nodes, one after the other; a barrier that no node has to answer completes. -/
def State.sysNext : Nat → State → State
  | 0, s => s
  | n + 1, s =>
    match s.ord.sys with
    | some r =>
      if s.ord.sysLeft.isEmpty then
        let st := s.ord.sysSt
        State.sysNext n (({ s with ord := { s.ord with sys := none } }).barAnswer r st)
      else s
    | none => match s.ord.sysq with
      | [] => s
      | (r, st) :: rest =>
        let set_ := s.barSet
        let (q, s) := s.nextBar cxTile
        let s := { s with ord := { s.ord with sys := some r, sysSt := st, sysSeq := q, sysLeft := set_, sysq := rest } }
        let s := s.forEach set_ (fun k u =>
          let p := ctlPkt u kBARRIER cxTile (tileEid k cxTile) (3 * 2 ^ 8) 1 q .ok
          match u.route (u.stampPkt cxTile p) with
          | .port _ => u.inject cxTile p none
          | _ => (u.inject cxTile p none).nodeFailed k)
        State.sysNext n s

/-- A die flush has completed. -/
def State.dieDone (s : State) : State :=
  match s.ord.die with
  | none => s
  | some r =>
    let st := s.ord.dieSt
    let s := { s with ord := { s.ord with die := none } }
    let s := if r.scope = 3 ∧ eidNode r.src = s.node ∧ !s.barSet.isEmpty then
        State.sysNext (2 * s.ord.sysq.length + 4) { s with ord := { s.ord with sysq := s.ord.sysq ++ [(r, st)] } }
      else s.barAnswer r st
    s.showDie

/-- BARRIER: CX queues a die flush, or a requester NI begins a flush order (R243, R244). -/
def execBarrier (t : Nat) (s : State) : Out :=
  act s (match s.takeArrived t (fun p => p.kind == kBARRIER) with
    | (none, s) => s.smIgnored
    | (some p, s) =>
      let scope := bits p.addr 8 2
      if bit p.addr 10 then
        { s with ord := { s.ord with orders := s.ord.orders ++ [(⟨t, scope == 3, p.tag, p.seq, p.src, 0, s.outNow t none, 0⟩ : FlushOrd)] } }
      else if t = cxTile then
        ({ s with ord := { s.ord with dieq := s.ord.dieq ++ [(⟨p.src, scope, p.tag, p.seq⟩ : DieReq)] } }).showDie
      else s)

/-- DIE_FLUSH_START: the die flush engine takes the next request (R244). -/
def execDieFlushStart (s : State) : Out :=
  act s (match s.ord.die, s.ord.dieq with
    | none, r :: rest =>
      let (q, s) := s.nextBar cxTile
      let s := { s with ord := { s.ord with die := some r, dieq := rest, dieLeft := reqTiles, dieSt := .ok, dieSeq := q } }
      (s.forEach reqTiles (fun t u => u.sendBarrier cxTile (tileEid u.node t) r.scope 1 0 q)).showDie
    | _, _ => s.smIgnored)

/-- The status a BARRIER_ACK carries. -/
def ackStatus (p : Pkt) : Status := if p.status = 0 then .ok else .pathLost

/-- BARRIER_ACK (R243, R244). -/
def execBarrierAck (t : Nat) (s : State) : Out :=
  act s (match s.takeArrived t (fun p => p.kind == kBACK) with
    | (none, s) => s.smIgnored
    | (some p, s) =>
      let from_ := eidPort p.src
      if t = cxTile ∧ p.tag = 0 ∧ s.ord.die.isSome ∧ p.seq = s.ord.dieSeq ∧ eidNode p.src = s.node ∧ s.ord.dieLeft.contains from_ then
        let s := { s with ord := { s.ord with dieLeft := s.ord.dieLeft.filter (· ≠ from_), dieSt := firstBad s.ord.dieSt (ackStatus p) } }
        if s.ord.dieLeft.isEmpty then s.dieDone else s
      else if t = cxTile ∧ p.tag = 1 ∧ s.ord.sys.isSome ∧ p.seq = s.ord.sysSeq ∧ s.ord.sysLeft.contains (eidNode p.src) then
        let s := { s with ord := { s.ord with
          sysLeft := s.ord.sysLeft.filter (· ≠ eidNode p.src)
          sysSt := firstBad s.ord.sysSt (ackStatus p) } }
        (State.sysNext (2 * s.ord.sysq.length + 4) s).showDie
      else match s.ord.bars.find? (fun b => b.tile == t && b.phase == 2 && b.seq == p.seq && p.tag == 0) with
        | some b => s.barDone b (firstBad b.status (ackStatus p))
        | none => s.count C_CX_BAR_STRAY)

/-- BARRIER_TIMEOUT: node `n` has not answered within TMO (R246). -/
def execBarrierTimeout (n : Nat) (s : State) : Out :=
  act s (if s.ord.sys.isSome ∧ s.ord.sysLeft.contains n then (State.sysNext (2 * s.ord.sysq.length + 4) (s.nodeFailed n)).showDie
    else s.smIgnored)

/-- CX_WHBAR written by the Wellhead (R242): a scope of 1 to 3 issues a barrier. -/
def State.whBarrier (s : State) (scope : Nat) : State :=
  if scope = 0 then s else ((s.put CX_WHBAR_SCOPE scope).put CX_WHBAR_DONE 0).barOpen whTile scope none

/-- Abandons the Wellhead's own barrier (R246); DONE is set, so that the next image may issue one (assumption log 80). -/
def State.whBarDrop (s : State) : State :=
  { s.put CX_WHBAR_DONE 1 with ord := { s.ord with bars := s.ord.bars.filter (fun b => b.tile != whTile) } }

end Sys2Proof.Machine
end

