-- ==== Sys2Proof/Machine/Packets.lean ====
section
/-! DEFINITION. What requester and target NIs do with packets: accesses of native masters, reads, writes, atomics
and reservations at their targets, responses, timeouts and quarantine (R73 to R100, R184, R231 to R252, R306). -/

namespace Sys2Proof.Machine

/-! ### The Wellhead's accesses (R74, R87 to R89, R248, R338) -/

/-- The granule of a target, as a reservation context holds it. -/
def State.granuleOf (s : State) (dest addr : Nat) : Nat × Nat := (dest, addr / 2 ^ s.granLog)

/-- The part of the address that a packet's own target would have, for the reservation context. -/
def State.ctxKey (s : State) (t a : Nat) : Option (Nat × Nat) :=
  if a < viewEnd then some (s.granuleOf (tileEid s.node (ctTile 0)) a)
  else (s.winLookup t a none).map (fun h => s.granuleOf h.dest h.addr)

/-- A reservation context takes or drops a granule; `none` in `held` empties it. A pair that has no context takes none by that
(R248, R308). -/
def State.setCtx (s : State) (t h pasid : Nat) (held : Option (Nat × Nat)) : State :=
  let rest := s.pc.ctx.filter (fun c => !(c.tile == t && c.hpart == h && c.pasid == pasid))
  if held.isNone ∧ rest.length = s.pc.ctx.length then s
  else { s with pc := { s.pc with ctx := rest ++ [(⟨t, h, pasid, held⟩ : ResCtx)] } }

def State.ctxHeld (s : State) (t h pasid : Nat) : Option (Nat × Nat) :=
  (s.pc.ctx.find? (fun c => c.tile == t && c.hpart == h && c.pasid == pasid)).bind (·.held)

/-- Payload bytes that an access of the Wellhead covers. -/
def accBytes (x : WAcc) : Nat :=
  if x.kind = kATOMIC then (if bit ((x.data.getD 0 0).toNat) 4 then 8 else 4) else if x.kind = kMSG ∨ x.kind = kJOB then 0 else 4 * x.len

/-- An access of the Wellhead as the packet of its part at `a` of `n` bytes. -/
def State.whPart (s : State) (x : WAcc) (a n : Nat) : Pkt :=
  let cls := pktClass { pkt0 x.kind 0 0 0 0 0 [] with tlp := none }
  let len := if x.kind = kATOMIC then 6 else if x.kind = kMSG ∨ x.kind = kJOB then x.len else n / 4
  let data := if x.kind = kREAD ∨ x.kind = kRESERVE then [] else if n = 0 ∨ x.kind = kATOMIC then x.data else (x.data.drop ((a - x.addr) / 4)).take (n / 4)
  { pkt0 x.kind 0 (vnOf cls 0) len 0 (tileEid s.node whTile) data with addr := a, priv := 1, pasid := x.pasid }

/-- The Wellhead's NI performs an access: guard GD28, split, window or cistern decode (R88, R89, R338). -/
def State.whAccess (s : State) (x : WAcc) : State :=
  let n := accBytes x
  let who : GuardWho := ⟨x.kind, true, 0, 0, 0, s.node⟩
  let cls := pktClass { pkt0 x.kind 0 0 0 0 0 [] with tlp := none }
  let whole := x.kind == kATOMIC || x.kind == kRESERVE || x.kind == kCOND
  if cls = 3 ∨ cls = 4 ∨ cls = 2 ∨ x.addr % 4 ≠ 0 ∧ n ≠ 0 then s.smIgnored
  else
    let (id, s) := s.accOpen whTile x.kind (if x.kind = kREAD ∨ x.kind = kRESERVE then List.replicate x.len 0 else []) .master
    let s := if n = 0 then
        -- A flushing read, a message or a job: no region check (Table 12-2).
        let (ok, s) := if x.kind = kREAD then (true, s) else s.guardMsg 28 who x.addr
        if !ok then s
        else
          let g := s.guardTag 28
          (s.guardOpen g.1 g.2 true).sendByWindow whTile id true (s.whPart x x.addr 0) 0 none (some g)
      else if x.kind = kCOND ∧ s.ctxHeld whTile 0 0 ≠ s.ctxKey whTile x.addr then
        (s.setCtx whTile 0 0 none).accFail id .reservationLost
      else
        let ps := pageParts x.addr n
        let pm := (permOf x.kind).getD .w
        let (ok, s) := s.guardCheck 28 pm whole who ps
        let bad := decide ((ok.map (·.2)).sum < n)
        let s := s.doIf bad (fun s => s.accFail id (if x.kind = kREAD then .poisoned else .guardFault))
        let s := s.doIf (x.kind == kCOND) (fun s => s.setCtx whTile 0 0 none)
        let s := s.doIf (x.kind == kRESERVE && !bad) (fun s => s.setCtx whTile 0 0 (s.ctxKey whTile x.addr))
        s.forEach ok (fun p u =>
          let g := u.guardTag 28
          (u.guardOpen g.1 g.2 true).sendByWindow whTile id true (u.whPart x p.1 p.2) ((p.1 - x.addr) / 4) none (some g))
    -- A posted access has no result.
    let s := if cls = 0 then { s with req := { s.req with accs := s.req.accs.filter (fun a => a.id != id) } } else s
    s.accSettle whTile

/-- Do the Wellhead's data-path accesses and barriers leave: an image runs, the domain has not closed, and no restart or handover
is under way (Table 13-4, Table 14-11)? -/
def State.whIssues (s : State) : Bool :=
  (s.whState == whUP || s.whState == whBOOTING) && s.wh.entered && decide (s.dom 60 ≤ dCLOSING)

/-- MASTER_ACCESS: the Wellhead issues an access. Behind an open barrier it waits (R240). -/
def execMasterAccess (kind a len pasid : Nat) (data : List Word) (s : State) : Out :=
  let x : WAcc := ⟨kind, a, len, pasid, data⟩
  act s (if !s.whIssues then s.smIgnored
    else if s.ord.bars.any (fun b => b.tile == whTile) ∨ !s.wh.accq.isEmpty then { s with wh := { s.wh with accq := s.wh.accq ++ [x] } }
    else s.whAccess x)

/-! ### At the target (R183 to R194, R231, R232, R241, R247 to R250, R306) -/

/-- The response of the NI of tile `t` goes back to the requester. -/
def State.answerAt (s : State) (t : Nat) (c : Pkt) : State := s.inject t c none

def State.cplBack (s : State) (t : Nat) (req : Pkt) (st : Status) : State := s.answerAt t (mkCpl req st)

/-- The bank whose NI is at tile `t`. -/
def bankAt (t : Nat) : Option Nat := match tileUnit t with | .ct b => some b | _ => none

/-- The cistern address of a packet's range at a bank; none beyond the bank (R184). -/
def bankRange (t : Nat) (p : Pkt) (n : Nat) : Option Nat :=
  match bankAt t with
  | none => none
  | some b => if p.addr + n ≤ 0x400000 then some (bankBase b + p.addr) else none

/-- A write from another node into a mirrored partition (R193). -/
def State.mirrorRefused (s : State) (p : Pkt) (a : Nat) : Bool := eidNode p.src != s.node && s.mirrored a

/-- Bytes of a TLP write with its byte enables: runs of enabled bytes at their offsets (R186, R306). -/
def tlpRuns (x : Tlp) (data : List Word) : List (Nat × List Nat) :=
  let n := data.length
  let en (i : Nat) : Bool :=
    if n = 1 then bit x.fbe (i % 4) else if i / 4 = 0 then bit x.fbe i else if i / 4 = n - 1 then bit x.lbe (i % 4) else true
  let bs := wordsBytes data
  let cells := (List.range (4 * n)).filter en
  cells.foldr (fun i acc => match acc with
    | (j, r) :: rest => if i + 1 = j then (i, bs.getD i 0 :: r) :: rest else (i, [bs.getD i 0]) :: acc
    | [] => [(i, [bs.getD i 0])]) []

/-- The bytes a packet writes, as runs at offsets, and whether they are poisoned. -/
def writeRuns (p : Pkt) : List (Nat × List Nat) × Bool :=
  match p.tlp with
  | some x => if p.kind = kTLP then (tlpRuns x p.data, x.ep) else ([(0, wordsBytes p.data)], p.status == 4)
  | none => ([(0, wordsBytes p.data)], false)

/-- A bank performs a write packet: its status and the state after. -/
def State.bankStore (s : State) (t : Nat) (p : Pkt) : Status × State :=
  match bankRange t p (4 * p.data.length) with
  | none => (.unsupported, s)
  | some a =>
    if s.mirrorRefused p a then (.unsupported, s.doIf (pktClass p == 0) (·.count (C_CT_MIRROR_REFUSE (bankOf a))))
    else
      let (runs, bad) := writeRuns p
      runs.foldl (fun (acc : Status × State) r =>
        let (st, u) := acc.2.bankWrite (a + r.1) r.2 bad (some (resKey p))
        (firstBad acc.1 st, u)) (.ok, s)

/-- Data of a read response: dwords, with the response's status. -/
def State.dataBack (s : State) (t : Nat) (p : Pkt) (st : Status) (bs : List Nat) : State :=
  if st = .ok ∨ st = .poisoned then s.answerAt t (mkCplD p st (bytesWords bs)) else s.cplBack t p st

/-- READ: the NI of tile `t` serves the oldest read delivered to it. Only a bank has a space to read. -/
def State.serveRead (s : State) (t : Nat) (p : Pkt) : State :=
  match bankRange t p (4 * reqLen p) with
  | none => s.cplBack t p .unsupported
  | some a =>
    let (bs, st, s) := s.bankRead a (4 * reqLen p)
    s.dataBack t p st bs

/-- FLUSHING_READ (R241): answered by the tile NI itself. -/
def execFlushingRead (t : Nat) (s : State) : Out :=
  act s (match s.takeArrived t flushRead with
    | (none, s) => s.smIgnored
    | (some p, s) => s.answerAt t (mkCplD p .ok []))

/-- OP, SIZE and operands of an ATOMIC or AtomicOp. -/
def atomicArgs (p : Pkt) : Nat × Nat × Nat × Nat :=
  let d (i : Nat) : Nat := (p.data.getD i 0).toNat
  (d 0 % 16, atomicSize p, d 2 + d 3 * 2 ^ 32, d 4 + d 5 * 2 ^ 32)

/-- ATOMIC (R77, R216): an AtomicOp TLP carries the same operand dwords, and one wider than 8 bytes is unsupported. -/
def execAtomic (t : Nat) (s : State) : Out :=
  act s (match s.takeArrived t (fun p => p.kind == kATOMIC || isTlp p tyAtomic) with
    | (none, s) => s.smIgnored
    | (some p, s) =>
      let (op, size, o1, o2) := atomicArgs p
      match (if p.kind = kTLP ∧ bit ((p.data.getD 0 0).toNat) 5 then none else bankRange t p size) with
      | none => s.cplBack t p .unsupported
      | some a =>
        let (old, st, s) := s.bankAtomic a size op o1 o2
        s.dataBack t p st (leBytes 8 old))

/-- RESERVE_READ (R247). -/
def execReserveRead (t : Nat) (s : State) : Out :=
  act s (match s.takeArrived t (fun p => p.kind == kRESERVE) with
    | (none, s) => s.smIgnored
    | (some p, s) => match bankRange t p (4 * p.len) with
      | none => s.cplBack t p .unsupported
      | some a =>
        let (bs, st, s) := s.bankReserve a (4 * p.len) (resKey p)
        s.dataBack t p st bs)

/-- COND_WRITE (R249). -/
def execCondWrite (t : Nat) (s : State) : Out :=
  act s (match s.takeArrived t (fun p => p.kind == kCOND) with
    | (none, s) => s.smIgnored
    | (some p, s) => match bankRange t p (4 * p.data.length) with
      | none => s.cplBack t p .unsupported
      | some a =>
        let (st, s) := s.bankCond a (wordsBytes p.data) (resKey p)
        s.cplBack t p st)

/-- MSG (R78): the unit at tile `t` acts on the code; a code that it does not define does nothing. -/
def execMsg (t : Nat) (s : State) : Out :=
  act s (match s.takeArrived t (fun p => p.kind == kMSG) with
    | (none, s) => s.smIgnored
    | (some p, s) =>
      let code := p.addr % 65536
      match tileUnit t with
      | .kt e => if code = 0x0601 then s.ringMsg e p else s
      | .ct b => if code = 0x0602 then s.dirtyMsg b p else s
      | _ => if t = tlTile ∧ code = telCode then s.traceMsg p else s)

/-! ### Responses (R94 to R99, R192) -/

/-- The status that a response carries. -/
def cplStatus (c : Pkt) : Status :=
  [Status.ok, .pathLost, .targetAsleep, .guardFault, .poisoned, .timeout, .unsupported, .targetAbort, .retired,
    .reservationLost, .locked, .busy].getD c.status .ok

/-- A part of an access is answered. -/
def State.partDone (s : State) (id pos : Nat) (st : Status) (data : List Word) : State :=
  s.accMap id (fun (a : MAcc) => { a with left := a.left - 1, status := firstBad a.status st, data := putAt a.data pos data })

/-- One copy of a mirrored write is answered: the write is OK if either copy is (R192). -/
def State.copyDone (s : State) (id pos : Nat) (st : Status) : State :=
  s.accMap id (fun (a : MAcc) => match a.pair.find? (fun x => x.1 == pos) with
    | none => { a with left := a.left - 1, pair := a.pair ++ [(pos, st.code)] }
    | some x =>
      let st' := if st = .ok ∨ x.2 = 0 then a.status else firstBad a.status st
      { a with left := a.left - 1, status := st' })

/-- The mirrored partition and the copy's address, when a request of this node went to a primary whose copy is not lost
(R192). -/
def State.primaryOf (s : State) (p : Pkt) : Option (Nat × Nat) :=
  match (if eidNode p.dest = s.node ∧ eidSub p.dest = 31 then bankAt (eidPort p.dest) else none) with
  | none => none
  | some b =>
    let a := bankBase b + p.addr
    match s.partOf a with
    | some n => if s.mirrorOf n = 0 ∨ (s.on (PART_STAT_DEGRADED n) ∧ s.on (PART_STAT_LOST n)) then none else some (n, a + s.mirrorOf n)
    | none => none

/-- The mirrored partition whose copy holds a request's target. -/
def State.copyPart (s : State) (p : Pkt) : Option Nat :=
  match (if eidNode p.dest = s.node ∧ eidSub p.dest = 31 then bankAt (eidPort p.dest) else none) with
  | none => none
  | some b =>
    let a := bankBase b + p.addr
    (List.range 32).find? (fun n => s.on (PART_CTL_EN n) && s.mirrorOf n != 0 &&
      decide (s.partBase n + s.mirrorOf n ≤ a ∧ a < s.partEnd n + s.mirrorOf n))

/-- A RETIRED answer loses the copy it came from. -/
def State.copyLoses (s : State) (p : Pkt) (st : Status) : State :=
  if st ≠ .retired then s
  else match s.primaryOf p with
    | some (n, _) => s.loseCopy n 0
    | none => match s.copyPart p with | some n => s.loseCopy n 1 | none => s

/-- What the completion of entry `e` with a status and data does beyond the entry (R95, R236). -/
def State.orgDone (s : State) (t : Nat) (e : RoEntry) (st : Status) (data : List Word) : State :=
  match e.org with
  | .native id pos => ((s.copyLoses e.req st).partDone id pos st data).accSettle t
  | .mirror id pos => ((s.copyLoses e.req st).copyDone id pos st).accSettle t
  | .flush id => (s.flushStep id st).barFlush id

/-- A completed entry: it retires normally, its result goes to its master, and a waiting request takes the entry. -/
def State.entryDone (s : State) (t tag : Nat) (e : RoEntry) (st : Status) (data : List Word) : State :=
  ((s.roDone t tag).orgDone t e st data).roNextWait t

/-- Keeps an entry outstanding with its request and the bytes still to come changed. -/
def State.roKeep (s : State) (t tag : Nat) (e : RoEntry) (req : Pkt) (left : Nat) : State :=
  { s with req := { s.req with ro := tset s.req.ro (roKey t tag) (({ e with req := req, left := left } : RoEntry)) } }

/-- The status that stands for a device's completion status other than Successful Completion, so that Table 3-8 gives it back:
1 Unsupported Request, 2 Request Retry Status, 4 Completer Abort (R94, R308). -/
def deviceStatus (code : Nat) : Status := if code = 1 then .unsupported else if code = 2 then .reservationLost else .targetAbort

/-- A matching response at the NI of tile `t`. -/
def State.response (s : State) (t : Nat) (c : Pkt) (e : RoEntry) : State :=
  let st := cplStatus c
  let isRead := e.req.kind == kREAD || isTlp e.req tyMRd
  let part := covers e.req
  match (if isRead ∧ (st = .poisoned ∨ st = .retired) ∧ reqLen e.req ≠ 0 then s.primaryOf e.req else none) with
  | some (n, copy) =>
    -- The read part is reissued to the copy under the same entry and GEN (R192).
    let s := (s.count C_CT_MIRROR_REREAD).doIf (st == .retired) (·.loseCopy n 0)
    let req : Pkt := { e.req with dest := tileEid s.node (ctTile (bankOf copy)), addr := copy % 0x400000 }
    (s.roKeep t c.tag e req e.left).inject t req none
  | none => match c.tlp with
    | some x =>
      -- Completion TLPs of a device: the entry retires when they cover the request or one fails (R94).
      let pos := if part then reqLen e.req - e.left else 0
      if x.cplst ≠ 0 ∨ !part ∨ e.left ≤ c.data.length then
        let st' := if x.cplst = 0 then (if x.ep then .poisoned else .ok) else deviceStatus x.cplst
        match e.org with
        | .native id p => s.entryDone t c.tag ({ e with org := .native id (p + pos) } : RoEntry) st' c.data
        | _ => s.entryDone t c.tag e st' c.data
      else
        let s := match e.org with
          | .native id p => s.accMap id (fun (a : MAcc) =>
              let st' := if x.ep then firstBad a.status .poisoned else a.status
              { a with status := st', data := putAt a.data (p + pos) c.data })
          | _ => s
        s.roKeep t c.tag e e.req (e.left - c.data.length)
    | none => s.entryDone t c.tag e st c.data

/-- QUARANTINE_END (R98): the entry may be allocated again. -/
def execQuarantineEnd (t tag : Nat) (s : State) : Out :=
  act s (match tget s.req.ro (roKey t tag) with
    | none => s.smIgnored
    | some e =>
      if e.st ≠ 2 ∨ 65536 ≤ tag then s.smIgnored
      else
        let e' : RoEntry := { e with st := 0 }
        ({ s with req := { s.req with ro := tset s.req.ro (roKey t tag) e' } }).roNextWait t)

end Sys2Proof.Machine
end

