-- ==== Sys2Proof/Machine/Planes.lean ====
section
/-! DEFINITION. Delivery, receipts, router credits and fences, and the service states of the two planes
(R100 to R125, R144 to R147, R405, R418). -/

namespace Sys2Proof.Machine

/-! ### Router credits and fences (R103, R108, R124, R125) -/

def credKey (p t d vc : Nat) : Nat := ((p * 64 + t) * 5 + d) * 8 + vc

/-- Flits of a VC buffer (R103). -/
def vcDepth (vc : Nat) : Nat := if 6 ≤ vc then 4 else 8

/-! The grid -/

/-- Direction in which router `t` sends a head flit for tile `d` (R106). -/
def xyDir (t d : Nat) : Nat :=
  if t % 8 < d % 8 then 1 else if d % 8 < t % 8 then 3 else if t < d then 2 else if d < t then 0 else 4

/-- The tile next to `t` in a direction; for Local the tile itself. -/
def nextTile (t d : Nat) : Nat := if d = 0 then t - 8 else if d = 1 then t + 1 else if d = 2 then t + 8 else if d = 3 then t - 1 else t

/-- The side from which what leaves in a direction arrives. -/
def backDir (d : Nat) : Nat := (d + 2) % 4

/-- Has a router a port in a direction: no link leaves the grid, and a pass tile has no local port (R103)? -/
def hasPort (t d : Nat) : Bool := decide (t < 64) && (if d = 4 then !passTiles.contains t else decide (d < 4) && linkStages t d != 0)

/-- Key of the credits of an NI for the local input of its router. -/
def niKey (p t vc : Nat) : Nat := 5120 + (p * 64 + t) * 8 + vc

/-- The plane of a credit key. -/
def keyPlane (k : Nat) : Nat := if k < 5120 then k / 2560 else (k - 5120) / 512

/-- The credit counter that feeds input `i` of router `t`, and the stages its credits take back (R103, R108). -/
def feedKey (p t i vc : Nat) : Nat := if i = 4 then niKey p t vc else credKey p (nextTile t i) (backDir i) vc
def feedStages (t i : Nat) : Nat := if i = 4 then 0 else linkStages t i

/-- A credit comes back to a counter. -/
def State.creditUp (s : State) (k : Nat) : State :=
  { s with mesh := { s.mesh with credUsed := tput 0 s.mesh.credUsed k (tgetD s.mesh.credUsed k 0 - 1) } }

/-- CREDIT_RETURN (R108): a credit returns to output `d` of router `t`. One beyond the depth has no meaning; a fenced input
returns none (R125). -/
def execCreditReturn (p t d vc : Nat) (s : State) : Out :=
  let k := credKey p t d vc
  let n := tgetD s.mesh.credUsed k 0
  if 2 ≤ p ∨ !hasPort t d ∨ 8 ≤ vc ∨ (d < 4 ∧ bit (s.get (RT_FENCE_PORTS p (nextTile t d))) (backDir d)) then act s s.smIgnored
  else if n = 0 ∧ !s.stopped then .fault .creditOverflow
  else act s (({ s with mesh := { s.mesh with crBack := dropFirst (fun e => e.1 == k) s.mesh.crBack } }).creditUp k)

/-- The credits that a fenced input has kept back return when its fence is lifted: what stays in use is what its buffer holds
and what is on its way (R125). -/
def State.fenceLift (s : State) (p t i : Nat) : State :=
  s.forEach (List.range 8) (fun vc u =>
    let k := feedKey p t i vc
    let n := (u.mesh.rbuf.filter (fun f => f.plane == p && f.tile == t && f.inp == i && f.vc == vc)).length
      + (u.mesh.crBack.filter (fun e => e.1 == k)).length
    { u with mesh := { u.mesh with credUsed := tput 0 u.mesh.credUsed k n } })

/-- Does any router of a plane hold a fence bit? -/
def State.planeFenced (s : State) (p : Nat) : Bool := (List.range 64).any (fun t => s.get (RT_FENCE_PORTS p t) != 0)

/-- A write of RTPt_FENCE (R125): whether it is done, and the state after. Lifting a fence clears DONE. -/
def State.setRouterFence (s : State) (p t v : Nat) : Bool × State :=
  let old := s.get (RT_FENCE_PORTS p t)
  let sets := (List.range 5).any (fun i => bit v i && !bit old i)
  let lifted := (List.range 5).filter (fun i => !bit v i && bit old i)
  if sets ∧ (s.plane (1 - p) ≠ pIN ∨ s.planeFenced (1 - p)) then (false, s.cfgBusy)
  else (true, ((s.put (RT_FENCE_PORTS p t) v).put (RT_FENCE_STAT_DONE p t) (s.get (RT_FENCE_STAT_DONE p t) &&& v)).forEach lifted (fun i u => u.fenceLift p t i))

/-- A write of RTPt_CTL (R124): CE_INT_EN always takes its value; HI_WEIGHT only while fenced or OUT. -/
def State.setRouterCtl (s : State) (p t v : Nat) : Bool × State :=
  let w := v % 16
  let s := s.put (RT_CTL_CE_INT_EN p t) (b2n (bit v 4))
  if w = s.get (RT_CTL_HI_WEIGHT p t) then (true, s)
  else if s.plane p = pOUT ∨ (s.get (RT_FENCE_PORTS p t) = 31 ∧ s.get (RT_FENCE_STAT_DONE p t) = 31) then
    (true, s.put (RT_CTL_HI_WEIGHT p t) w)
  else (false, s.cfgBusy)

/-- Records the port and VC of a router's first error since all its error bits were clear. -/
def State.rtErr (s : State) (p t : Nat) (f : Fld) (port vc : Nat) : State :=
  let s := if s.rd (R_RT_ERR p t) % 16 = 0 then (s.put (RT_ERR_FIRST_PORT p t) port).put (RT_ERR_FIRST_VC p t) vc else s
  s.put f 1

/-- ROUTER_CE (R121). -/
def execRouterCe (p t d vc : Nat) (s : State) : Out :=
  act s (if 2 ≤ p ∨ !hasPort t d ∨ 8 ≤ vc then s.smIgnored
    else (s.count (C_RT_CE_CNT p t)).rtErr p t (RT_ERR_CE p t) d vc)

/-! ### Receipts (R117, R118) -/

/-- The receipt word for what egress tile `e` last delivered to (source, plane, VC). -/
def State.sendReceipt (s : State) (r : Receipt) : State :=
  let same (x : Receipt) : Bool := x.tgt == r.tgt && x.egr == r.egr && x.pl == r.pl && x.vc == r.vc && !x.fin
  { s with mesh := { s.mesh with rcpts := s.mesh.rcpts.filter (fun x => !same x) ++ [r] } }

/-- Has a fence been met: no packet up to its mark is kept any more? -/
def State.fenceOpen (s : State) (f : Fence) : Bool :=
  !s.mesh.kept.any (fun k => k.tile == f.tile && k.dtile == f.dtile && k.plane == f.from_ && k.vc == f.vc &&
    decide ((f.mark + 4096 - k.iseq) % 4096 < 2048))

/-- FLOW_FENCE_RELEASE (R118): fences of tile `t` towards tile `d` whose mark is covered. -/
def execFlowFenceRelease (t d : Nat) (s : State) : Out :=
  let go (f : Fence) : Bool := f.tile == t && f.dtile == d && s.fenceOpen f
  act s (if s.mesh.fences.any go then
      ({ s with mesh := { s.mesh with fences := s.mesh.fences.filter (fun f => !go f) } }).retry
        (fun (h : Held) => h.tile == t && h.why == HoldWhy.fence)
    else s.smIgnored)

/-! ### Planes (R120 to R123, R405) -/

/-- Quadrant domains of a plane. -/
def planeDoms (p : Nat) : List Nat := (List.range 4).map (fun q => 52 + 4 * p + q)

/-- Moves a plane to a service state; its quadrant domains hold the PLANE vote while it is not OUT (R359). -/
def State.planeTo (s : State) (p st : Nat) : State :=
  (s.setPlane p st).forEach (planeDoms p) (fun d u =>
    if st = pOUT then u.dropVote d (PW_DOM_VOTE_PLANE d) else u.castVote d (PW_DOM_VOTE_PLANE d) 4)

/-- The routers of a plane start anew: buffers empty, no VC held, credit counters at their depth (Table 4-5). -/
def State.resetCredits (s : State) (p : Nat) : State :=
  let other (e : Nat × Nat) : Bool := keyPlane e.1 != p
  { s with mesh := { s.mesh with
    rbuf := s.mesh.rbuf.filter (fun f => f.plane != p)
    credUsed := s.mesh.credUsed.filter other
    crBack := s.mesh.crBack.filter other
    owner := s.mesh.owner.filter other
    rrAt := s.mesh.rrAt.filter other
    hiRun := s.mesh.hiRun.filter other } }

/-- OUT to RETURNING (Table 4-5). -/
def State.planeReturn (s : State) (p : Nat) : State := (s.resetCredits p).planeTo p pRETURNING

/-- The REQ bit of a plane is written (R120, Table 4-5): whether the write is done, and the state after. -/
def State.planeReqWrite (s : State) (p v : Nat) : Bool × State :=
  let st := s.plane p
  let old := s.get (planeReq p)
  if v = 1 then
    if st = pOUT then (true, (s.put (planeReq p) 1).planeReturn p)
    else if st = pFENCING ∧ old = 0 then (false, s.cfgBusy)
    else if old = 1 then (true, s)
    else (true, (s.put (planeReq p) 1).smIgnored)
  else if old = 0 then (true, s)
  else if st = pIN then
    if s.plane (1 - p) = pIN then (true, ((s.put (planeReq p) 0).setFences p p).planeTo p pFENCING)
    else (false, s.cfgBusy)
  else (true, (s.put (planeReq p) 0).smIgnored)

/-- PLANE_FENCE_DONE (Table 4-5): no NI keeps anything for the FENCING plane. -/
def execPlaneFenceDone (p : Nat) (s : State) : Out :=
  act s (if 2 ≤ p ∨ s.plane p ≠ pFENCING ∨ s.mesh.kept.any (fun k => k.plane == p) ∨ s.mesh.fly.any (fun f => f.plane == p) then s.smIgnored
    else s.planeTo p pOUT)

/-- Takes the plane's flights off the mesh: a TC7 copy is discarded, a retained packet stays in its source's store. -/
def State.dropFlights (s : State) (p : Nat) : State :=
  let gone := s.mesh.fly.filter (fun f => f.plane == p)
  let s := { s with mesh := { s.mesh with fly := s.mesh.fly.filter (fun f => f.plane != p), rbuf := s.mesh.rbuf.filter (fun f => f.plane != p) } }
  s.forEach (gone.filter (fun f => !f.ret)) (fun f u => (u.resLeave f.pkt).inflight (tileDomain f.dtile) false)

/-- The final receipts of a failed plane: what each egress NI last delivered from it (R122). -/
def State.finals (s : State) (p : Nat) : List Receipt :=
  (s.mesh.egr.filter (fun e => e.1 / 8 % 2 == p)).map (fun e =>
    ⟨e.1 / 16 % 64, e.1 / 1024, p, e.1 % 8, e.2, true⟩)

/-- Resends the packets that tile `t` keeps for tile `d` on plane `p0`, in ISEQ order, on plane `q`, and counts them; what the
retention store of `q` cannot take yet stays where it is (R122 step 4). -/
def State.resendKept (s : State) (t d p0 q : Nat) : State :=
  let mine (k : Kept) : Bool := k.tile == t && k.dtile == d && k.plane == p0
  let r := (s.mesh.kept.filter mine).foldl (fun (acc : State × Bool) k =>
    let u := acc.1
    let v := { u with mesh := { u.mesh with kept := u.mesh.kept.filter (fun x => x.id != k.id) } }
    if !acc.2 ∨ 512 < v.keptFlits t q + pktFlits k.pkt then (u, false)
    else
      let u := v
      ((((u.inflight (tileDomain d) false).launch t d q true k.port k.pkt k.guard (some k.id)).count (C_NI_PLANE_RESEND (niBase t))), true)) (s, true)
  r.1.showRetain t

/-- What tile `t` keeps from planes out of service goes out again on a plane in service, for every tile whose END has come. -/
def State.resendAt (s : State) (t : Nat) : State :=
  match [0, 1].find? (fun q => s.plane q == pIN) with
  | none => s
  | some q =>
    let ds := ((s.mesh.kept.filter (fun k => k.tile == t && k.plane == 1 - q && s.planeLost (1 - q))).map (·.dtile)).dedup
    s.forEach (ds.filter (fun d => !s.mesh.ends.contains (1 - q, t, d))) (fun d u => u.resendKept t d (1 - q) q)

/-- The END word from tile `d` has reached source tile `t` (R122). Final receipts reach it first. -/
def State.endWord (s : State) (p t d : Nat) : State :=
  let mine (r : Receipt) : Bool := r.fin && r.tgt == t && r.egr == d && r.pl == p
  let fs := s.mesh.rcpts.filter mine
  let s := { s with mesh := { s.mesh with
    rcpts := s.mesh.rcpts.filter (fun r => !mine r)
    ends := s.mesh.ends.filter (fun e => e != (p, t, d)) } }
  let s := s.forEach fs (fun r u => u.freeKept r)
  (s.resendAt t).retry (fun (h : Held) => h.tile == t && h.why == HoldWhy.fence)

/-- PLANE_RESEND_DONE (Table 4-5): nothing of the plane waits to be sent again. -/
def execPlaneResendDone (p : Nat) (s : State) : Out :=
  act s (if 2 ≤ p ∨ s.plane p ≠ pFAILED ∨ s.mesh.kept.any (fun k => k.plane == p) then s.smIgnored
    else (s.planeTo p pOUT).put (planeFault p) 1)

/-- A hard fault of plane `p` (Table 4-6, R122, R405). `flags` are the flags of the fault record. -/
def State.planeFail (s : State) (p cause flags : Nat) : State :=
  let q := 1 - p
  let st := s.plane p
  let s := s.put (planeCause p) cause
  if st = pRETURNING then
    ((s.planeTo p pOUT).put (planeFault p) 1).logFault 1 p cause flags
  else
    let s := s.dropFlights p
    -- A plane that is being removed stays, because the other one fails (Table 4-5).
    let s := if s.plane q = pFENCING then
        let fs := s.mesh.fences.filter (fun f => f.from_ != q)
        (({ s with mesh := { s.mesh with fences := fs } }).put (planeReq q) 1).setPlane q pIN
      else s
    if s.plane q = pIN then
      -- Every egress NI sends END to every NI (R122 step 3).
      let who := niTiles.flatMap (fun t => niTiles.map (fun d => (p, t, d)))
      let s := { s with mesh := { s.mesh with
        rcpts := s.mesh.rcpts ++ s.finals p
        ends := s.mesh.ends.filter (fun (e : Nat × Nat × Nat) => e.1 != p) ++ who
        fences := s.mesh.fences.filter (fun f => f.from_ != p) } }
      (((s.setPlane p pFAILED).logFault 1 p cause flags).retry (fun (h : Held) => h.why == HoldWhy.fence))
    else
      -- The only plane in service: the mesh stops (R405).
      let lost := s.mesh.held.filter (fun h => h.pkt.tc == 7)
      let s := { s with mesh := { s.mesh with
        held := s.mesh.held.filter (fun h => h.pkt.tc != 7)
        rcpts := []
        ends := []
        fences := [] } }
      -- No NI can resend from a plane that failed before (Table 4-5).
      let s := if s.plane q = pFAILED then (s.planeTo q pOUT).put (planeFault q) 1 else s
      let s := s.forEach lost (fun h u => (u.count (elimBase h.tile + 8)).resLeave h.pkt)
      (((s.planeTo p pOUT).put (planeFault p) 1).logFault 2 p cause flags).faultGen

/-- The router error bit that a cause sets; none for a loss of clock or supply. -/
def rtErrBit (p t cause : Nat) : Option Fld :=
  if cause = 1 ∨ cause = 2 then some (RT_ERR_UE p t) else if cause = 3 then some (RT_ERR_CHK p t)
  else if cause = 4 then some (RT_ERR_CRPAR p t) else none

/-- PLANE_HARD_FAULT: a fault of Table 4-6, causes 1 to 6, seen at input `port` and `vc` of router `t`. -/
def execPlaneHardFault (p cause t port vc : Nat) (s : State) : Out :=
  act s (if 2 ≤ p ∨ cause = 0 ∨ 7 ≤ cause ∨ !hasPort t port ∨ s.plane p = pOUT ∨ s.plane p = pFAILED then s.smIgnored
    else
      let s := match rtErrBit p t cause with | some f => s.rtErr p t f port vc | none => s
      s.planeFail p cause 0)

/-- A plane enters service. Beside a plane in service, the flows whose hash names it move back under R118; alone, it
carries everything that the NIs still keep (R405). -/
def State.planeUp (s : State) (p : Nat) : State :=
  let q := 1 - p
  let alone := s.plane q ≠ pIN
  let s := s.planeTo p pIN
  if !alone then s.setFences q p
  else
    let s := s.forEach (s.finals 0 ++ s.finals 1) (fun r u => u.freeKept r)
    let who := (s.mesh.kept.map (fun k => (k.tile, k.dtile, k.plane))).dedup
    let s := s.forEach who (fun k u => u.resendKept k.1 k.2.1 k.2.2 p)
    s.retry (fun (h : Held) => h.why == HoldWhy.noPlane || h.why == HoldWhy.fence)

/-- What the end of a self-test does (Table 4-5). -/
def State.selftestDone (s : State) (p : Nat) (pass : Bool) : State :=
  if 2 ≤ p ∨ s.plane p ≠ pRETURNING then s.smIgnored
    else if !pass then
      (((s.put (planeCause p) 7).planeTo p pOUT).put (planeFault p) 1).fault 1 p 7
    else if (planeDoms p).any (fun d => s.dom d != dON) then s.smIgnored
    else s.planeUp p

/-! ### Delivery (R105, R117, R100, R112) -/

/-- Is a packet's destination NI on this node, so that delivery ends its stay here? -/
def State.lands (s : State) (p : Pkt) : Bool := eidNode p.dest == s.node

/-- The delivering NI's check for an arrival behind a newer epoch (R153). -/
def State.epochSee (s : State) (t : Nat) (p : Pkt) : State :=
  if eidNode p.src = s.node then s
  else
    let k := t * 4096 + eidNode p.src
    let b := match tileUnit t with | .pt c => ptBase c + 0x5F00 | .ct c => ctBase c + 0x5F00 | .kt e => ktBase e + 0x5F00 | _ => 0
    let draining := s.bank p.repoch == 3
    let s := s.doIf (draining && tget s.mesh.epochSeen k == some (1 - p.repoch) && b != 0) (·.count (C_NI_EPOCH_INV b))
    if draining then s else { s with mesh := { s.mesh with epochSeen := tset s.mesh.epochSeen k p.repoch } }

/-- A native packet as the TLP that the egress PT NI makes of it (R306). -/
def State.toTlp (s : State) (p : Nat) (k : Pkt) : Option Tlp :=
  let c := portC p
  let i := portK p
  let pas := if k.pasid = 0 then none else some k.pasid
  let x : Tlp := { tlp0 with part := 0, ptc := s.get (PCFG_NATIVE_TC c i), addr := k.addr, rid := s.get (PCFG_RID_RID c i), fbe := 15, lbe := 15, pasid := pas, ep := (k.status == 4) }
  if k.kind = kREAD then some { x with cls := 1, typ := tyMRd, bytes := 4 * max 1 k.len, fbe := if k.len = 0 then 0 else 15, lbe := if k.len ≤ 1 then 0 else 15 }
  else if k.kind = kWRITE_P then some { x with cls := 0, typ := tyMWr, lbe := if k.len ≤ 1 then 0 else 15 }
  else if k.kind = kWRITE_NP then some { x with cls := 1, typ := tyMWr, lbe := if k.len ≤ 1 then 0 else 15 }
  else if k.kind = kATOMIC ∧ s.on (PCFG_ATOMIC_EGRESS c i) then some { x with cls := 1, typ := tyAtomic }
  else none

/-- Slots bound to a port. -/
def State.slotsOf (s : State) (p : Nat) : List Nat := (List.range 64).filter (fun n => s.get (SLOT_CFG_PORT n) == p)

def State.slotSt (s : State) (n : Nat) : Nat := s.get (SLOT_STAT_STATE n)

def slFAULT : Nat := 7

/-- Is a slot of the port in FAULT? Such a port trains no link and answers as a contained one (R314). -/
def State.slotFaulty (s : State) (p : Nat) : Bool := (s.slotsOf p).any (fun n => s.slotSt n == slFAULT)

/-- Is a PCI Express port closed to a packet: contained, its slot in FAULT, or with DPC Trigger Status set in the packet's
partition (R311, R314)? -/
def State.portClosed (s : State) (p : Nat) (k : Pkt) : Bool :=
  s.get (PCFG_LSTAT_STATE (portC p) (portK p)) == 3 || s.slotFaulty p ||
    (match k.tlp with | some x => k.kind == kTLP && s.pc.dpc.contains (p, x.part) | none => false)

/-- A packet that a closed port turns away (R311). -/
def State.closedAt (s : State) (p : Nat) (k : Pkt) : State :=
  if pktClass k = 1 then s.respondAt (ptTile (portC p)) (some (mkCpl k .pathLost))
  else s.count (C_PCFG_DPC_DISCARD (portC p) (portK p))

/-- Delivery of a packet at a PCI Express port of this node. -/
def State.deliverPcie (s : State) (p : Nat) (k : Pkt) : State :=
  let t := ptTile (portC p)
  if eidSub k.dest = 1 ∨ pktClass k = 2 ∨ pktClass k = 3 then (s.resLeave k).arrive t k
  else if s.portClosed p k then (s.resLeave k).closedAt p k
  else if k.kind = kTLP then (s.resLeave k).enqueue p k
  else match s.toTlp p k with
  | some x => (s.resLeave k).enqueue p { k with tlp := some x }
  | none =>
    let s := s.resLeave k
    if pktClass k = 1 then s.respondAt t (some (mkCpl k .unsupported)) else s.count (C_PCFG_UR_RX (portC p) (portK p))

/-- A packet for another node at the PT NI of a fabric port, after the transit filter (R73, R156, R157). -/
def State.deliverFabric (s : State) (p : Nat) (k : Pkt) : State :=
  let t := ptTile (portC p)
  if k.hops = 6 then
    let s := (s.count (C_NI_HOPS_DROP (niBase t))).resLeave k
    if pktClass k = 1 then s.respondAt t (some (mkCpl k .pathLost)) else s
  else if k.tc = 7 ∧ s.get (LNK_STAT_STATE (portC p) (portK p)) ≠ 4 then
    (s.count (C_LNK_TC7_DOWN (portC p) (portK p))).resLeave k
  else s.enqueue p k

/-- Delivery at the NI of a tile. -/
def State.deliverTile (s : State) (t : Nat) (k : Pkt) : State :=
  let s := s.resLeave k
  if isPlume k then { s with kt := { s.kt with plume := s.kt.plume ++ [(t, k)] } }
  else match k.tlp with
  | some x =>
    if k.kind = kTLP ∧ x.cls ≠ 2 ∧ x.typ ≠ tyMRd ∧ x.typ ≠ tyMWr ∧ x.typ ≠ tyDMWr ∧ x.typ ≠ tyAtomic then
      (if x.cls = 1 then s.respondAt t (some (mkCpl k .unsupported)) else s)
    else s.arrive t k
  | none => s.arrive t k

/-- Bytes in the plume buffer of a tile (R218). -/
def State.plumeBytes (s : State) (t : Nat) : Nat := ((s.kt.plume.filter (fun x => x.1 == t)).map (fun x => pktBytes x.2)).sum

/-- Must the egress NI withhold acceptance of a packet for want of room (R112, R157, R218)? -/
def State.noRoom (s : State) (f : Flight) : Bool :=
  match f.port with
  | some p => decide (f.pkt.tc < 6) && pktClass f.pkt != 2 && !s.portClosed p f.pkt && eidSub f.pkt.dest != 1 && !s.qRoom p f.pkt
      || decide (f.pkt.tc < 6) && pktClass f.pkt == 2 && s.portKind p == kindRunnel && !s.qRoom p f.pkt
  | none => isPlume f.pkt && decide (32768 < s.plumeBytes f.dtile + pktBytes f.pkt)

/-- The header checks of an egress NI (R100); those of a packet in transit leave the destination alone. -/
def State.hdrStop (s : State) (f : Flight) : Option State :=
  let o := s.hdrFail f.pkt
  if o = 0 then none
  else
    let s := (s.hdrErr f.dtile o f.pkt).resLeave f.pkt
    some (if 3 ≤ o ∧ o ≤ 5 ∧ pktClass f.pkt = 1 then s.respondAt f.dtile (some (mkCpl f.pkt .unsupported)) else s)

/-- What the egress NI does with a packet whose tail has arrived. -/
def State.deliver (s : State) (f : Flight) : State :=
  match s.hdrStop f with
  | some s => s
  | none =>
    let k := f.pkt
    let fabric := match f.port with | some p => s.portKind p == kindRunnel | none => false
    if k.tc = 7 then
      if fabric then
        let (go, u) := s.transitFilter f.dtile (s.plane (1 - f.plane) == pIN) k
        if go then u.deliverFabric (f.port.getD 0) k else u.resLeave k
      else if elimBase f.dtile = 0 then s.resLeave k
      else
        let (go, u) := s.eliminate f.dtile (k.tag % 32768) k.seq
        let u := u.doIf go (·.epochSee f.dtile k)
        if !go then u.resLeave k
        else match f.port with | some p => u.deliverPcie p k | none => u.deliverTile f.dtile k
    else
      let s := if fabric then s else s.epochSee f.dtile k
      match f.port with
      | some p => if fabric then s.deliverFabric p k else s.deliverPcie p k
      | none => s.deliverTile f.dtile k

end Sys2Proof.Machine
end

