-- ==== Sys2Proof/Machine/Router.lean ====
section
/-! DEFINITION. The routers of the two planes, cycle by cycle: injection, arbitration, virtual channels, credits and the arrival
of packets at egress NIs (R90, R91, R103 to R112, R117, R125). -/

namespace Sys2Proof.Machine

/-! ### What an output may grant (R106, R108 to R110) -/

/-- The flits at the heads of a router's buffers, one per input and VC. -/
def State.bufHeads (s : State) (p t : Nat) : List RFlit :=
  (s.mesh.rbuf.filter (fun f => f.plane == p && f.tile == t)).foldl
    (fun l f => if l.any (fun g => g.inp == f.inp && g.vc == f.vc) then l else l ++ [f]) []

def State.flightOf (s : State) (id : Nat) : Option Flight := s.mesh.fly.find? (fun f => f.id == id)

/-- May a flit leave on output `d` now: its two cycles are over, a credit is there, its packet holds the VC or takes it, and
the NI of a last tile accepts the packet (R104, R108, R109, R112)? -/
def State.mayLeave (s : State) (d : Nat) (f : RFlit) : Bool :=
  let k := credKey f.plane f.tile d f.vc
  decide (f.at_ ≤ s.mesh.fcyc) && xyDir f.tile f.dtile == d && decide (tgetD s.mesh.credUsed k 0 < vcDepth f.vc)
    && (if f.head then (tget s.mesh.owner k).isNone else tget s.mesh.owner k == some f.id)
    && (d != 4 || !f.head || (match s.flightOf f.id with | some x => !s.noRoom x | none => true))

/-- The first of `l` after place `last` in a round of 64 places. -/
def rrPick (last : Nat) (idx : RFlit → Nat) : List RFlit → Option RFlit
  | [] => none
  | f :: r => match rrPick last idx r with
    | none => some f
    | some g => if (idx g + 127 - last) % 64 < (idx f + 127 - last) % 64 then some g else some f

/-- Groups of an output's requests in the order of R110: VC6, VC7, hi and lo. -/
def vcGroup (vc : Nat) : Nat := if vc = 6 then 6 else if vc = 7 then 7 else vc % 2

/-- The place of a request in the round of its group: its input, or its (input, VC) (R110). -/
def rrIdx (f : RFlit) : Nat := if 6 ≤ f.vc then f.inp else f.inp * 8 + f.vc

/-- The request that an output serves among those that may leave, and its group. With both bulk groups waiting it grants
HI_WEIGHT hi flits for each lo flit; 0 acts as 1 (R110, assumption log 94). -/
def State.pick (s : State) (p t d : Nat) (l : List RFlit) : Option RFlit :=
  let of_ (g : Nat) : Option RFlit := rrPick (tgetD s.mesh.rrAt (credKey p t d g) 63) rrIdx (l.filter (fun f => vcGroup f.vc == g))
  match of_ 6 with
  | some f => some f
  | none => match of_ 7 with
  | some f => some f
  | none => match of_ 1, of_ 0 with
  | some h, some o => if tgetD s.mesh.hiRun (credKey p t d 0) 0 < max 1 (s.get (RT_CTL_HI_WEIGHT p t)) then some h else some o
  | some h, none => some h
  | none, o => o

/-! ### A flit moves -/

/-- The tail of a packet reaches its egress NI: the NI records and receipts it, and delivers it (R117). -/
def State.tailOut (s : State) (f : Flight) : State :=
  let s := { s with mesh := { s.mesh with fly := s.mesh.fly.filter (fun g => g.id != f.id || g.plane != f.plane) } }
  let s := if f.ret then
      ({ s with mesh := { s.mesh with egr := tset s.mesh.egr (k4 f.dtile f.src f.plane f.vc) f.iseq } }).sendReceipt
        ⟨f.src, f.dtile, f.plane, f.vc, f.iseq, false⟩
    else s.inflight (tileDomain f.dtile) false
  s.deliver f

/-- A credit goes back for a flit that has left its buffer, unless its input is fenced (R108, R125). -/
def State.creditBack (s : State) (f : RFlit) : State :=
  if bit (s.get (RT_FENCE_PORTS f.plane f.tile)) f.inp then s
  else { s with mesh := { s.mesh with crBack := s.mesh.crBack ++ [(feedKey f.plane f.tile f.inp f.vc, s.mesh.fcyc + feedStages f.tile f.inp)] } }

/-- Output `d` grants a flit: it leaves its buffer, uses a credit, takes or frees the VC, and stands at the next router after
the switch and the link, or at the NI (R103, R104, R108, R109). -/
def State.grant (s : State) (d : Nat) (f : RFlit) : State :=
  let k := credKey f.plane f.tile d f.vc
  let g := vcGroup f.vc
  let both := credKey f.plane f.tile d 0
  let now := s.mesh.fcyc
  let s := { s with mesh := { s.mesh with
    rbuf := dropFirst (fun x => x == f) s.mesh.rbuf
    rrAt := tset s.mesh.rrAt (credKey f.plane f.tile d g) (rrIdx f)
    hiRun := if g = 1 then tset s.mesh.hiRun both (tgetD s.mesh.hiRun both 0 + 1) else if g = 0 then tdel s.mesh.hiRun both else s.mesh.hiRun
    credUsed := tset s.mesh.credUsed k (tgetD s.mesh.credUsed k 0 + 1)
    owner := if f.tail then tdel s.mesh.owner k else tset s.mesh.owner k f.id } }
  let s := (s.count (C_RT_OUT_FLITS f.plane f.tile d)).creditBack f
  if d = 4 then
    let s := { s with mesh := { s.mesh with
      crBack := s.mesh.crBack ++ [(k, now + 1)]
      fly := s.mesh.fly.map (fun x => if x.id = f.id ∧ x.plane = f.plane then { x with got := x.got + 1 } else x) } }
    if f.tail then (match s.mesh.fly.find? (fun x => x.id == f.id && x.plane == f.plane) with | some x => s.tailOut x | none => s) else s
  else { s with mesh := { s.mesh with
    rbuf := s.mesh.rbuf ++ [{ f with tile := nextTile f.tile d, inp := backDir d, at_ := now + 2 + linkStages f.tile d }] } }

/-- The grants of one router in a cycle: at most one flit on each output, from the buffer heads at its start. -/
def State.routerCycle (s : State) (p t : Nat) (heads : List RFlit) : State :=
  s.forEach (List.range 5) (fun d u =>
    match u.pick p t d (heads.filter (u.mayLeave d)) with
    | some f => u.grant d f
    | none => u)

/-! ### Injection (R91, R111) -/

/-- The packet of which an NI injects a flit into a plane next: of the oldest packet of each VC that has a credit, VC6 before
VC7 before the oldest (assumption log 95). -/
def State.niNext (s : State) (p t : Nat) : Option Flight :=
  let mine := s.mesh.fly.filter (fun f => f.plane == p && f.src == t && decide (f.out < pktFlits f.pkt))
  let firsts := mine.foldl (fun l f => if l.any (fun g => g.vc == f.vc) then l else l ++ [f]) []
  let ok := firsts.filter (fun f => decide (tgetD s.mesh.credUsed (niKey p t f.vc) 0 < vcDepth f.vc))
  match ok.find? (fun f => f.vc == 6) with
  | some f => some f
  | none => match ok.find? (fun f => f.vc == 7) with
  | some f => some f
  | none => ok.head?

/-- The NI of a tile injects one flit into a plane. -/
def State.niCycle (s : State) (p t : Nat) : State :=
  match s.niNext p t with
  | none => s
  | some f =>
    let k := niKey p t f.vc
    let x : RFlit := ⟨p, t, 4, f.vc, f.id, f.dtile, f.out == 0, f.out + 1 == pktFlits f.pkt, s.mesh.fcyc + 1⟩
    { s with mesh := { s.mesh with
      rbuf := s.mesh.rbuf ++ [x]
      credUsed := tset s.mesh.credUsed k (tgetD s.mesh.credUsed k 0 + 1)
      fly := s.mesh.fly.map (fun g => if g.id = f.id ∧ g.plane = p then { g with out := g.out + 1 } else g) } }

/-! ### Cycles -/

/-- Credits whose way back is over return to their counters. -/
def State.creditsIn (s : State) (p : Nat) : State :=
  let here (e : Nat × Nat) : Bool := keyPlane e.1 == p && decide (e.2 ≤ s.mesh.fcyc)
  let go := s.mesh.crBack.filter here
  let s := { s with mesh := { s.mesh with crBack := s.mesh.crBack.filter (fun e => !here e) } }
  s.forEach go (fun e u => u.creditUp e.1)

/-- One FCLK cycle of a plane: credits return, routers grant, NIs inject. -/
def State.meshCycle (s : State) (p : Nat) : State :=
  let s := s.creditsIn p
  let ts := ((s.mesh.rbuf.filter (fun f => f.plane == p)).map (·.tile)).dedup
  let s := s.forEach (ts.map (fun t => (t, s.bufHeads p t))) (fun e u => u.routerCycle p e.1 e.2)
  let ns := ((s.mesh.fly.filter (fun f => f.plane == p && decide (f.out < pktFlits f.pkt))).map (·.src)).dedup
  let s := s.forEach ns (fun t u => u.niCycle p t)
  { s with mesh := { s.mesh with fcyc := s.mesh.fcyc + 1 } }

/-- Does nothing move in a plane any more: no flit or credit is under way and the last cycle changed no buffer? -/
def meshStill (a b : MeshSt) : Bool :=
  a.rbuf == b.rbuf && b.crBack.isEmpty && b.rbuf.all (fun f => decide (f.at_ < b.fcyc)) && a.fly.map (·.out) == b.fly.map (·.out)

/-- Cycles of a plane until a condition holds or nothing moves. -/
def State.meshRun : Nat → Nat → (State → Bool) → State → State
  | 0, _, _, s => s
  | n + 1, p, c, s =>
    if c s then s
    else
      let u := s.meshCycle p
      if meshStill s.mesh u.mesh then u else State.meshRun n p c u

/-- Cycles that any movement of what is on the mesh may take. -/
def State.meshFuel (s : State) : Nat := 128 * (1 + (s.mesh.fly.map (fun f => pktFlits f.pkt)).sum)

/-- Does a plane run: it is in service or being removed (R120)? -/
def State.planeRuns (s : State) (p : Nat) : Bool := s.plane p == pIN || s.plane p == pFENCING

/-- PACKET_DELIVERY (R117): the plane runs until the tail of the oldest packet from tile `src` to tile `dt` on a VC has reached
its egress NI, which delivers it. Without credit, behind a fence or without room at its target it stays where it is (R108,
R112, R125); what else reaches its NI meanwhile is delivered too. -/
def execPacketDelivery (src dt p vc : Nat) (s : State) : Out :=
  act s (match s.mesh.fly.find? (fun f => f.src == src && f.dtile == dt && f.plane == p && f.vc == vc) with
    | none => s.smIgnored
    | some f =>
      if !s.planeRuns p then s
      else State.meshRun s.meshFuel p (fun u => !u.mesh.fly.any (fun g => g.id == f.id && g.plane == p)) s)

/-- Are the buffers of an input empty? -/
def State.inputEmpty (s : State) (p t i : Nat) : Bool := !s.mesh.rbuf.any (fun f => f.plane == p && f.tile == t && f.inp == i)

/-- ROUTER_INPUT_DRAINED (R125): what a fenced input holds leaves normally, and DONE sets once its buffers are empty. -/
def execRouterInputDrained (p t d : Nat) (s : State) : Out :=
  act s (if 2 ≤ p ∨ !hasPort t d then s.smIgnored
    else if bit (s.get (RT_FENCE_PORTS p t)) d ∧ !bit (s.get (RT_FENCE_STAT_DONE p t)) d then
      let s := State.meshRun s.meshFuel p (fun u => u.inputEmpty p t d) s
      if s.inputEmpty p t d then s.put (RT_FENCE_STAT_DONE p t) (s.get (RT_FENCE_STAT_DONE p t) ||| 2 ^ d) else s
    else s.smIgnored)

end Sys2Proof.Machine
end

