-- ==== Sys2Proof/Machine/Link.lean ====
section
/-! DEFINITION. The Runnel link: widths, windows, credits, flits and replay, link-down, grace, resume and flush, and the
link state machine (R257 to R285, R291). -/

namespace Sys2Proof.Machine

/-! ### Lanes and widths (R257, Table 9-1) -/

/-- Lanes of a port. -/
def State.lanesOf (s : State) (p : Nat) : Nat := 2 ^ (s.pget PORT_CFG_WIDTH p + 1)

/-- Allowed active widths, widest first. -/
def widths (lanes : Nat) (spare : Bool) : List Nat :=
  if lanes = 16 then (if spare then [15, 8, 7, 4, 2] else [16, 15, 8, 7, 4, 2])
  else if lanes = 8 then (if spare then [7, 4, 2] else [8, 7, 4, 2])
  else if lanes = 4 then [4, 2] else [2, 1]

def State.spared (s : State) (p : Nat) : Bool := s.pon LNK_CTL_SPARE p && decide (8 ≤ s.lanesOf p)
def State.widthsOf (s : State) (p : Nat) : List Nat := widths (s.lanesOf p) (s.spared p)
def State.nominal (s : State) (p : Nat) : Nat := (s.widthsOf p).headD 2

/-- The lanes of a mask, ascending. -/
def laneList (m : Nat) : List Nat := (List.range 16).filter (fun l => bit m l)
def laneMask (l : List Nat) : Nat := l.foldl (fun a x => a ||| 2 ^ x) 0
def laneCount (m : Nat) : Nat := (laneList m).length

/-- A mask without the lanes of another. -/
def laneSub (a b : Nat) : Nat := laneMask ((laneList a).filter (fun l => !bit b l))

/-- The map of the `w` lowest lanes of a mask. -/
def lowLanes (m w : Nat) : Nat := laneMask ((laneList m).take w)

/-- The largest allowed width within `n` lanes. -/
def State.fitWidth (s : State) (p n : Nat) : Option Nat := (s.widthsOf p).find? (fun w => decide (w ≤ n))

/-- The map of good lanes of R280: as wide as allowed. -/
def State.fitMap (s : State) (p m : Nat) : Option Nat := (s.fitWidth p (laneCount m)).map (lowLanes m)

/-! ### Times (R268, R270, R274, R414) -/

/-- T_ACK in ns. -/
def State.tAck (s : State) (p : Nat) : Nat := s.pget LNK_RTT_NS p + clampN 200 1000000 (s.pget LNK_ACK_MARGIN p)

def State.replayLimit (s : State) (p : Nat) : Nat := max 1 (s.pget LNK_ACK_REPLAY_LIMIT p)

/-- Cistern address of the spill region of a port, and its units: replay units and those of VN0 to VN2 (R275). -/
def State.spillBase (s : State) (p : Nat) : Nat := s.pget LNK_SPILL_BASE_BASE p * 65536
def State.spillUnits (s : State) (p : Nat) : Nat :=
  s.pget LNK_SPILL_RPL_UNITS p + ((List.range 3).map (fun v => s.get (LNK_RXPOOL_SPILL (portC p) (portK p) v))).sum

/-- Do the spill units of a port lie in enabled SPILL partitions (R191, R275)? -/
def State.spillOn (s : State) (p : Nat) : Bool :=
  (List.range (s.spillUnits p)).all (fun i => match s.partOf (s.spillBase p + 65536 * i) with
    | some q => s.get (PART_CTL_USE q) == 1
    | none => false)

/-- Replay units in use: none outside a SPILL partition. -/
def State.rplUnits (s : State) (p : Nat) : Nat := if s.spillOn p then s.pget LNK_SPILL_RPL_UNITS p else 0

/-- The window W (R274). -/
def windowOf (maxout slots units : Nat) : Nat := min (if maxout = 0 then 32768 else maxout) (slots + 204 * units)
def State.window (s : State) (p : Nat) : Nat := windowOf (s.pget LNK_WINDOW_MAXOUT p) (s.pget LNK_WINDOW_SLOTS p) (s.rplUnits p)

/-- T_RPL in ns for given terms, rounded up. -/
def tRpl (limit tack w : Nat) (tf : Rat) (retrainUs : Nat) : Nat :=
  ratCeil ((limit * tack : Nat) + (limit : Rat) * w * tf) + 1000 * retrainUs

def State.retrainUs (s : State) (p : Nat) : Nat := clampN 10 10000 (s.pget LNK_TMO_RETRAIN_US p)

def State.graceNs (s : State) (p : Nat) : Nat := 1000000 * min 100 (s.pget LNK_GRACE_MS p)

/-- GLB_CTO_FLOOR in µs from the largest grace and replay times, in ns (R414). -/
def floorUs (g r : Nat) : Nat := ceilDiv (g + 2 * r) 1000 + 100

/-- The requester NIs with a completion timeout: tile and NI_CTO in µs. -/
def State.ctos (s : State) : List (Nat × Nat) :=
  (List.range 16).map (fun c => (ptTile c, s.get (PT_NI_CTO_US c))) ++ (List.range 12).map (fun e => (ktTile e, s.get (KT_NI_CTO_US e)))
    ++ [(cxTile, s.get CX_WH_CTO_US)]

/-- The Runnel ports with LNK_CTL.EN set. -/
def State.enPorts (s : State) : List Nat := s.fabricPorts.filter (fun p => s.pon LNK_CTL_EN p)

/-- Recomputes GLB_CTO_FLOOR. A floor that a measured RTT of port `p` raises above an NI_CTO writes a class 14 record
for that NI and sets CTO_RISK. -/
def State.showFloor (s : State) (p : Option Nat) : State :=
  let ps := s.enPorts
  let old := s.get GLB_CTO_FLOOR_US
  let g := (ps.map s.graceNs).foldl max 0
  let r := (ps.map (fun q => s.pget LNK_RPL_MAX_NS q)).foldl max 0
  let f := min (floorUs g r) (2 ^ 23 - 1)
  let s := s.put GLB_CTO_FLOOR_US f
  match p with
  | none => s
  | some q =>
    let bad := s.ctos.filter (fun x => decide (old ≤ x.2 ∧ x.2 < f))
    if bad.isEmpty then s
    else (s.forEach bad (fun x u => u.fault 14 x.1 x.2)).lnkEvt q LNK_EVT_CTO_RISK

/-- Recomputes LNK_RPL_MAX of a port, and with it the floor. -/
def State.showRpl (s : State) (p : Nat) (measured : Bool) : State :=
  let t := tRpl (s.replayLimit p) (s.tAck p) (s.window p) (tFlit kindRunnel (s.wr2 p)) (s.retrainUs p)
  (s.pput LNK_RPL_MAX_NS p (min t (2 ^ 32 - 1))).showFloor (if measured then some p else none)

/-! ### Credits (R271 to R273) -/

def vnKey (p vn : Nat) : Nat := p * 8 + vn

/-- Credit units of a packet. -/
def units (k : Pkt) : Nat := ceilDiv (pktBytes k) 64

/-- The pool of a VN in units. -/
def State.pool (s : State) (p vn : Nat) : Nat :=
  s.get (LNK_RXPOOL_TILE (portC p) (portK p) vn) + (if vn < 3 then 1024 * s.get (LNK_RXPOOL_SPILL (portC p) (portK p) vn) else 0)

/-- Available credit: CUM less what has been charged, modulo 2^32. -/
def State.avail (s : State) (p vn : Nat) : Nat :=
  (tgetD s.lnk.cum (vnKey p vn) 0 + 2 ^ 32 - tgetD s.lnk.charged (vnKey p vn) 0) % 2 ^ 32

def State.showCred (s : State) (p vn : Nat) : State := s.put (LNK_TXCRED_UNITS (portC p) (portK p) vn) (s.avail p vn)

/-- A link word waits for the port's next flit (R263). -/
def State.linkWord (s : State) (p w : Nat) : State := s.lkMap p (fun x => { x with words := x.words ++ [w] })

/-- A CREDIT word with this end's CUM is due (R271, R273). -/
def State.sendCredit (s : State) (p vn : Nat) : State := s.lkMap p (fun x => { x with cred := if x.cred.contains vn then x.cred else x.cred ++ [vn] })

/-- Credit counters of a fresh start: the full pools are granted. -/
def State.freshCredit (s : State) (p : Nat) : State :=
  s.forEach [0, 1, 2, 3, 4] (fun vn u =>
    let k := vnKey p vn
    let u := { u with lnk := { u.lnk with
      charged := tdel u.lnk.charged k
      cum := tdel u.lnk.cum k
      granted := tset u.lnk.granted k (u.pool p vn % 2 ^ 32) } }
    (u.showCred p vn).sendCredit p vn)

/-! ### Flits that leave (R259, R261 to R263) -/

def State.keptOf (s : State) (p : Nat) : List KFlit := s.lnk.keep.filter (fun k => k.port == p)

def State.keepMap (s : State) (p fseq : Nat) (f : KFlit → KFlit) : State :=
  { s with lnk := { s.lnk with keep := s.lnk.keep.map (fun k => if k.port = p ∧ k.fseq = fseq then f k else k) } }

/-- Link words that are due at a port: the ACK or NAK word, CREDIT words, and the others in order. -/
def State.wordsDue (s : State) (p : Nat) : List Nat :=
  let x := s.lk p
  (if x.ack = 0 then [] else [ackWord ((x.nextRx + 65535) % 65536) (x.ack == 2)])
    ++ x.cred.map (fun vn => creditWord vn (tgetD s.lnk.granted (vnKey p vn) 0)) ++ x.words

/-- Takes `n` link words for a flit. -/
def State.takeWords (s : State) (p n : Nat) : List Nat × State :=
  let a := if (s.lk p).ack = 0 then 0 else 1
  let ws := (s.wordsDue p).take n
  (ws, s.lkMap p (fun x => { x with
    ack := if n = 0 then x.ack else 0
    cred := x.cred.drop (n - a)
    words := x.words.drop (n - a - x.cred.length) }))

/-- A flit leaves, `n` times: on the lanes of the transmit map, at its place in the byte stream. -/
def State.sendFlit (s : State) (p n : Nat) (f : LinkFlit) : State :=
  let x := s.lk p
  let w := max 1 (laneCount x.txMap)
  let s := s.send (.flit p n x.txMap x.txPos f.bytes)
  (s.lkMap p (fun y => { y with txPos := (y.txPos + 320 * n) % w, line := y.line - 5120 * n })).pbump C_LNK_FLITS_TX p n

/-- IDLE flits: the next FSEQ, no packet bytes, and the link words that are due (R262). -/
def State.sendIdle (s : State) (p n : Nat) : State :=
  let (ws, s) := s.takeWords p 7
  s.sendFlit p n ⟨(s.lk p).nextTx, ftIDLE, noStart, false, [], ws⟩

/-- What a packet area takes from the packets that wait: its bytes, the first packet that begins in it, TS, the packets
that end in it, and what is left (R262). -/
structure Area where
  bytes : List Nat
  start : Option Nat
  ts    : Bool
  tails : List Pkt
  rest  : List TxPkt
  deriving DecidableEq, Repr

/-- Fills a packet area of `cap` bytes from byte `off` on. A TIME packet begins at byte 0 only. -/
def fillArea (cap : Nat) : Nat → List TxPkt → Area
  | _, [] => ⟨[], none, false, [], []⟩
  | off, x :: r =>
    let time := decide (x.pkt.kind = kTIME ∧ x.pos = 0)
    if cap ≤ off ∨ (time = true ∧ off ≠ 0) then ⟨[], none, false, [], x :: r⟩
    else
      let bs := ((padTo (pktBytes x.pkt) (pktWire x.pkt)).drop x.pos).take (min (pktBytes x.pkt - x.pos) (cap - off))
      let st := if x.pos = 0 then some (off / 4) else none
      if x.pos + bs.length < pktBytes x.pkt then ⟨bs, st, time, [], { x with pos := x.pos + bs.length } :: r⟩
      else
        let a := fillArea cap (off + bs.length) r
        ⟨bs ++ a.bytes, st <|> a.start, time || a.ts, x.pkt :: a.tails, a.rest⟩

/-- The slot of a spilled flit: units of 204 slots of 320 bytes (R274). -/
def State.slotAddr (s : State) (p fseq : Nat) : Nat :=
  let i := fseq % max 1 (204 * s.rplUnits p)
  s.spillBase p + i / 204 * 65536 + i % 204 * 320

/-- Base of the ingress spill of a VN: after the replay units and the units of the lower VNs (R275). -/
def State.ingressBase (s : State) (p vn : Nat) : Nat :=
  s.spillBase p + 65536 * (s.pget LNK_SPILL_RPL_UNITS p
    + ((List.range vn).map (fun v => s.get (LNK_RXPOOL_SPILL (portC p) (portK p) v))).sum)

/-- A flit or packet goes to the cistern (R274, R275). -/
def State.spillWrite (s : State) (p a : Nat) (bs : List Nat) : State := (s.unitWrite (ptTile (portC p)) a bs).pcount C_LNK_SPILL_WR p

/-- A kept flit as its slot holds it: link header without CRC and code, then the packet area (assumption log 90). -/
def KFlit.stored (k : KFlit) : List Nat :=
  padTo 320 ((LinkFlit.bytes ⟨k.fseq, ftDATA, k.start, k.ts, k.area, List.replicate k.nlw 0⟩).take 300)

/-- Moves the oldest flit on the tile to spill when the port holds more than its slots there (R274). -/
def State.spillOld (s : State) (p : Nat) : State :=
  let on_ := (s.keptOf p).filter (fun k => k.spill.isNone)
  match on_ with
  | k :: _ =>
    if on_.length ≤ s.pget LNK_WINDOW_SLOTS p ∨ s.rplUnits p = 0 then s
    else
      let a := s.slotAddr p k.fseq
      (s.spillWrite p a k.stored).keepMap p k.fseq (fun x => { x with area := [], spill := some a })
  | [] => s

/-- The next DATA flit, when its packet area is full or `flush` asks for it, and the window has room (R262, R269). -/
def State.nextData (s : State) (p : Nat) (flush : Bool) : Option State :=
  let x := s.lk p
  let nlw := min 7 (s.wordsDue p).length
  let cap := 296 - 8 * nlw
  let a := fillArea cap 0 x.txq
  if a.bytes.isEmpty ∨ s.window p ≤ (s.keptOf p).length ∨ (!flush ∧ a.rest.isEmpty ∧ a.bytes.length < cap) then none
  else
    let k : KFlit := ⟨p, x.nextTx, s.ns, a.start.getD noStart, a.ts, nlw, padTo cap a.bytes, a.tails, none⟩
    let (ws, s) := s.takeWords p nlw
    let s := s.sendFlit p 1 ⟨k.fseq, ftDATA, k.start, k.ts, k.area, ws⟩
    let s := s.lkMap p (fun y => { y with nextTx := (x.nextTx + 1) % 65536, txq := a.rest })
    some ({ s with lnk := { s.lnk with keep := s.lnk.keep ++ [k] } }.spillOld p)

def State.pumpData : Nat → Nat → Bool → State → State
  | 0, _, _, s => s
  | f + 1, p, flush, s => match s.nextData p flush with
    | some u => State.pumpData f p flush u
    | none => s

/-- A kept flit is sent again: FSEQ, header and packet area as they were, with link words of now (R268). -/
def State.sendKept (s : State) (p : Nat) (k : KFlit) : State :=
  let (ws, s) := s.takeWords p k.nlw
  let s := s.sendFlit p 1 ⟨k.fseq, ftDATA, k.start, k.ts, k.area, ws ++ List.replicate (k.nlw - ws.length) lwEMPTY⟩
  let now := s.ns
  s.keepMap p k.fseq (fun x => { x with at_ := now, area := if x.spill.isSome then [] else x.area })

/-- The flits of a replay, in FSEQ order; one that lies in spill is read back first (R268, R274). -/
def State.pumpReplay : Nat → Nat → State → State
  | 0, _, s => s
  | f + 1, p, s =>
    let x := s.lk p
    match x.rpl with
    | [] => s
    | q :: r =>
      let s' := s.lkMap p (fun y => { y with rpl := r })
      match (s.keptOf p).find? (fun k => k.fseq == q) with
      | none => State.pumpReplay f p s'
      | some k => match k.spill with
        | some a =>
          if !k.area.isEmpty then State.pumpReplay f p (s'.sendKept p k)
          else if x.fetch = some q then s
          else (s.lkMap p (fun y => { y with fetch := some q })).unitRead (ptTile (portC p)) a 320 (.flit p q)
        | none => State.pumpReplay f p (s'.sendKept p k)

/-- Flits a packet may need at the smallest packet area, and one to begin anew. -/
def flitFuel (k : Pkt) : Nat := pktBytes k / 240 + 2

/-- An ACTIVE port sends what it can: a replay first, then DATA flits that are full, or all that waits with `flush`. -/
def State.pump (s : State) (p : Nat) (flush : Bool) : State :=
  if s.lst p ≠ lkACTIVE then s
  else
    let s := State.pumpReplay ((s.lk p).rpl.length + 1) p s
    if (s.lk p).rpl.isEmpty then State.pumpData (((s.lk p).txq.map (fun x => flitFuel x.pkt)).sum) p flush s else s

def State.idleWords : Nat → Nat → State → State
  | 0, _, s => s
  | f + 1, p, s => if (s.wordsDue p).isEmpty then s else State.idleWords f p (s.sendIdle p 1)

/-- Everything a port has to send leaves: flits with what waits, IDLE flits for the link words that are left. -/
def State.flushPort (s : State) (p : Nat) : State :=
  let s := s.pump p true
  if s.lst p = lkACTIVE then State.idleWords ((s.wordsDue p).length + 1) p s else s

/-- Every Runnel port sends what waits. -/
def State.linksOut (s : State) : State := s.forEach (s.lnk.ports.map (·.1)) (fun p u => u.flushPort p)

/-- IDLE flits fill the line of an ACTIVE port over `n` ns (R261). -/
def State.idleFill (s : State) (p n : Nat) : State :=
  if !s.portUp p then s
  else
    let t := (s.lk p).line + n * s.wr2 p
    let k := (t / 5120).toNat
    let s := s.lkMap p (fun x => { x with line := t })
    if k = 0 then s else s.sendIdle p k

def State.linksIdle (s : State) (n : Nat) : State := s.forEach (s.lnk.ports.map (·.1)) (fun p u => u.idleFill p n)

/-- Is a packet in progress on a port's link: some of its bytes still wait though the window is full (R269)? -/
def State.txBusy (s : State) (p : Nat) : Bool := !(s.lk p).rpl.isEmpty || decide (s.window p ≤ (s.keptOf p).length)

/-- Frees the kept flits up to `a` and their packets leave the node; the number freed (R268, R151). -/
def State.freeFlits (s : State) (p a : Nat) : Nat × State :=
  let mine := s.keptOf p
  match mine with
  | [] => (0, s)
  | f :: _ =>
    let d := (a + 65536 - f.fseq) % 65536
    if mine.length ≤ d then (0, s)
    else
      let gone := mine.take (d + 1)
      let s := { s with lnk := { s.lnk with keep := s.lnk.keep.filter (fun k => k.port != p || !(gone.map KFlit.fseq).contains k.fseq) } }
      (d + 1, s.forEach (gone.flatMap (·.tails)) (fun k u => u.resLeave k))

/-! ### Flush (R284) -/

/-- A fresh nonzero nonce (R279). -/
def State.newNonce (s : State) (p : Nat) : State :=
  let n := 1 + Config.free s.fv % (2 ^ 32 - 1)
  ({ s with fv := s.fv + 1 }).pput LNK_NONCE_LOCAL p n

/-- Takes the packets of the given queues out of a port's egress storage. -/
def State.takeQueues (s : State) (p : Nat) (qs : List Nat) : List Pkt × State :=
  let mine (x : Nat × Pkt) : Bool := x.1 == p && qs.contains x.2.tc
  let l := qs.flatMap (fun q => (s.queueOf p q).map (·.pkt)) ++ (s.pc.back.filter mine).map (·.2)
  let s := { s with
    sch := { s.sch with eq_ := s.sch.eq_.filter (fun x => x.port != p || !qs.contains x.q) }
    pc := { s.pc with back := s.pc.back.filter (fun x => !mine x) } }
  (l, s.forEach qs (fun q u => u.showDepth p q))

/-- While the link is not ACTIVE every TC7 packet for the port is discarded (R282). -/
def State.dropTc7 (s : State) (p : Nat) : State :=
  let (l, s) := s.takeQueues p [7]
  s.forEach l (fun k u => (u.pcount C_LNK_TC7_DOWN p).resLeave k)

/-- The CPL that a flush synthesises for a packet, and its counter (Table 9-9). -/
def flushAct (k : Pkt) : Option Pkt × (Nat → Nat → Nat) :=
  let c := pktClass k
  if c = 1 then (some (mkCpl k .pathLost), C_LNK_FLUSH_NP)
  else if c = 2 then
    (some { pkt0 kCPL k.tc (vnOf 2 k.tc) 0 k.dest k.src [] with tag := k.tag, gen := k.gen, status := Status.pathLost.code }, C_LNK_FLUSH_RSP)
  else if c = 0 then (none, C_LNK_FLUSH_POSTED) else (none, C_LNK_FLUSH_CTL)

/-- Closes a port to routing: UNROUTABLE, eligibility clear, no Hello recorded (Table 5-1). -/
def State.unroute (s : State) (p : Nat) : State :=
  (((s.setNbr p nbrUNROUTABLE).pput PORT_NBR_ELIG0 p 0).pput PORT_NBR_ELIG1 p 0).pput PORT_NBR_VALID p 0

/-- Flushes a port (R284). `lost`: the partner did not return with the same incarnation. `quiet`: LNK_CTL.EN was
cleared or the port reconfigured, so no record is written. -/
def State.lnkFlush (s : State) (p : Nat) (lost quiet : Bool) : State :=
  let (qs, s) := s.takeQueues p [0, 1, 2, 3, 4, 5, 6]
  let all := (s.keptOf p).flatMap (·.tails) ++ (s.lk p).txq.map (·.pkt) ++ qs
  let part := (s.lnk.inq.filter (fun x => x.port == p && !x.done)).map (·.pkt)
  let s := { s with lnk := { s.lnk with
    keep := s.lnk.keep.filter (fun k => k.port != p)
    inq := (s.lnk.inq.filter (fun (x : InPkt) => x.port != p || x.done)).map (fun (x : InPkt) => if x.port = p then { x with old := true } else x) } }
  let s := s.unroute p
  let s := s.forEach all (fun k u =>
    let (c, ctr) := flushAct k
    ((u.resLeave k).pcount ctr p).respondAt (ptTile (portC p)) c)
  let s := s.forEach part (fun k u => u.resLeave k)
  let n := (all.filter (fun k => pktClass k == 1 || pktClass k == 2)).length
  let m := (all.filter (fun k => pktClass k == 0)).length
  let s := s.lkMap p (fun x => { x with
    nextTx := 0, nextRx := 0, nak := false, lastNak := none, replays := 0, lost := none
    txq := [], ack := 0, cred := [], words := [], rpl := [], fetch := none, rxBuf := [] })
  let s := s.forEach [0, 1, 2, 3, 4] (fun vn u =>
    let k := vnKey p vn
    ({ u with lnk := { u.lnk with charged := tdel u.lnk.charged k, cum := tdel u.lnk.cum k, granted := tdel u.lnk.granted k } }).showCred p vn)
  let s := ((s.pput LNK_STAT_HELD p 0).newNonce p).pcount C_LNK_FLUSH_CNT p
  if quiet then s
  else (((s.lnkEvt p LNK_EVT_FLUSHED).logFault 3 p (n % 65536 + min m 65535 * 65536) (b2n lost)).faultGen)

/-! ### Replay (R268, R270) -/

/-- An open map change is abandoned (R287, R289): whoever asked for it hears. -/
def State.dropChange (s : State) (p : Nat) : State :=
  match (s.lk p).chg with
  | none => s
  | some c =>
    let s := ((s.lkMap p (fun x => { x with chg := none })).pput LNK_STAT_CHANGE p 0).lnkEvt p LNK_EVT_CHANGE_REFUSED
    let s := s.lkMap p (fun x => { x with recal := if c.kind = 2 ∧ c.mine then none else x.recal })
    match s.parkedOn (fun w => w == .linkWidth p) with
    | some mb => s.refuse mb 0 0
    | none => s

/-- LCLK cycles since cold reset, modulo 2^32 (assumption log 91). -/
def State.lclk (s : State) : Nat := s.tm.cyc % 2 ^ 32

/-- The training block that this end sends on a lane (Table 9-8, R282). -/
def State.myBlock (s : State) (p lane : Nat) : TrainBlk :=
  let x := s.lk p
  { type := if s.lst p = lkRETRAIN then 2 else 1, ack := x.acked, hold := s.held p || s.lst p == lkRETRAIN, lane := lane
    node := s.node, port := p, nonce := s.pget LNK_NONCE_LOCAL p
    pnonce := if s.pon LNK_PARTNER_VALID p then s.pget LNK_PNONCE_PARTNER p else 0
    nextRx := x.nextRx, widthIf := s.pget LNK_STAT_WIDTH p, rates := 7, lanes := s.pget LNK_LANES_OK p, spare := s.spared p
    tstamp := s.lclk, echo := x.echo, age := (s.lclk + 2 ^ 32 - x.echoAt) % 2 ^ 32 }

/-- One training block leaves on every lane that is locked (R278). -/
def State.sendTrain (s : State) (p : Nat) : State :=
  s.forEach (laneList (s.pget LNK_LANES_OK p)) (fun l u => u.send (.train p l (u.myBlock p l).words))

/-- The link leaves ACTIVE, or EIDLE, for RETRAIN (Table 9-10). -/
def State.toRetrain (s : State) (p : Nat) : State :=
  let s := (s.dropChange p).setLst p lkRETRAIN
  let s := s.lkMap p (fun x => { x with blocks := [], acked := false, stopping := false, stopSent := false, fault := none, words := [], ack := 0, cred := [] })
  ((s.pcount C_LNK_RETRAIN_CNT p).dropTc7 p).sendTrain p

/-- A port that cannot read back what it spilled flushes at once and trains afresh (R275). -/
def State.spillFail (s : State) (p : Nat) : State :=
  let s := (s.dropChange p).lnkFlush p false false
  (((s.lnkEvt p LNK_EVT_SPILL_ERR).setLst p lkDETECT).dropTc7 p)

/-- Sends every kept flit of a port again, in FSEQ order. The count of R270 is not touched. -/
def State.resendAll (s : State) (p : Nat) : State :=
  (s.lkMap p (fun x => { x with rpl := (s.keptOf p).map (·.fseq) })).pump p false

/-- A spilled flit has been read back, or cannot be (R275). -/
def State.flitBack (s : State) (p fseq : Nat) (ok : Bool) (bs : List Nat) : State :=
  if (s.lk p).fetch ≠ some fseq then s
  else
    let s := s.lkMap p (fun x => { x with fetch := none })
    if ok then (s.keepMap p fseq (fun k => { k with area := (bs.drop 4).take (296 - 8 * k.nlw) })).pump p false
    else if ((s.keptOf p).any (fun k => k.fseq == fseq)) then s.spillFail p else s

/-- A replay from `a` + 1. The replay after REPLAY_LIMIT in a row starts a retrain instead (R270). -/
def State.replay (s : State) (p a : Nat) : State :=
  let ks := s.keptOf p
  if ks.isEmpty then s
  else if s.replayLimit p ≤ (s.lk p).replays then s.toRetrain p
  else
    let now := s.ns
    let s := s.lkMap p (fun x => { x with replays := x.replays + 1, lastNak := some (a, now) })
    ((s.pcount C_LNK_REPLAY p).pbump C_LNK_REPLAY_FLITS p ks.length).resendAll p

/-- The lanes go to electrical idle once the ACKs are in, or have been waited for (Table 9-10). -/
def State.goIdle (s : State) (p : Nat) : State :=
  ((s.lkMap p (fun x => { x with stopping := false, stopSent := false })).setLst p lkEIDLE).dropTc7 p

/-- A link that is to stop sends STOP once the packet in progress has ended, and goes idle once its flits are acknowledged. -/
def State.stopTry (s : State) (p : Nat) : State :=
  if !(s.lk p).stopping ∨ s.lst p ≠ lkACTIVE then s
  else
    let s := s.pump p true
    let x := s.lk p
    if !x.txq.isEmpty ∨ !x.rpl.isEmpty then s
    else
      let s := if x.stopSent then s else ((s.lkMap p (fun y => { y with stopSent := true })).linkWord p lwSTOP).flushPort p
      if (s.keptOf p).isEmpty then s.goIdle p else s

/-- An ACK word's effect: flits freed, and the replay count starts anew when the ACK advances. Flits that waited for the
window leave. -/
def State.ackTo (s : State) (p a : Nat) : State :=
  let (n, s) := s.freeFlits p a
  let s := if n = 0 then s else (s.lkMap p (fun x => { x with replays := 0 })).pump p false
  s.stopTry p

/-- An ACK word (R268). Only a port that is ACTIVE reads link words. -/
def State.ackIn (s : State) (p a : Nat) : State :=
  if !s.isRunnel p ∨ s.lst p ≠ lkACTIVE then s.smIgnored else s.ackTo p (a % 65536)

/-- Does ACKSEQ `a` name the last flit acknowledged or a kept one? An older one is stale (R263). -/
def State.ackFresh (s : State) (p a : Nat) : Bool :=
  let ks := s.keptOf p
  let oldest := (ks.head?.map (·.fseq)).getD (s.lk p).nextTx
  decide ((a + 1 + 65536 - oldest) % 65536 ≤ ks.length)

/-- A NAK word (R268): a stale one, or one that names the replay just started, is ignored. -/
def State.nakIn (s : State) (p a : Nat) : State :=
  let a := a % 65536
  if !s.isRunnel p ∨ s.lst p ≠ lkACTIVE then s.smIgnored
  else
    let s := s.pcount C_LNK_NAK_RX p
    if !s.ackFresh p a then s
    else
      let s := s.ackTo p a
      if s.lst p ≠ lkACTIVE then s
      else match (s.lk p).lastNak with
        | some (b, t) => if b = a ∧ s.ns < t + s.tAck p then s else s.replay p a
        | none => s.replay p a

def execAck (p a : Nat) (s : State) : Out := act s (s.ackIn p a)
def execNak (p a : Nat) (s : State) : Out := act s (s.nakIn p a)

/-- An ACK or NAK word with NEXT_RX − 1 is due in the next flit (R267). -/
def State.sendAck (s : State) (p : Nat) (nak : Bool) : State :=
  let now := s.ns
  if nak then (s.lkMap p (fun x => { x with ack := 2, nak := true, nakAt := now })).pcount C_LNK_NAK_TX p
  else s.lkMap p (fun x => { x with ack := if x.ack = 2 ∧ x.nak then 2 else 1 })

/-- A CREDIT word (R263, R271): a CUM that is not newer than the last accepted is ignored. -/
def State.creditIn (s : State) (p vn cum : Nat) : State :=
  if !s.isRunnel p ∨ s.lst p ≠ lkACTIVE ∨ 5 ≤ vn then s.smIgnored
  else
    let k := vnKey p vn
    let d := (cum + 2 ^ 32 - tgetD s.lnk.cum k 0 % 2 ^ 32) % 2 ^ 32
    if d = 0 ∨ 2 ^ 31 ≤ d then s
    else ({ s with lnk := { s.lnk with cum := tset s.lnk.cum k (cum % 2 ^ 32) } }).showCred p vn

def execCredit (p vn cum : Nat) (s : State) : Out := act s (s.creditIn p vn cum)

/-! ### Link-down and grace (R277, R282) -/

/-- A link-down criterion is met, or RETRAIN_TMO expires (Table 9-10). A grace of 0 flushes at once. -/
def State.linkDown (s : State) (p : Nat) : State :=
  let s := ((s.dropChange p).pput LNK_STAT_HELD p 1).lnkEvt p LNK_EVT_DOWN
  let s := ((s.pcount C_LNK_DOWN_CNT p).pput LNK_CTL_RETRAIN p 0).setLst p lkDETECT
  let s := (s.lkMap p (fun x => { x with
    lost := none, stopping := false, stopSent := false, fault := none, recal := none, blocks := [], acked := false, ack := 0, cred := [], words := [] })).dropTc7 p
  let s := if s.nbr p = nbrROUTABLE then s.setNbr p nbrGRACE else s
  if s.graceNs p = 0 then s.lnkFlush p true false else s

def State.lockSel (s : State) (p : Nat) : Bool := s.pget LNK_CTL_LD_SEL p == 0 || bit (s.pget LNK_CTL_LD_SEL p) 0
def State.errSel (s : State) (p : Nat) : Bool := s.pget LNK_CTL_LD_SEL p == 0 || bit (s.pget LNK_CTL_LD_SEL p) 1

/-- LOCK_CRITERION_EXPIRY (R277): no good flit for T_LOCK_EFF since a lane lost lock. -/
def execLockCriterionExpiry (p : Nat) (s : State) : Out :=
  act s (if !s.isRunnel p then s.smIgnored
    else if (s.lst p ≠ lkACTIVE ∧ s.lst p ≠ lkRETRAIN) ∨ (s.lk p).lost.isNone ∨ !s.lockSel p then s.lnkIgnored p
    else s.linkDown p)

/-- GRACE_EXPIRY (R282, Table 9-10). -/
def execGraceExpiry (p : Nat) (s : State) : Out :=
  act s (if !s.isRunnel p then s.smIgnored
    else if s.held p ∧ (s.lst p = lkDETECT ∨ s.lst p = lkLOCK ∨ s.lst p = lkCONFIG) then s.lnkFlush p true false
    else s.lnkIgnored p)

/-! ### Training (R278 to R283) -/

/-- The same partner incarnation as recorded. -/
def State.samePartner (s : State) (p : Nat) (b : TrainBlk) : Bool :=
  s.pon LNK_PARTNER_VALID p && s.pget LNK_PARTNER_NODE p == b.node % 4096 && s.pget LNK_PARTNER_PORT p == b.port % 128
    && s.pget LNK_PNONCE_PARTNER p == b.nonce % 2 ^ 32

/-- The conditions of R283 as this end sees them. -/
def State.canResume (s : State) (p : Nat) (b : TrainBlk) : Bool :=
  let ks := s.keptOf p
  let next := (s.lk p).nextTx
  let oldest := (ks.head?.map (·.fseq)).getD next
  (s.held p || s.lst p == lkRETRAIN) && b.hold && s.samePartner p b && s.pget LNK_NONCE_LOCAL p == b.pnonce % 2 ^ 32
    && decide ((b.nextRx + 65536 - oldest) % 65536 ≤ (next + 65536 - oldest) % 65536)

/-- The highest rate both ends offer: codes 1 to 3 for 32, 64 and 128 GT/s. This end offers all three. -/
def topRate (r : Nat) : Nat := if bit r 2 then 3 else if bit r 1 then 2 else 1

/-- The map that an exchange with a partner's block fixes (R280): that of before a retrain while every lane of it is good at
both ends, or the lowest good lanes of the largest allowed width; none where they form no allowed width. -/
def State.trainMap (s : State) (p : Nat) (b : TrainBlk) : Option Nat :=
  let common := laneMask ((laneList (s.pget LNK_LANES_OK p)).filter (fun l => bit b.lanes l && decide (l < s.lanesOf p)))
  let was := s.pget LNK_STAT_MAP p
  if s.lst p = lkRETRAIN ∧ was ≠ 0 ∧ laneCount was = b.widthIf ∧ (laneList was).all (fun l => bit common l) then some was else s.fitMap p common

/-- Rate, width and map after an exchange (R280), and the skew of each lane that training measures (R260). -/
def State.setWidth (s : State) (p map : Nat) (b : TrainBlk) : State :=
  let old := s.wr2 p
  let common := laneMask ((laneList (s.pget LNK_LANES_OK p)).filter (fun l => bit b.lanes l && decide (l < s.lanesOf p)))
  let spare := if s.spared p ∧ laneCount map = s.nominal p then (laneList (laneSub common map)).head? else none
  let s := ((s.pput LNK_STAT_MAP p map).pput LNK_STAT_WIDTH p (laneCount map)).pput LNK_STAT_SPARE_FREE p (b2n spare.isSome)
  let s := if s.lst p = lkRETRAIN then s else s.pput LNK_STAT_RATE p (topRate b.rates)
  let (ws, s) := s.freeList 16
  let skew := (laneList common).map (fun l => (l, ((ws.getD l 0).toNat % (2 * 16 * 65536 + 1) : Int) - 16 * 65536))
  (s.lkMap p (fun x => { x with
    txMap := map, rxMap := map, txPos := 0, rxPos := 0, line := 0, skew := skew, spare := spare, leaving := 0, recal := none, fault := none })).rateChanged p old

/-- The power controller's order takes an ACTIVE link to electrical idle (Table 9-10). -/
def State.beginIdle (s : State) (p : Nat) : State :=
  ((s.dropChange p).lkMap p (fun x => { x with stopping := true, stopSent := false })).stopTry p

/-- Eight training blocks leave, the last of an exchange at this end (R278). -/
def State.lastBlocks (s : State) (p : Nat) : State := s.forEach (List.range 8) (fun _ u => u.sendTrain p)

/-- An exchange completes: the link becomes ACTIVE, by a resume or a fresh start. A link that comes up sends a Hello at once,
and no Hello is recorded until its partner's comes (R134, R155). -/
def State.exchange (s : State) (p map : Nat) (b : TrainBlk) : State :=
  let resume := s.canResume p b
  let re := s.lst p == lkRETRAIN
  let s := ((s.lastBlocks p).setWidth p map b).pput LNK_RTT_NS p (min ((s.lclk + 2 ^ 33 - b.echo - b.age) % 2 ^ 32) (2 ^ 24 - 1))
  let s := (((s.pput LNK_PARTNER_NODE p b.node).pput LNK_PARTNER_PORT p b.port).pput LNK_PARTNER_VALID p 1).pput LNK_PNONCE_PARTNER p b.nonce
  let s := ((s.pput LNK_STAT_HELD p 0).pput LNK_CTL_RETRAIN p 0).setLst p lkACTIVE
  let s := s.lkMap p (fun x => { x with blocks := [], acked := false, seen := 0, bad := 0, laneSeen := 0, laneCorr := [], lost := none, replays := 0, lastNak := none, nak := false })
  let s := if resume then
      let s := if re then s.lnkEvt p LNK_EVT_RETRAINED else ((s.lnkEvt p LNK_EVT_UP).lnkEvt p LNK_EVT_RESUMED).pcount C_LNK_RESUME_CNT p
      let s := if s.nbr p = nbrGRACE then s.setNbr p nbrROUTABLE else s
      let s := (s.freeFlits p ((b.nextRx + 65535) % 65536)).2
      let s := s.forEach [0, 1, 2, 3, 4] (fun vn u => u.sendCredit p vn)
      s.resendAll p
    else ((s.lnkEvt p LNK_EVT_UP).freshCredit p)
  let s := s.showRpl p true
  let s := if re then s else (s.pput PORT_NBR_VALID p 0).hello p
  if (s.lk p).idleOrd ∧ s.lst p = lkACTIVE then s.beginIdle p else s

/-- A good training block on lane `l` in CONFIG or RETRAIN (R278, R283, Table 9-10): an end that holds state and cannot resume
flushes and draws its new nonce; the exchange completes once 8 blocks in a row with ACK_SEEN have come on every lane of the
negotiated map. -/
def State.trainStep (s : State) (p l : Nat) (b : TrainBlk) : State :=
  let s := if (s.held p ∨ s.lst p = lkRETRAIN) ∧ !s.canResume p b then
      let lost := !s.samePartner p b
      let s := if s.lst p = lkRETRAIN then
          let s := ((s.lnkEvt p LNK_EVT_DOWN).pcount C_LNK_DOWN_CNT p).pput LNK_CTL_RETRAIN p 0
          let s := if s.nbr p = nbrROUTABLE then s.setNbr p nbrGRACE else s
          (s.pput LNK_STAT_HELD p 1).setLst p lkCONFIG
        else s
      (s.lnkFlush p lost false).lkMap p (fun x => { x with blocks := [], acked := false })
    else s
  let s := if (s.lk p).acked then s else (s.lkMap p (fun x => { x with acked := true })).sendTrain p
  let s := s.lkMap p (fun x => { x with blocks := tset x.blocks l (if b.ack then tgetD x.blocks l 0 + 1 else 0) })
  match s.trainMap p b with
  | none => s
  | some m => if (laneList m).all (fun k => decide (8 ≤ tgetD (s.lk p).blocks k 0)) then s.exchange p m b else s

/-- A training block on lane `l` (R278, R281). A good one shows that the lane is locked; TSTAMP is kept for the next ECHO. -/
def State.trainBlock (s : State) (p l : Nat) (o : Option TrainBlk) : State :=
  let st := s.lst p
  if st ≠ lkACTIVE ∧ st ≠ lkEIDLE ∧ st ≠ lkCONFIG ∧ st ≠ lkRETRAIN then s.lnkIgnored p
  else match o with
    | none => s.lkMap p (fun x => { x with blocks := tdel x.blocks l })
    | some b =>
      let now := s.lclk
      let s := s.lkMap p (fun x => { x with echo := b.tstamp, echoAt := now })
      let s := s.pput LNK_LANES_OK p (laneSub (s.pget LNK_LANES_OK p ||| 2 ^ l) (s.pget LNK_LANES_FAILED p))
      if st = lkACTIVE ∨ st = lkEIDLE then (s.toRetrain p).trainStep p l b else s.trainStep p l b

/-- TRAINING_BLOCK: the 16 dwords of a block on a lane (Table 9-8); one whose MAGIC, VERSION or CRC is wrong is no good block. -/
def execTrainingBlock (p l magic ctl node port nonce pnonce nextRx offers lanes tstamp echoed age : Nat) (rsv : List Nat) (crc : Nat)
    (s : State) : Out :=
  act s (if !s.isRunnel p ∨ s.lanesOf p ≤ l then s.smIgnored
    else s.trainBlock p l (trainBlkOf (trainParts magic ctl node port nonce pnonce nextRx offers lanes tstamp echoed age rsv crc)))

/-- SIGNAL_DETECT (Table 9-10). -/
def execSignalDetect (p lanes : Nat) (s : State) : Out :=
  act s (if !s.isRunnel p then s.smIgnored
    else if s.lst p = lkDETECT ∧ (s.fitWidth p (laneCount (lowLanes lanes 16))).isSome then
      (s.lkMap p (fun x => { x with signal := lanes % 2 ^ 16 })).setLst p lkLOCK
    else s.lnkIgnored p)

/-- SYMBOL_LOCK (Table 9-10). A start that holds nothing draws its nonce before its first block (R279). -/
def execSymbolLock (p lanes : Nat) (s : State) : Out :=
  act s (if !s.isRunnel p then s.smIgnored
    else
      let good := laneSub (lanes % 2 ^ 16) (s.pget LNK_LANES_FAILED p)
      if s.lst p = lkLOCK ∧ (s.fitWidth p (laneCount good)).isSome then
        let s := (s.pput LNK_LANES_OK p good).setLst p lkCONFIG
        let s := if s.held p then s else s.newNonce p
        (s.lkMap p (fun x => { x with blocks := [], acked := false })).sendTrain p
      else s.lnkIgnored p)

/-- TRAIN_TMO_EXPIRY (Table 9-10). -/
def execTrainTmoExpiry (p : Nat) (s : State) : Out :=
  act s (if !s.isRunnel p then s.smIgnored
    else if s.lst p = lkLOCK ∨ s.lst p = lkCONFIG then s.setLst p lkDETECT else s.lnkIgnored p)

/-- RETRAIN_TMO_EXPIRY (Table 9-10). -/
def execRetrainTmoExpiry (p : Nat) (s : State) : Out :=
  act s (if !s.isRunnel p then s.smIgnored else if s.lst p = lkRETRAIN then s.linkDown p else s.lnkIgnored p)

/-- A RETRAIN_REQ word (Table 9-10). -/
def State.retrainIn (s : State) (p : Nat) : State :=
  if !s.isRunnel p then s.smIgnored else if s.lst p = lkACTIVE then s.toRetrain p else s.lnkIgnored p

/-- A STOP word (Table 9-10). -/
def State.stopIn (s : State) (p : Nat) : State :=
  if !s.isRunnel p then s.smIgnored
  else if s.lst p ≠ lkACTIVE then s.lnkIgnored p else if (s.lk p).stopping then s else s.beginIdle p

def execRetrainReq (p : Nat) (s : State) : Out := act s (s.retrainIn p)
def execStop (p : Nat) (s : State) : Out := act s (s.stopIn p)

/-- EIDLE_ACK_WAIT_EXPIRY (Table 9-10). -/
def execEidleAckWaitExpiry (p : Nat) (s : State) : Out :=
  act s (if !s.isRunnel p ∨ !(s.lk p).stopping then s.smIgnored else s.goIdle p)

/-- EIDLE_RELEASE (Table 9-10): the order no longer stands. -/
def execEidleRelease (p : Nat) (s : State) : Out :=
  act s (if !s.isRunnel p then s.smIgnored
    else if s.lst p = lkEIDLE ∧ !(s.lk p).idleOrd then s.toRetrain p else s.lnkIgnored p)

/-- Are the pools and the replay window configured (Table 9-10)? -/
def State.poolsSet (s : State) (p : Nat) : Bool := [0, 1, 2, 3, 4].all (fun vn => s.pool p vn != 0) && s.window p != 0

/-- LNK_CTL.SPARE of a disabled port; a change of the lane configuration draws a nonce (R279). -/
def State.setSpare (s : State) (p v : Nat) : State :=
  if v % 2 = s.pget LNK_CTL_SPARE p then s else (s.pput LNK_CTL_SPARE p v).newNonce p

/-- LNK_CTL.EN becomes set: DISABLED to DETECT. -/
def State.linkEnable (s : State) (p : Nat) : State :=
  if s.lst p = lkDISABLED ∧ s.isRunnel p ∧ s.poolsSet p then
    (((s.newNonce p).pput LNK_STAT_HELD p 0).setLst p lkDETECT).showRpl p false
  else s.lnkIgnored p

/-- LNK_CTL.EN becomes clear, or the port is reconfigured: flush without grace. -/
def State.linkDisable (s : State) (p : Nat) : State :=
  if s.lst p = lkDISABLED then (s.showFloor none).lnkIgnored p
  else
    let s := ((s.dropChange p).lnkFlush p true true).dropTc7 p
    let s := ((s.pput LNK_CTL_RETRAIN p 0).setLst p lkDISABLED).lkMap p (fun x => { x with stopping := false, stopSent := false, recal := none, fault := none, blocks := [], acked := false })
    s.showFloor none

/-- LNK_CTL.RETRAIN is written 1. -/
def State.retrainWrite (s : State) (p : Nat) : State :=
  if s.lst p = lkACTIVE then (s.pput LNK_CTL_RETRAIN p 1).toRetrain p
  else if s.lst p = lkRETRAIN then s.pput LNK_CTL_RETRAIN p 1
  else s.lnkIgnored p

end Sys2Proof.Machine
end

