-- ==== Sys2Proof/Machine/Ingress.lean ====
section
/-! DEFINITION. What a fabric port does with the flits and packets it receives: acceptance, ingress storage, and the checks
of the PT NI before a packet enters the mesh (R74, R100, R144, R266, R267, R272, R338 to R342). -/

namespace Sys2Proof.Machine

/-! ### The fabric-port guard (Table 12-1, R339, Table 12-3) -/

/-- How a guard checks a packet: not at all, as a message, or a range with a permission; `whole` is never divided. -/
inductive Check where
  | none_
  | msg
  | range (pm : Perm) (off n : Nat) (whole : Bool)
  deriving DecidableEq, Repr

/-- The check of a TLP by its type (Table 12-2). -/
def tlpCheck (x : Tlp) (n sz : Nat) : Check :=
  if x.typ = tyMRd then (let r := tlpSpan x (x.bytes / 4); if r.2 = 0 then .none_ else .range .r r.1 r.2 false)
  else if x.typ = tyMWr ∨ x.typ = tyDMWr then (let r := tlpSpan x n; .range .w r.1 r.2 false)
  else if x.typ = tyAtomic then .range .atomic 0 sz true
  else if x.typ = tyMsg ∨ x.typ = tyVdm then .msg
  else .none_

/-- The check of a packet by its kind or TLP type (Table 12-2). -/
def pktCheck (k : Pkt) : Check :=
  if k.kind = kTLP then (match k.tlp with | some x => tlpCheck x k.data.length (atomicSize k) | none => .none_)
  else if k.kind = kMSG ∨ k.kind = kJOB then .msg
  else if k.kind = kREAD ∧ k.len = 0 then .none_
  else match permOf k.kind with
    | none => .none_
    | some pm =>
      let n := if k.kind = kATOMIC then atomicSize k else 4 * k.len
      .range pm 0 n (k.kind == kRESERVE || k.kind == kCOND || k.kind == kATOMIC)

/-- The guard address of a packet for this node: in a bank's part of the cistern for a CT tile (Table 12-1). -/
def guardAddr (k : Pkt) : Nat :=
  if eidSub k.dest = 31 then (match bankAt (eidPort k.dest) with | some b => bankBase b + k.addr | none => k.addr) else k.addr

/-- The fabric-port guard on a whole packet: does it pass? -/
def State.portGuard (s : State) (p : Nat) (k : Pkt) : Bool × State :=
  let n := portC p
  let rid := match k.tlp with | some x => x.rid | none => 0
  let who : GuardWho := ⟨k.kind, k.priv == 1, p, k.basin, rid, eidNode k.src⟩
  match pktCheck k with
  | .none_ => (true, s)
  | .msg => s.guardMsg n who (guardAddr k)
  | .range pm off len whole =>
    let (ok, s) := s.guardCheck n pm whole who [(guardAddr k + off, len)]
    (decide (len ≤ (ok.map (·.2)).sum), s)

/-- What the guard answers for a packet it stops (Table 12-3). -/
def guardAnswer (k : Pkt) : Option Pkt :=
  if k.kind = kREAD ∨ isTlp k tyMRd then some (mkCplD k .poisoned (List.replicate (reqLen k) 0))
  else if pktClass k = 1 then some (mkCpl k .guardFault) else none

/-! ### From ingress storage into the mesh -/

/-- A packet travelling down that would turn up again (R144). A lookup in a FREE bank is no turn: it ends in R153's drop. -/
def State.turns (s : State) (p : Nat) (k : Pkt) : Bool :=
  let i := rteIdx k.repoch (eidNode k.dest)
  s.bank k.repoch != 0 && nbrDir s p == 1 && eidNode k.dest != s.node && s.on (RTE_ENT_VALID i) && !s.on (RTE_ENT_DOWN i)

/-- The PT NI takes a packet from port `p`: header check, PRIV, turn check, guard, mesh. -/
def State.fromPort (s : State) (p : Nat) (k : Pkt) : State :=
  let t := ptTile (portC p)
  let o := s.hdrFail k
  if o ≠ 0 then
    let s := (s.hdrErr t o k).resLeave k
    if 3 ≤ o ∧ o ≤ 5 ∧ pktClass k = 1 then s.respondAt t (some (mkCpl k .unsupported)) else s
  else
    if s.turns p k then
      let s := (s.count C_RTE_TURN_DROP).resLeave k
      if pktClass k = 1 then s.respondAt t (some (mkCpl k .pathLost)) else s
    else if eidNode k.dest ≠ s.node then s.forward t k none
    else
      -- PRIV falls only at the die where the packet ends (R74).
      let k := if s.pon PORT_CFG_PRIV_TRUST p ∨ k.priv = 0 then k else reChk { k with priv := 0 }
      let (ok, s) := s.portGuard p k
      if !ok then (s.resLeave k).respondAt t (guardAnswer k)
      else match pktCheck k with
        | .none_ => s.forward t k none
        | _ =>
          let g := s.guardTag (portC p)
          (s.guardOpen g.1 g.2 true).forward t k (some g)

/-- Does a packet end at the PT NI of the port it came in on (R37, R134)? -/
def linkLocal (k : Pkt) : Bool := k.kind == kTIME || (k.kind == kMGMT && k.addr % 65536 == 1)

/-- The PT NI takes a packet that ends here; a header check on DEST_EID does not apply to it. An ANNOUNCE goes across the
mesh to the active timebase tile, from the EID of the port it came in on (R37, assumption log 83). -/
def State.takeNear (s : State) (p at_ : Nat) (k : Pkt) : State :=
  let t := ptTile (portC p)
  let o := s.hdrFail k
  if o ≠ 0 ∧ ¬ (o = 4 ∧ addrOk k) then (s.resLeave k).hdrErr t o k
  else if timeSub k = 4 then s.forward t (reChk { k with dest := tileEid s.node s.tbTile, src := s.node * 4096 + p * 32 }) none
  else
    let s := s.resLeave k
    { s with lnk := { s.lnk with near := s.lnk.near ++ [(p, at_, k)] } }

/-- The credit units of a packet that leaves ingress storage are free (R271). -/
def State.freeIngress (s : State) (x : InPkt) : State :=
  let p := x.port
  if x.old then s
  else
    let k := vnKey p x.pkt.vn
    let s := { s with lnk := { s.lnk with granted := tset s.lnk.granted k ((tgetD s.lnk.granted k 0 + units x.pkt) % 2 ^ 32) } }
    if s.lst p = lkACTIVE then s.sendCredit p x.pkt.vn else s

/-- A packet leaves ingress storage: its credit units are free, and the PT NI takes it (R271). -/
def State.release (s : State) (x : InPkt) : State :=
  let p := x.port
  let s := s.freeIngress x
  if linkLocal x.pkt then s.takeNear p x.at_ x.pkt else s.fromPort p x.pkt

/-- The oldest packet of a virtual network in a port's ingress storage. -/
def inHead (p vn : Nat) (x : InPkt) : Bool := x.port == p && x.pkt.vn == vn

/-- INGRESS_RELEASE (R272): the oldest packet of a VN leaves ingress storage once its tail has come. One in spill is read back
first, and leaves when its bytes are there. -/
def execIngressRelease (p vn : Nat) (s : State) : Out :=
  act s (match s.lnk.inq.find? (inHead p vn) with
    | none => s.smIgnored
    | some x =>
      if !x.done ∨ x.asked then s.smIgnored
      else match x.spill with
        | some a =>
          let s := { s with lnk := { s.lnk with inq := s.lnk.inq.map (fun y => if y = x then { y with asked := true } else y) } }
          s.unitRead (ptTile (portC p)) a (pktBytes x.pkt) (.spilled p vn)
        | none => ({ s with lnk := { s.lnk with inq := dropFirst (inHead p vn) s.lnk.inq } }).release x)

/-- A spilled packet has been read back; one that cannot be flushes the port (R275). -/
def State.spilledBack (s : State) (p vn : Nat) (ok : Bool) (bs : List Nat) : State :=
  match s.lnk.inq.find? (inHead p vn) with
  | none => s
  | some x =>
    if !x.asked then s
    else
      let s := { s with lnk := { s.lnk with inq := dropFirst (inHead p vn) s.lnk.inq } }
      if ok then s.release { x with pkt := pktOfWire bs }
      else
        let (c, ctr) := flushAct x.pkt
        (((s.resLeave x.pkt).pcount ctr p).respondAt (ptTile (portC p)) c).spillFail p

/-! ### Timestamps at the lane attachment (R37, R50) -/

/-- A latency in ps as 2^-16 ns. -/
def psTime (ps : Nat) : Nat := ps * 65536 / 1000

/-- Skew of logical lane 0 of a map against the port's lowest-numbered lane (R260). -/
def State.laneSkew (s : State) (p map : Nat) : Int :=
  match laneList map with
  | [] => 0
  | l :: _ => if l = 0 then 0 else tgetD (s.lk p).skew l 0

/-- An instant in the PT NI as the instant at the lane attachment, for what leaves and for what arrives (R37, R260). -/
def State.txTime (s : State) (p t : Nat) : Nat :=
  ((t : Int) + psTime (s.get (PT_TM_TXLAT_PS (portC p))) + s.laneSkew p (s.lk p).txMap).toNat
def State.rxTime (s : State) (p t : Nat) : Nat :=
  ((t : Int) - psTime (s.get (PT_TM_RXLAT_PS (portC p))) + s.laneSkew p (s.lk p).rxMap).toNat

/-- A MGMT packet with PTP_EVENT is timestamped in its port's queue of 64 entries, keyed by TAG (R50); a full queue loses
its oldest entry (assumption log 21). -/
def State.ptpStamp (s : State) (p : Nat) (k : Pkt) (t : Nat) : State :=
  if k.kind = kMGMT ∧ bit k.addr 16 then
    let q := s.tm.ptpq.filter (fun e => !(e.1 == p && e.2.1 == k.tag))
    let mine := q.filter (fun e => e.1 == p)
    let q := if 64 ≤ mine.length then dropFirst (fun e => e.1 == p) q else q
    { s with tm := { s.tm with ptpq := q ++ [(p, k.tag, t)] } }
  else s

/-! ### Flits (R261, R266, R267, R272, R277) -/

/-- Units of a VN on the tile. -/
def State.tileUnits (s : State) (p vn : Nat) : Nat :=
  ((s.lnk.inq.filter (fun x => x.port == p && x.pkt.vn == vn && x.spill.isNone)).map (fun x => units x.pkt)).sum

/-- Does a packet go to spill: the VN's part on the tile is full, or an earlier packet of the VN is in spill (R272)? -/
def State.spills (s : State) (p : Nat) (k : Pkt) : Bool :=
  decide (k.vn < 3) && s.get (LNK_RXPOOL_SPILL (portC p) (portK p) k.vn) != 0 && s.spillOn p &&
    (s.lnk.inq.any (fun x => x.port == p && x.pkt.vn == k.vn && x.spill.isSome)
      || decide (s.get (LNK_RXPOOL_TILE (portC p) (portK p) k.vn) < s.tileUnits p k.vn + units k))

/-- A packet's header has come, and its HDR_CHK is right: it enters the node and takes its place in ingress storage. With a
wrong HDR_CHK nothing of it is kept (R71, R100). -/
def State.headIn (s : State) (p : Nat) (k : Pkt) : State :=
  if k.chk ≠ hdrChk k then s.hdrErr (ptTile (portC p)) 1 k
  else
    let s := (s.resEnter k).ptpStamp p k (s.rxTime p s.stamp16)
    let at_ := s.stamp16
    let put (s : State) (a : Option Nat) : State := { s with lnk := { s.lnk with inq := s.lnk.inq ++ [(⟨p, k, at_, false, a, false, false⟩ : InPkt)] } }
    if !s.spills p k then put s none
    else
      let cap := 1024 * s.get (LNK_RXPOOL_SPILL (portC p) (portK p) k.vn)
      let from_ := tgetD s.lnk.spillAt (vnKey p k.vn) 0 % cap
      let pos := if cap < from_ + units k then 0 else from_
      put { s with lnk := { s.lnk with spillAt := tset s.lnk.spillAt (vnKey p k.vn) (pos + units k) } } (some (s.ingressBase p k.vn + 64 * pos))

/-- The packet in progress is whole: `k` with its payload takes the place of its header; a packet that spills is written. -/
def State.tailIn (s : State) (p : Nat) (bs : List Nat) : State :=
  let s := s.lkMap p (fun x => { x with rxBuf := [] })
  let k := pktOfWire bs
  if k.chk ≠ hdrChk k then s
  else match s.lnk.inq.find? (fun x => x.port == p && !x.done) with
    | none => s
    | some x =>
      let s := { s with lnk := { s.lnk with inq := s.lnk.inq.map (fun y => if y = x then { y with pkt := k, done := true } else y) } }
      match x.spill with
      | some a => s.spillWrite p a bs
      | none => s

/-- The bytes of a packet area: the packet in progress goes on, further packets begin at dwords, and a zero dword where one
would begin marks the rest as fill (R262). -/
def State.areaIn : Nat → Nat → List Nat → State → State
  | 0, _, _, s => s
  | f + 1, p, bs, s =>
    let buf := (s.lk p).rxBuf
    if bs.isEmpty ∨ (buf.isEmpty ∧ (bs.take 4).all (· == 0)) then s
    else
      let want := if buf.length < 32 then 32 else pktBytes (pktOfHdr buf)
      let b := buf ++ bs.take (want - buf.length)
      let s := s.lkMap p (fun x => { x with rxBuf := b })
      if b.length < want then s
      else
        let s := if buf.length < 32 then s.headIn p (pktOfHdr b) else s
        let s := if pktBytes (pktOfHdr b) ≤ b.length then s.tailIn p b else s
        State.areaIn f p (bs.drop (want - buf.length)) s

/-- The window of the error criterion: flits and bad flits from ACTIVE onwards (R277). -/
def State.errWindow (s : State) (p : Nat) (bad : Bool) : Bool × State :=
  let w := 2 ^ clampN 10 30 (s.pget LNK_ERRCRIT_WIN_LOG2 p)
  let x := s.lk p
  let n := x.bad + b2n bad
  let met := s.errSel p && decide (max 1 (s.pget LNK_ERRCRIT_THRESH p) < n)
  (met, s.lkMap p (fun y => if w ≤ x.seen + 1 then { y with seen := 0, bad := 0 } else { y with seen := x.seen + 1, bad := n }))

/-- Counts corrected symbols per lane in the lane window (R265, R289). -/
def State.laneWindow (s : State) (p : Nat) (corr : List (Nat × Nat)) : State :=
  let s := s.forEach corr (fun e u => u.bump (C_LANE_CORR (portC p) (2 * portK p + e.1)) e.2)
  let w := 2 ^ clampN 10 30 (s.pget LNK_LANECRIT_WIN_LOG2 p)
  let add (t : List (Nat × Nat)) : List (Nat × Nat) := corr.foldl (fun t e => tset t e.1 (tgetD t e.1 0 + e.2)) t
  s.lkMap p (fun y => if w ≤ y.laneSeen then { y with laneSeen := 1, laneCorr := add [] } else { y with laneSeen := y.laneSeen + 1, laneCorr := add y.laneCorr })

/-- A good DATA flit (R267). -/
def State.dataFlit (s : State) (p : Nat) (f : LinkFlit) : State :=
  let x := s.lk p
  let d := (f.fseq + 65536 - x.nextRx) % 65536
  if d = 0 then
    let s := s.lkMap p (fun y => { y with nextRx := (x.nextRx + 1) % 65536, nak := false })
    (State.areaIn (f.area.length + 1) p f.area s).sendAck p false
  else if d ≤ 32767 then (if x.nak then s else s.sendAck p true)
  else s.sendAck p false

/-- Class of a received flit (Table 9-5): 0 good, 1 corrected, 2 CRC-64 failed, 3 uncorrectable. -/
def gradeGood : Nat := 0
def gradeCorrected : Nat := 1
def gradeCrc : Nat := 2
def gradeLost : Nat := 3

/-- A received flit after FEC and CRC-64: its class, the bytes that FEC corrected, and what it holds. -/
structure RxFlit where
  grade : Nat
  fixed : List Nat
  flit  : LinkFlit
  deriving DecidableEq, Repr

/-- FEC runs first, then CRC-64 (R266). Of a flit that is not good nothing is used but its class. -/
def rxFlit (bs : List Nat) : RxFlit :=
  match fecDecode (padTo 320 (bs.take 320)) with
  | none => ⟨gradeLost, [], linkFlitOf []⟩
  | some (b, fixed) => if crcPass b then ⟨if fixed.isEmpty then gradeGood else gradeCorrected, fixed, linkFlitOf b⟩ else ⟨gradeCrc, fixed, linkFlitOf []⟩

/-- Is a received flit bad (R266, Table 9-3)? -/
def RxFlit.bad (r : RxFlit) : Bool := decide (2 ≤ r.grade) || decide (2 ≤ r.flit.ft)

/-- Corrected symbols per port lane: each is attributed to the lane that carried it (R265). -/
def State.corrLanes (s : State) (p : Nat) (fixed : List Nat) : List (Nat × Nat) :=
  let x := s.lk p
  fixed.foldl (fun t j => let l := laneOfByte x.rxMap (x.rxPos + j); tset t l (tgetD t l 0 + 1)) []

end Sys2Proof.Machine
end

