-- ==== Sys2Proof/Machine/Lanes.lean ====
section
/-! DEFINITION. Map changes, lane faults and recalibration of a Runnel port, and the receipt of flits (R286 to R290). -/

namespace Sys2Proof.Machine

/-! ### Maps in force (R259, R286) -/

/-- The transmit direction takes a new map: STAT shows it, and the port's rate follows (R176). -/
def State.takeTx (s : State) (p m : Nat) : State :=
  let old := s.wr2 p
  let gone := laneSub (s.lk p).txMap m
  let s := (s.pput LNK_STAT_MAP p m).pput LNK_STAT_WIDTH p (laneCount m)
  ((s.lkMap p (fun x => { x with txMap := m, txPos := 0, leaving := x.leaving ||| gone, fault := none })).rateChanged p old).showRpl p false

/-- A map marker leaves on every lane of the old map and of the new one (R286). -/
def State.sendMarker (s : State) (p kind rid m : Nat) : State :=
  let next := (s.lk p).nextTx
  let new := laneList m
  s.forEach (laneList ((s.lk p).txMap ||| m)) (fun l u =>
    u.send (.marker p l (markerBytes kind rid m next (laneCount m) (if new.contains l then new.idxOf l else 0xFF))))

/-! ### Planned changes (R287, R288) -/

def State.setChg (s : State) (p : Nat) (c : MapChg) : State := (s.lkMap p (fun x => { x with chg := some c })).pput LNK_STAT_CHANGE p 1

/-- Does a map add lanes to the one in force? -/
def State.adds (s : State) (p m : Nat) : Bool := laneSub m (s.lk p).txMap != 0

/-- This end's receive side holds the added lanes: it says so (R287 step 3). -/
def State.myReady (s : State) (p : Nat) (c : MapChg) : State :=
  if s.adds p c.map then
    let c' : MapChg := { c with phase := 1, myRdy := true }
    (s.setChg p c').linkWord p (readyWord c.rid)
  else
    let c' : MapChg := { c with phase := 2 }
    s.setChg p c'

/-- The initiator of a change sends MAP_REQ with a fresh RID. -/
def State.askChange (s : State) (p kind lane m : Nat) : State :=
  let rid := ((s.lk p).rid + 1) % 256
  let s := (s.lkMap p (fun x => { x with rid := rid })).setChg p ⟨rid, kind, lane, m, true, 0, false⟩
  s.linkWord p (mapReqWord rid kind (laneCount m) lane m s.node)

/-- The reason a responder has to refuse a request, 0 when it accepts (Table 9-4). -/
def State.mapRefuse (s : State) (p m : Nat) : Nat :=
  if s.pon LNK_CTL_RETRAIN p then 4
  else if (s.lk p).chg.isSome then 3
  else if !(s.widthsOf p).contains (laneCount m) then 1
  else if (laneList m).any (fun l => !bit (s.pget LNK_LANES_OK p) l) then 2 else 0

/-- The responder's answer (R287 step 2). -/
def State.mapAnswer (s : State) (p rid kind lane m : Nat) : State :=
  let r := s.mapRefuse p m
  let s := s.linkWord p (mapRspWord rid (r == 0) r)
  if r = 0 then s.myReady p ⟨rid, kind, lane, m, false, 0, false⟩ else s

/-- This end withdraws its own request, having lost a cross (R288). -/
def State.crossLost (s : State) (p : Nat) : State :=
  let s := ((s.lkMap p (fun x => { x with chg := none })).pput LNK_STAT_CHANGE p 0).lnkEvt p LNK_EVT_CROSS_LOST
  let s := s.pcount C_LNK_CROSS_LOST_CNT p
  match s.parkedOn (fun w => w == .linkWidth p) with
  | some mb => s.busy mb 0
  | none => s

/-- A MAP_REQ word (R287, R288). -/
def State.mapReqIn (s : State) (p rid kind lane m node : Nat) : State :=
  if !s.isRunnel p ∨ s.lst p ≠ lkACTIVE then s.smIgnored
  else match (s.lk p).chg with
    | some c =>
      if c.mine ∧ c.phase = 0 then
        (if node % 4096 < s.node then s else (s.crossLost p).mapAnswer p (rid % 256) kind lane (m % 2 ^ 16))
      else s.mapAnswer p (rid % 256) kind lane (m % 2 ^ 16)
    | none => s.mapAnswer p (rid % 256) kind lane (m % 2 ^ 16)

/-- A MAP_RSP word (R287). -/
def State.mapRspIn (s : State) (p rid : Nat) (accept : Bool) : State :=
  if !s.isRunnel p ∨ s.lst p ≠ lkACTIVE then s.smIgnored
  else match (s.lk p).chg with
    | some c =>
      if c.mine ∧ c.phase = 0 ∧ c.rid = rid % 256 then (if accept then s.myReady p c else s.dropChange p)
      else s.smIgnored
    | none => s.smIgnored

/-- A LANES_READY word (R287 step 3). -/
def State.readyIn (s : State) (p rid : Nat) : State :=
  match (s.lk p).chg with
  | some c =>
    if c.phase = 1 ∧ c.rid = rid % 256 ∧ s.isRunnel p then
      let c' : MapChg := { c with phase := if c.myRdy then 2 else 1 }
      s.setChg p c'
    else s.smIgnored
  | none => s.smIgnored

def execMapReq (p rid kind lane m node : Nat) (s : State) : Out := act s (s.mapReqIn p rid kind lane m node)
def execMapRsp (p rid : Nat) (accept : Bool) (s : State) : Out := act s (s.mapRspIn p rid accept)
def execLanesReady (p rid : Nat) (s : State) : Out := act s (s.readyIn p rid)

/-- LANES_READY_TIMEOUT (R287 step 3). -/
def execLanesReadyTimeout (p : Nat) (s : State) : Out :=
  act s (match (s.lk p).chg with
    | some c => if c.phase = 1 ∧ s.isRunnel p then s.dropChange p else s.smIgnored
    | none => s.smIgnored)

/-- The spare is free while it is trained and in neither map. -/
def State.showSpare (s : State) (p : Nat) : State := s.pput LNK_STAT_SPARE_FREE p (b2n (s.lk p).spare.isSome)

/-- A lane that passed its pattern check returns by a planned change to the largest allowed width (R290). -/
def State.laneBack (s : State) (p l : Nat) : State :=
  let x := s.lk p
  let good := s.pget LNK_LANES_OK p
  if bit x.txMap l ∨ x.spare = some l then s.lkMap p (fun y => { y with recal := none })
  else match s.fitMap p (laneMask ((laneList good).filter (fun k => bit x.txMap k || k == l))) with
    | none => s.lkMap p (fun y => { y with recal := none })
    | some m => s.askChange p 3 l m

/-- Both directions run the new map (R287 step 5). -/
def State.changeDone (s : State) (p : Nat) (c : MapChg) : State :=
  let s := ((s.lkMap p (fun x => { x with chg := none })).pput LNK_STAT_CHANGE p 0).lnkEvt p LNK_EVT_CHANGE_DONE
  let s := s.pcount C_LNK_CHANGE_CNT p
  -- The spare is the lane that a spared port at nominal width keeps trained and unused.
  let x := s.lk p
  let idle := laneSub (s.pget LNK_LANES_OK p) x.txMap
  let spare := if s.spared p ∧ laneCount x.txMap = s.nominal p then
      (laneList idle).find? (fun l => decide (l < s.lanesOf p) && !(c.kind == 2 && l == c.lane)) else none
  let s := (s.lkMap p (fun y => { y with spare := spare, recal := if !c.mine then y.recal else if c.kind = 2 then some (c.lane, 1) else if c.kind = 3 then none else y.recal })).showSpare p
  let s := match s.parkedOn (fun w => w == .linkWidth p) with
    | some mb => if c.mine ∧ c.kind = 0 then s.okQuery mb [] else s
    | none => s
  match (s.lk p).recal with
  | some (l, 2) => s.laneBack p l
  | _ => s

/-- A change completes once both directions have changed. -/
def State.tryDone (s : State) (p : Nat) : State :=
  match (s.lk p).chg with
  | some c => if c.phase = 2 ∧ (s.lk p).txMap = c.map ∧ (s.lk p).rxMap = c.map then s.changeDone p c else s
  | none => s

/-- A planned change at a packet boundary: the packet that ran has ended, and its last flit is filled and sent (R287 step 4,
R176). While a packet in progress waits for the window there is no boundary yet. -/
def State.planMarker (s : State) (p : Nat) (c : MapChg) : State :=
  let s := (s.endPkt p).pump p true
  if !(s.lk p).txq.isEmpty ∨ !(s.lk p).rpl.isEmpty then s
  else ((s.sendMarker p 0 c.rid c.map).takeTx p c.map).tryDone p

/-- MAP_MARKER_SEND (R286, R287 step 4, R289): a fault change at the next flit boundary, a planned one at the next packet
boundary. -/
def execMapMarkerSend (p : Nat) (s : State) : Out :=
  act s (if !s.isRunnel p ∨ s.lst p ≠ lkACTIVE then s.smIgnored
    else match (s.lk p).fault with
      | some m => (s.sendMarker p 1 0 m).takeTx p m
      | none => match (s.lk p).chg with
        | some c => if c.phase = 2 ∧ (s.lk p).txMap ≠ c.map then s.planMarker p c else s.smIgnored
        | none => s.smIgnored)

/-- The map that the 16 bytes of a marker name; nothing when its MAGIC or CRC is wrong (Table 9-11). -/
def markerMap (bs : List Nat) : Option Nat :=
  if ofLeBytes (bs.take 4) = 0x5A3CC3A5 ∧ bs.length = 16 ∧ ofLeBytes ((bs.drop 14).take 2) = crc16 (bs.take 14)
  then some (ofLeBytes ((bs.drop 6).take 2)) else none

/-- MAP_MARKER_RECEIVE (R286): the bytes after the marker follow the new map. -/
def execMapMarkerReceive (p : Nat) (bytes : List Nat) (s : State) : Out :=
  act s (if !s.isRunnel p ∨ s.lst p ≠ lkACTIVE then s.smIgnored
    else match markerMap bytes with
      | none => s.smIgnored
      | some m => (s.lkMap p (fun x => { x with rxMap := m, rxPos := 0 })).tryDone p)

/-- LANE_IDLE_AFTER_MARKER (R287 step 5). -/
def execLaneIdleAfterMarker (p : Nat) (s : State) : Out :=
  act s (if !s.isRunnel p ∨ (s.lk p).leaving = 0 then s.smIgnored
    else s.lkMap p (fun x => { x with leaving := 0 }))

/-! ### Lane faults (R289) -/

/-- The map after lane `l` has gone: the spare in its place, or narrower; none where the link goes down. -/
def State.faultMap (s : State) (p l : Nat) : Option Nat :=
  let x := s.lk p
  let rest := laneSub x.txMap (2 ^ l)
  match x.spare with
  | some k => some (rest ||| 2 ^ k)
  | none => if s.pon LNK_CTL_AUTO_NARROW p then s.fitMap p rest else none

/-- Takes lane `l` out of this end's transmit direction at the next flit boundary. -/
def State.removeLane (s : State) (p l : Nat) : State :=
  let s := s.dropChange p
  if (s.lk p).spare = some l then (s.lkMap p (fun x => { x with spare := none })).showSpare p
  else if !bit (s.lk p).txMap l then s
  else match s.faultMap p l with
    | none => s.linkDown p
    | some m => (s.lkMap p (fun x => { x with fault := some m, spare := none })).showSpare p

/-- A receiver marks lane `l` failed: record, LANE_FAIL, and a fault change of its own direction. -/
def State.laneFailed (s : State) (p l cause : Nat) : State :=
  let s := ((s.pput LNK_LANES_FAILED p (s.pget LNK_LANES_FAILED p ||| 2 ^ l)).pput LNK_LANES_OK p (laneSub (s.pget LNK_LANES_OK p) (2 ^ l)))
  let s := (((s.lnkEvt p LNK_EVT_LANE_FAIL).fault 4 p (l + cause * 16)).linkWord p (laneFailWord l cause))
  let s := if cause = 1 ∧ (s.lk p).lost.isNone ∧ bit (s.lk p).rxMap l then
      let now := s.ns
      s.lkMap p (fun x => { x with lost := some now })
    else s
  s.removeLane p l

/-- LANE_LOCK_LOSS (R289): lane `l` loses symbol lock. -/
def execLaneLockLoss (p l : Nat) (s : State) : Out :=
  act s (if !s.isRunnel p ∨ s.lst p ≠ lkACTIVE ∨ s.lanesOf p ≤ l then s.smIgnored
    else
      let s := (s.count (C_LANE_LOCKLOSS (portC p) (2 * portK p + l))).lkMap p (fun x => { x with signal := laneSub x.signal (2 ^ l) })
      s.laneFailed p l 1)

/-- A LANE_FAIL word (R289 step 4). -/
def State.laneFailIn (s : State) (p l : Nat) : State :=
  if !s.isRunnel p ∨ s.lst p ≠ lkACTIVE ∨ s.lanesOf p ≤ l then s.smIgnored else s.removeLane p l

def execLaneFail (p l : Nat) (s : State) : Out := act s (s.laneFailIn p l)

/-! ### Recalibration (R290) -/

/-- The map without lane `l` for its recalibration: the spare stands in, or the port narrows. -/
def State.outMap (s : State) (p l : Nat) : Option Nat :=
  let x := s.lk p
  let rest := laneSub x.txMap (2 ^ l)
  match x.spare with
  | some k => some (rest ||| 2 ^ k)
  | none => s.fitMap p rest

/-- May lane `l` be recalibrated now? -/
def State.canRecal (s : State) (p l : Nat) : Bool :=
  let x := s.lk p
  s.lst p == lkACTIVE && x.recal.isNone && x.chg.isNone && (x.spare == some l || (bit x.txMap l && (s.outMap p l).isSome))

/-- Begins the recalibration of a lane; an unused spare needs no map change. -/
def State.recalStart (s : State) (p l : Nat) : State :=
  if (s.lk p).spare = some l then s.lkMap p (fun x => { x with recal := some (l, 1) })
  else match s.outMap p l with
    | none => s
    | some m => (s.lkMap p (fun x => { x with recal := some (l, 0) })).askChange p 2 l m

/-- RECAL_PERIOD_EXPIRY (R290): the lanes are taken in turn. -/
def execRecalPeriodExpiry (p : Nat) (s : State) : Out :=
  act s (if !s.isRunnel p ∨ s.pget LNK_RECAL_PERIOD_S p = 0 then s.smIgnored
    else
      let l := (s.lk p).turn % s.lanesOf p
      let s := s.lkMap p (fun x => { x with turn := l + 1 })
      if s.canRecal p l then s.recalStart p l else s)

/-- RECAL_ACK (R290, R451). -/
def execRecalAck (p l : Nat) (s : State) : Out :=
  act s (match (s.lk p).recal with
    | some (k, 1) =>
      if !s.isRunnel p ∨ k ≠ l then s.smIgnored
      else if (s.lk p).spare = some l then s.lkMap p (fun x => { x with recal := none })
      else
        let s := s.lkMap p (fun x => { x with recal := some (l, 2) })
        if (s.lk p).chg.isNone then s.laneBack p l else s
    | _ => s.smIgnored)

/-- RECAL_TIMEOUT (R290): the lane is marked failed with cause 3. -/
def execRecalTimeout (p : Nat) (s : State) : Out :=
  act s (match (s.lk p).recal with
    | some (l, k) =>
      if !s.isRunnel p ∨ k = 2 then s.smIgnored
      else ((s.lkMap p (fun x => { x with recal := none })).lnkEvt p LNK_EVT_RECAL_FAIL).laneFailed p l 3
    | none => s.smIgnored)

/-! ### Flits received (R266, R267) -/

/-- Lanes whose corrected symbols pass their limit fail; one that reaches half of it is recalibrated. -/
def State.laneLimits (s : State) (p : Nat) : State :=
  let lim := s.pget LNK_LANECRIT_THRESH p
  let c := (s.lk p).laneCorr
  let bad := (c.filter (fun e => decide (lim < e.2) && !bit (s.pget LNK_LANES_FAILED p) e.1)).map (·.1)
  let s := s.forEach bad (fun l u => if u.lst p = lkACTIVE then u.laneFailed p l 2 else u)
  let half := (c.filter (fun e => decide (lim ≤ 2 * e.2) && !bit (s.pget LNK_LANES_FAILED p) e.1)).map (·.1)
  match half.find? (fun l => s.canRecal p l) with
  | some l => s.recalStart p l
  | none => s

/-- A link word of a good flit (R263); one that takes the link out of ACTIVE leaves those after it unread. -/
def State.wordIn (s : State) (p w : Nat) : State :=
  if s.lst p ≠ lkACTIVE then s
  else match bits w 0 8 with
    | 1 => if bit w 24 then s.nakIn p (bits w 8 16) else s.ackIn p (bits w 8 16)
    | 2 => if bits w 8 3 < 5 then s.creditIn p (bits w 8 3) (bits w 32 32) else s
    | 3 => s.mapReqIn p (bits w 8 8) (bits w 16 2) (bits w 24 4) (bits w 32 16) (bits w 48 12)
    | 4 => s.mapRspIn p (bits w 8 8) (bit w 16)
    | 5 => s.readyIn p (bits w 8 8)
    | 6 => s.laneFailIn p (bits w 8 4)
    | 7 => s.stopIn p
    | 8 => s.retrainIn p
    | _ => s

/-- What a received flit of a class does (R266, R267). -/
def State.flitIn (s : State) (p : Nat) (r : RxFlit) : State :=
  let s := s.pcount C_LNK_FLITS_RX p
  let s := if r.grade = gradeCorrected then s.pcount C_LNK_FEC_CORR p else if r.grade = gradeCrc then s.pcount C_LNK_CRC_FAIL p
    else if r.grade = gradeLost then s.pcount C_LNK_UNCORR p else s
  let s := s.laneWindow p (s.corrLanes p r.fixed)
  let s := s.lkMap p (fun x => { x with rxPos := (x.rxPos + 320) % max 1 (laneCount x.rxMap) })
  let (met, s) := s.errWindow p r.bad
  let s := if r.bad then (if (s.lk p).nak then s else s.sendAck p true)
    else
      let s := s.lkMap p (fun x => { x with lost := none })
      let s := if r.flit.ft = ftDATA then s.dataFlit p r.flit else s
      s.forEach r.flit.words (fun w u => u.wordIn p w)
  if s.lst p ≠ lkACTIVE then s else if met then s.linkDown p else s.laneLimits p

/-- FLIT_RECEIVE: 320 bytes from the lanes of a port, deskewed (R259, R266), as the parts of Table 9-2. -/
def execFlitReceive (p : Nat) (header payload crc par0 par1 par2 : List Nat) (s : State) : Out :=
  act s (if !s.isRunnel p ∨ s.lst p ≠ lkACTIVE then s.smIgnored else s.flitIn p (rxFlit (flitParts header payload crc par0 par1 par2)))

/-! ### Link commands (R276, R293) -/

/-- MCLK in 10 MHz at a level (Table 13-1). -/
def mclk10 (pl : Nat) : Nat := [150, 120, 84, 42].getD pl 42

/-- Banks that hold part of a SPILL partition or of its copy. -/
def State.spillBanks (s : State) : Nat :=
  ((List.range 24).filter (fun b => (List.range 32).any (fun n =>
    s.on (PART_CTL_EN n) && s.get (PART_CTL_USE n) == 1 &&
      (decide (s.partBase n < bankBase (b + 1) ∧ bankBase b < s.partEnd n)
        || (s.mirrorOf n != 0 && decide (s.partBase n + s.mirrorOf n < bankBase (b + 1) ∧ bankBase b < s.partEnd n + s.mirrorOf n)))))).length

/-- Is a port's spill region mirrored? -/
def State.spillMirrored (s : State) (p : Nat) : Bool :=
  match s.partOf (s.spillBase p) with | some n => s.mirrorOf n != 0 | none => false

/-- Twice width × rate of a port at its nominal width and the highest rate, for a link that has not trained. -/
def State.nominalWr2 (s : State) (p : Nat) : Nat := if s.wr2 p = 0 then s.nominal p * 256 else s.wr2 p

/-- Check 4 of Table 9-6 at a level, with MCLK in 10 MHz: F × m + P × (m + 1) over the ports with spill. -/
def State.spillBandOk (s : State) (mclk : Nat) : Bool :=
  let load (p : Nat) : Rat :=
    let f : Rat := (s.nominalWr2 p : Nat) / 16
    let m : Rat := if s.spillMirrored p then 2 else 1
    f * m + f * 296 / 320 * (m + 1)
  decide (((s.fabricPorts.filter (fun p => s.spillUnits p != 0)).map load).sum ≤ (8 / 10 : Rat) * 128 * (mclk : Rat) / 100 * s.spillBanks)

/-- Do the spill units of a port lie in enabled SPILL partitions, clear of every other port's? -/
def State.spillPlaced (s : State) (p : Nat) : Bool :=
  let a := s.spillBase p
  let n := s.spillUnits p
  s.spillOn p
    && s.fabricPorts.all (fun q => q == p || s.spillUnits q == 0 || n == 0 ||
        decide (a + 65536 * n ≤ s.spillBase q ∨ s.spillBase q + 65536 * s.spillUnits q ≤ a))

/-- The first check of Table 9-6 that a port's registers fail, 0 when they pass all. -/
def State.linkFail (s : State) (p rttEst : Nat) : Nat :=
  let c := portC p
  let ports := (List.range 8).filter (fun k => s.portKind (c * 8 + k) == kindRunnel)
  let slots := (ports.map (fun k => s.get (LNK_WINDOW_SLOTS c k))).sum
  let tiles := (ports.flatMap (fun k => [0, 1, 2, 3, 4].map (fun v => s.get (LNK_RXPOOL_TILE c k v)))).sum
  let k := portK p
  let streams := (s.admRecs.filter (fun r => (s.recPort r && r.outPort == p) || ((r.role == 0 || r.role == 2 || r.role == 3) && r.inp == p))).length
  let measured := s.pget LNK_RTT_NS p
  let rtt := if measured = 0 then rttEst else measured
  let t := tRpl (s.replayLimit p) (rtt + clampN 200 1000000 (s.pget LNK_ACK_MARGIN p)) (s.window p) (tFlit kindRunnel (s.nominalWr2 p)) (s.retrainUs p)
  let others := s.enPorts.filter (· ≠ p)
  let floor := floorUs (((p :: others).map s.graceNs).foldl max 0) ((t :: others.map (fun q => s.pget LNK_RPL_MAX_NS q)).foldl max 0)
  let inR (f : Nat → Nat → Fld) (lo hi : Nat) : Bool := decide (lo ≤ s.pget f p ∧ s.pget f p ≤ hi)
  if 1638 < slots ∨ 4608 < tiles then 1
  else if !s.spillPlaced p ∨ s.get (LNK_RXPOOL_SPILL c k 3) ≠ 0 ∨ s.get (LNK_RXPOOL_SPILL c k 4) ≠ 0 then 2
  else if s.pool p 3 < 16 * streams ∨ [0, 1, 2, 3, 4].any (fun v => decide (s.pool p v < 65)) then 3
  else if s.spillUnits p ≠ 0 ∧ !s.spillBandOk (mclk10 (s.get PW_STAT_PL_CUR)) then 4
  else if s.ctos.any (fun x => decide (x.2 < floor)) then 5
  else if !(inR LNK_TLOCK_US 1 10000 && inR LNK_ERRCRIT_WIN_LOG2 10 30 && inR LNK_ACK_MARGIN 200 1000000 && inR LNK_ACK_REPLAY_LIMIT 1 15
      && inR LNK_TMO_RETRAIN_US 10 10000 && inR LNK_TMO_TRAIN_MS 1 500 && inR LNK_GRACE_MS 0 100 && inR LNK_ERRCRIT_THRESH 1 65535
      && inR LNK_RECAL_TMO_MS 1 100 && inR LNK_LANECRIT_WIN_LOG2 10 30 && inR LNK_WINDOW_SLOTS 0 1638 && inR LNK_WINDOW_MAXOUT 0 32767) then 6
  else 0

/-- Writes the registers of a LINK_SET body: LD_SEL, AUTO_NARROW and SPARE of CTL; GRACE, TLOCK, ERRCRIT, ACK, TMO,
RECAL, LANECRIT and INT_EN; then, if present, WINDOW, SPILL, SPILL_BASE and the pools. -/
def State.linkRegs (s : State) (p ctl : Nat) (crit : List Nat) (mem : Option (List Nat)) : State :=
  let c := portC p
  let k := portK p
  let offs := [R_LNK_GRACE c k, R_LNK_TLOCK c k, R_LNK_ERRCRIT c k, R_LNK_ACK c k, R_LNK_TMO c k, R_LNK_RECAL c k, R_LNK_LANECRIT c k, R_LNK_INT_EN c k]
  let moffs := [R_LNK_WINDOW c k, R_LNK_SPILL c k, R_LNK_SPILL_BASE c k] ++ [0, 1, 2, 3, 4].map (fun v => R_LNK_RXPOOL c k v)
  let s := (s.put (LNK_CTL_LD_SEL c k) (ctl / 4)).put (LNK_CTL_AUTO_NARROW c k) (ctl / 16)
  let s := s.forEach (offs.zip crit) (fun e u => u.wr e.1 e.2)
  match mem with
  | none => s
  | some l => s.forEach ((moffs.zip l)) (fun e u => u.wr e.1 e.2)

/-- LINK_SET (R276). Pools, window, spill and SPARE change only while the port is DISABLED. -/
def State.linkSet (s : State) (mb p ctl : Nat) (crit : List Nat) (mem : Option (List Nat)) (rttEst : Nat) (en : Bool) : State :=
  if !s.isRunnel p then s.refuse mb 0 0
  else if s.lst p ≠ lkDISABLED ∧ (mem.isSome ∨ s.pon LNK_CTL_SPARE p ≠ bit ctl 5) then s.busy mb 0
  else
    let u := s.linkRegs p ctl crit mem
    let u := if s.lst p = lkDISABLED then u.setSpare p (ctl / 32) else u
    let r := u.linkFail p rttEst
    if r ≠ 0 then s.refuse mb r 0
    else
      let u := u.showRpl p false
      let u := if en ∧ !u.pon LNK_CTL_EN p then (u.pput LNK_CTL_EN p 1).linkEnable p else u
      u.ok mb []

def execLinkSet (mb p ctl : Nat) (crit : List Nat) (mem : Option (List Nat)) (rttEst : Nat) (en : Bool) (s : State) : Out :=
  act s (s.runCmd mb 0x0220 (fun _ s => s.linkSet mb p ctl crit mem rttEst en))

/-- LINK_RETRAIN (R293). -/
def execLinkRetrain (mb p : Nat) (s : State) : Out :=
  act s (s.runCmd mb 0x0221 (fun _ s => if !s.isRunnel p then s.refuse mb 0 0 else (s.retrainWrite p).okQuery mb []))

/-- LINK_WIDTH (R287): answers at the outcome of the change. -/
def State.linkWidth (s : State) (mb p w : Nat) : State :=
  if !s.isRunnel p then s.refuse mb 0 0
  else if !(s.widthsOf p).contains w then s.refuse mb 1 0
  else if s.lst p ≠ lkACTIVE ∨ (s.lk p).chg.isSome then s.busy mb 0
  else
    let x := s.lk p
    let good := s.pget LNK_LANES_OK p
    let from_ := if w ≤ laneCount x.txMap then laneMask ((laneList x.txMap).filter (fun l => bit good l)) else laneMask ((laneList good).filter (fun l => decide (l < s.lanesOf p)))
    if laneCount from_ < w then s.refuse mb 2 0
    else if lowLanes from_ w = x.txMap then s.okQuery mb []
    else (s.askChange p 0 0 (lowLanes from_ w)).park mb (.linkWidth p)

def execLinkWidth (mb p w : Nat) (s : State) : Out := act s (s.runCmd mb 0x0222 (fun _ s => s.linkWidth mb p w))

/-- LINK_RECAL (R290). -/
def execLinkRecal (mb p l : Nat) (s : State) : Out :=
  act s (s.runCmd mb 0x0223 (fun _ s =>
    if !s.isRunnel p ∨ s.lanesOf p ≤ l then s.refuse mb 0 0
    else if !s.canRecal p l then s.busy mb 0
    else (s.recalStart p l).okQuery mb []))

/-- LINK_LANE_RETURN (R289). -/
def execLinkLaneReturn (mb p l : Nat) (s : State) : Out :=
  act s (s.runCmd mb 0x0224 (fun _ s =>
    if !s.isRunnel p ∨ s.lanesOf p ≤ l then s.refuse mb 0 0
    else (s.pput LNK_LANES_FAILED p (laneSub (s.pget LNK_LANES_FAILED p) (2 ^ l))).okQuery mb []))

/-- LINK_QUERY (R293): STAT, PARTNER, the nonces, RTT, RPL_MAX, LANES and the 22 counters. -/
def execLinkQuery (mb p : Nat) (s : State) : Out :=
  act s (s.runCmd mb 0x0225 (fun _ s =>
    if !s.isRunnel p then s.refuse mb 0 0
    else
      let c := portC p
      let k := portK p
      let regs := [R_LNK_STAT c k, R_LNK_PARTNER c k, R_LNK_NONCE c k, R_LNK_PNONCE c k, R_LNK_RTT c k, R_LNK_RPL_MAX c k, R_LNK_LANES c k]
      let ctrs := (List.range 22).flatMap (fun i => let v := s.cnt (C_LNK_FLITS_TX c k + 8 * i); [v % 2 ^ 32, v / 2 ^ 32])
      s.okQuery mb (regs.map s.rd ++ ctrs)))

end Sys2Proof.Machine
end

