-- ==== Sys2Proof/Machine/Pcie.lean ====
section
/-! DEFINITION. PCI Express ports: partitions and their virtual switch, steering of received TLPs, the tag pool and
completions, barrier messages, the reservation alias, errors, containment and resets (R92 to R95, R294 to R312,
R318, R319, R385). -/

namespace Sys2Proof.Machine

/-! ### Ports, partitions and identifiers (R299, R300, R302) -/

/-- States of LSTAT (Table 10-8). -/
def lsDISABLED : Nat := 0
def lsTRAINING : Nat := 1
def lsACTIVE : Nat := 2
def lsCONTAINED : Nat := 3

def State.lstat (s : State) (p : Nat) : Nat := s.pget PCFG_LSTAT_STATE p
def State.isHost (s : State) (p : Nat) : Bool := decide (p < 128) && s.portKind p == kindHost
def State.isDown (s : State) (p : Nat) : Bool := decide (p < 128) && s.portKind p == kindDown

/-- A TLP type beside those of assumption log 16: one whose ECRC check failed. -/
def tyEcrc : Nat := 12

/-- The partition whose host port `p` is: HOST_A or HOST_B of an enabled partition names its view. -/
def State.hostPart (s : State) (p : Nat) : Option Nat :=
  if s.isHost p then ((List.range 29).map (· + 1)).find? (fun h => s.portServes p h) else none

/-! ### The virtual switch (R301) -/

/-- Shadow register numbers (assumption log 20). -/
def rgCommand : Nat := 1
def rgBus : Nat := 2
def rgBridge : Nat := 4
def rgSlot : Nat := 5
def rgAcs : Nat := 6
def rgAer : Nat := 7
def rgDpc : Nat := 8
/-- BAR 0 and BAR 2 of the management function, low dword first. -/
def rgBar0 : Nat := 9
def rgBar2 : Nat := 11
/-- Registers at and above this number are served by the Wellhead. -/
def rgWellhead : Nat := 0x800

/-- Secondary bus of a virtual downstream port. -/
def State.secBus (s : State) (v : VPort) : Nat := bits (s.cfgReg v.hpart v.dev rgBus) 8 8

/-- An ACS control bit of a virtual port: 2 P2P Request Redirect, 6 Direct Translated P2P. -/
def State.acsBit (s : State) (h p b : Nat) : Bool :=
  match s.vportOf h p with | some v => bit (s.cfgReg h v.dev rgAcs) b | none => false

/-! ### Errors (R309, R310) -/

/-- AER errors as the shadow numbers them. -/
def aeMalformed : Nat := 1
def aeEcrc : Nat := 2
def aePoisoned : Nat := 3
def aeUnexpected : Nat := 4
def aeUnsupported : Nat := 5
def aeTimeout : Nat := 6

/-- Logs an error in the virtual ports of port `p` for the partitions `hs`. -/
def State.aerLog (s : State) (p : Nat) (hs : List Nat) (err : Nat) : State :=
  s.forEach hs (fun h u => if u.pc.aer.contains (h, p, err) then u else { u with pc := { u.pc with aer := u.pc.aer ++ [(h, p, err)] } })

/-- The partitions that see an error of the whole link of port `p`. -/
def State.linkParts (s : State) (p : Nat) : List Nat := if s.isHost p then (s.hostPart p).toList else s.boundParts p

/-- Sends a completion without data, of a PCI Express status, for a received request. -/
def State.cplTo (s : State) (p : Nat) (x : Tlp) (code : Nat) : State :=
  if x.cls = 1 then s.portTlp p (min 5 (s.tcMap p x.ptc)) (cplTlp x code false 0) [] else s

/-- An Unsupported Request (Table 10-4): a non-posted one is answered, a posted one discarded. -/
def State.urTlp (s : State) (p : Nat) (hs : List Nat) (x : Tlp) : State :=
  (((s.pcount C_PCFG_UR_RX p).aerLog p hs aeUnsupported).cplTo p x 1)

/-- The faulty TLPs that Table 10-4 discards on receipt. -/
def State.faulty (s : State) (p : Nat) (x : Tlp) : Option State :=
  if x.typ = tyBad ∨ x.hlen < 3 ∨ 15 < x.hlen then some ((s.pcount C_PCFG_MALFORMED p).aerLog p (s.linkParts p) aeMalformed)
  else if x.typ = tyEcrc then some (((s.pcount C_PCFG_ECRC_FAIL p).aerLog p (s.linkParts p) aeEcrc).cplTo p x 1)
  else none

/-! ### Memory requests (R88, R89, R93, R169, R303, R304, R342) -/

def isMem (x : Tlp) : Bool := x.typ == tyMRd || x.typ == tyMWr || x.typ == tyDMWr || x.typ == tyAtomic

/-- Dwords that a memory TLP covers. -/
def memDws (x : Tlp) (data : List Word) : Nat := if x.typ = tyMRd then x.bytes / 4 else data.length

/-- Size of an AtomicOp's operand from its first data dword (assumption log 16). -/
def tlpAtomic (data : List Word) : Nat := if bit ((data.getD 0 0).toNat) 4 then 8 else 4

/-- Offset and number of the bytes a memory TLP names. -/
def memSpan (x : Tlp) (data : List Word) : Nat × Nat :=
  if x.typ = tyAtomic then (0, tlpAtomic data) else tlpSpan x (memDws x data)

def memPerm (x : Tlp) : Perm := if x.typ = tyMRd then .r else if x.typ = tyAtomic then .atomic else .w

/-- The part of a memory TLP that covers `n` bytes from address `a`. -/
def tlpPart (x : Tlp) (data : List Word) (a n : Nat) : Tlp × List Word :=
  if x.typ = tyAtomic then (x, data)
  else
    let total := memDws x data
    let d0 := a / 4 - x.addr / 4
    let nd := (a + n + 3) / 4 - a / 4
    let last := decide (total ≤ d0 + nd)
    let fbe := if d0 = 0 then x.fbe else if nd = 1 ∧ last then x.lbe else 15
    let lbe := if nd ≤ 1 then 0 else if last then x.lbe else 15
    ({ x with addr := x.addr + 4 * d0, fbe := fbe, lbe := lbe, bytes := if x.typ = tyMRd then 4 * nd else x.bytes }, (data.drop d0).take nd)

/-- Who received a TLP: the port, its partition, the partitions that see its errors, PRIV, the host port EID a request
without a window goes to, and whether ordinary windows are allowed. -/
structure Rcv where
  port : Nat
  part : Nat
  errs : List Nat
  priv : Bool
  up   : Option Nat
  win  : Bool
  deriving DecidableEq, Repr

def Rcv.tile (r : Rcv) : Nat := ptTile (portC r.port)

/-- BASIN of the packets that a PT NI creates from a TLP (R429). -/
def State.tlpBasin (s : State) (r : Rcv) (x : Tlp) : Nat :=
  if s.isHost r.port then (s.basinOf r.part x.rid x.pasid).getD 0 else 0

/-- A received TLP as the packet the NI makes of it (R93). -/
def State.tlpPkt (s : State) (r : Rcv) (x : Tlp) (data : List Word) (dest : Nat) : Pkt :=
  let tc := min 5 (s.tcMap r.port x.ptc)
  let y : Tlp := { x with part := r.part }
  { pkt0 kTLP tc (vnOf x.cls tc) data.length dest (s.viewEid r.port r.part) data with
    addr := (if isMem x then x.addr else 0), priv := b2n r.priv, pasid := x.pasid.getD 0, basin := s.tlpBasin r x, tlp := some y }

/-- Sends one part of a memory TLP: stream window, ordinary window, upstream, or an Unsupported Request. -/
def State.memPart (s : State) (r : Rcv) (id : Nat) (x : Tlp) (data : List Word) (pos : Nat) (g : Option (Nat × Nat)) : State :=
  let t := r.tile
  let c := portC r.port
  let k := portK r.port
  match (if x.cls = 0 then s.streamMatch c k x.addr else none) with
  | some w =>
    let b := strBase t w
    let (seq, s) := s.nextSeq b
    let a := s.rd64 (R_STR_XLAT_LO b) + (x.addr - s.rd64 b)
    let p := s.tlpPkt r { x with addr := a } data (s.get (STR_DEST_DEST_EID b))
    s.streamPkt c b { p with tc := 7, vn := 3, tag := s.get (STR_STREAM_STREAM b), seq := seq } g
  | none =>
    if r.win ∧ (s.winLookup t x.addr (some k)).isSome then
      s.sendByWindow t id false (s.tlpPkt r x data 0) pos (some k) g
    else match r.up with
    | some dest => s.sendPart t id (s.tlpPkt r x data dest) false pos g
    | none =>
      let s := if x.cls = 1 then s.accFail id .unsupported else s.count (C_NI_NOWIN (niBase t))
      ((s.pcount C_PCFG_UR_RX r.port).aerLog r.port r.errs aeUnsupported).guardRetire g

/-- Opens the access of a non-posted TLP; a posted one has no entry and no result. -/
def State.tlpOpen (s : State) (r : Rcv) (x : Tlp) (data : List Word) : Nat × State :=
  if x.cls = 1 then
    let n := if x.typ = tyMRd then memDws x data else if x.typ = tyAtomic then tlpAtomic data / 4 else 0
    s.accOpen r.tile kTLP (List.replicate n 0) (.tlp r.port x)
  else (s.req.nextId, s)

/-- Who a guard sees for a TLP. -/
def State.tlpWho (s : State) (r : Rcv) (x : Tlp) : GuardWho := ⟨kTLP, r.priv, r.port, s.tlpBasin r x, x.rid, s.node⟩

/-- The guard of a memory TLP of at least one byte, at the TLP's own address: the parts that pass, all of them or not, and the
state after (Tables 12-1 and 12-3). -/
def State.tlpGuard (s : State) (r : Rcv) (x : Tlp) (data : List Word) (id : Nat) : List (Nat × Nat) × Bool × State :=
  let (off, len) := memSpan x data
  let (ok, s) := s.guardCheck (portC r.port) (memPerm x) (x.typ == tyAtomic) (s.tlpWho r x) (pageParts (x.addr + off) len)
  let bad := decide ((ok.map (·.2)).sum < len)
  (ok, !bad, s.doIf bad (fun s => if x.cls = 1 then s.accFail id (if x.typ = tyMRd then .poisoned else .guardFault)
    else (s.pcount C_PCFG_UR_RX r.port).aerLog r.port r.errs aeUnsupported))

/-- A memory TLP: guard on its own address, division into parts, and `send` for each that passes. `seen` is the TLP as the
fabric sees it, with the host-visible Requester ID (Table 12-3). -/
def State.splitTlp (s : State) (r : Rcv) (x seen : Tlp) (data : List Word)
    (send : State → Nat → Tlp → List Word → Nat → Option (Nat × Nat) → State) : State :=
  let n := portC r.port
  let (id, s) := s.tlpOpen r x data
  let s := if (memSpan x data).2 = 0 then send s id seen data 0 none
    else
      let (ok, _, s) := s.tlpGuard r x data id
      s.forEach ok (fun q u =>
        let y := tlpPart seen data q.1 q.2
        let g := u.guardTag n
        send (u.guardOpen g.1 g.2 true) id y.1 y.2 ((y.1.addr - seen.addr) / 4) (some g))
  s.accSettle r.tile

/-- A memory TLP by the windows and upstream. -/
def State.memTlp (s : State) (r : Rcv) (x seen : Tlp) (data : List Word) : State :=
  s.splitTlp r x seen data (fun u id y d pos g => u.memPart r id y d pos g)

/-! ### The reservation alias (R248, R308) -/

def State.rsvBase (s : State) (p : Nat) : Nat := s.rd64 (R_PCFG_RSV_BASE_LO (portC p) (portK p))

/-- Is an address in the reservation alias of a port? A SIZE outside 12 to 48 makes none. -/
def State.inAlias (s : State) (p a : Nat) : Bool :=
  let sz := s.pget PCFG_RSV_CTL_SIZE p
  s.pon PCFG_RSV_CTL_EN p && decide (12 ≤ sz ∧ sz ≤ 48) && decide (s.rsvBase p ≤ a ∧ a < s.rsvBase p + 2 ^ sz)

/-- A pair's reservation context takes a granule; with all 256 of the NI in use the least recently used one goes. -/
def State.takeCtx (s : State) (t h pasid : Nat) (held : Option (Nat × Nat)) : State :=
  let mine := s.pc.ctx.filter (fun c => c.tile == t)
  let known := mine.any (fun c => c.hpart == h && c.pasid == pasid)
  let s := if known ∨ mine.length < 256 then s
    else { s with pc := { s.pc with ctx := dropFirst (fun (c : ResCtx) => c.tile == t) s.pc.ctx } }
  s.setCtx t h pasid held

/-- A request in the alias: a MemRd becomes a RESERVE_READ, a DMWr a COND_WRITE. -/
def State.aliasTlp (s : State) (r : Rcv) (x : Tlp) (data : List Word) : State :=
  if x.typ ≠ tyMRd ∧ x.typ ≠ tyDMWr then s.urTlp r.port r.errs x
  else
    let t := r.tile
    let n := portC r.port
    let k := portK r.port
    let a := x.addr - s.rsvBase r.port
    let pasid := x.pasid.getD 0
    let key := (s.winLookup t a (some k)).map (fun w => s.granuleOf w.dest w.addr)
    let dws := memDws x data
    let kind := if x.typ = tyMRd then kRESERVE else kCOND
    let tc := min 5 (s.tcMap r.port x.ptc)
    let pk : Pkt := { pkt0 kind tc 0 dws 0 (s.viewEid r.port r.part) data with
      addr := a, priv := b2n r.priv, pasid := pasid, basin := s.tlpBasin r x }
    let (id, s) := s.tlpOpen r x data
    let s := if x.typ = tyDMWr ∧ s.ctxHeld t r.part pasid ≠ key then (s.setCtx t r.part pasid none).accFail id .reservationLost
      else
        let (ok, s) := s.guardCheck n (memPerm x) true (s.tlpWho r x) (pageParts x.addr (4 * dws))
        let s := if x.typ = tyDMWr then s.setCtx t r.part pasid none
          else if ok.isEmpty then s else s.takeCtx t r.part pasid key
        if ok.isEmpty then s.accFail id .guardFault
        else
          let g := s.guardTag n
          (s.guardOpen g.1 g.2 true).sendByWindow t id false pk 0 (some k) (some g)
    s.accSettle t

/-! ### Completions and the tag pool (R94, R305, R306) -/

/-- TAGS.FREE of a port. -/
def State.showTags (s : State) (p : Nat) : State :=
  s.pput PCFG_TAGS_FREE p (s.pget PCFG_TAGS_MAX p - (s.pc.tags.filter (fun o => o.port == p)).length)

/-- Requester ID under which a request left a port: its own on a host port for a TLP, else PCFG.RID. -/
def State.outRid (s : State) (o : OutTag) : Nat :=
  match o.req.tlp with
  | some x => if s.isHost o.port ∧ o.req.kind = kTLP then x.rid else s.pget PCFG_RID_RID o.port
  | none => s.pget PCFG_RID_RID o.port

def State.dropTag (s : State) (o : OutTag) : State :=
  ({ s with pc := { s.pc with tags := dropFirst (fun (x : OutTag) => x.port == o.port && x.tag == o.tag && x.req == o.req) s.pc.tags } }).showTags o.port

/-- The one response to a native request, from the completions of the device. -/
def nativeReply (o : OutTag) (code : Nat) (ep : Bool) (data : List Word) : Pkt :=
  let q : Pkt := { o.req with tlp := none }
  if code ≠ 0 then mkCpl q (if code = 1 then .unsupported else .targetAbort)
  else if o.wnp then mkCpl q .ok
  else mkCplD q (if ep ∨ o.req.status = 4 then .poisoned else .ok)
    (if o.req.kind = kATOMIC then [data.getD 0 0, data.getD 1 0] else data.take o.req.len)

/-- A completion TLP from the link. -/
def State.cplIn (s : State) (p : Nat) (x : Tlp) (data : List Word) : State :=
  let t := ptTile (portC p)
  match s.pc.tags.find? (fun o => o.port == p && o.tag == x.tag && s.outRid o == x.rid) with
  | none => (s.pcount C_PCFG_UNEXP_CPL p).aerLog p (s.linkParts p) aeUnexpected
  | some o =>
    let last := x.cplst != 0 || decide (o.left ≤ data.length)
    let keep (s : State) (q : Pkt) : State :=
      let o' : OutTag := { o with left := o.left - data.length, req := q }
      { s with pc := { s.pc with tags := s.pc.tags.map (fun y => if y == o then o' else y) } }
    if o.req.kind = kTLP then
      let s := if last then s.dropTag o else keep s o.req
      let y : Tlp := match o.req.tlp with | some z => { x with cls := 2, part := z.part, rid := z.rid, tag := z.tag } | none => x
      s.inject t { pkt0 kTLP o.req.tc 1 data.length o.req.src o.req.dest data with tag := o.req.tag, gen := o.req.gen, tlp := some y } none
    else
      let got := o.req.data ++ data
      let q : Pkt := { o.req with data := (if o.req.kind = kREAD then got else o.req.data), status := if x.ep then 4 else o.req.status }
      if last then (s.dropTag o).inject t (nativeReply o x.cplst x.ep (if o.req.kind = kREAD then got else data)) none
      else keep s q

/-- PCTO_EXPIRY (R305): the device has not completed the request of a tag. -/
def execPctoExpiry (p tag : Nat) (s : State) : Out :=
  act s (match s.pc.tags.find? (fun o => o.port == p && o.tag == tag) with
    | none => s.smIgnored
    | some o =>
      let s := (((s.dropTag o).pcount C_PCFG_EGR_CTO p).aerLog p (s.linkParts p) aeTimeout)
      s.respondAt (ptTile (portC p)) (some (mkCpl o.req .targetAbort)))

/-! ### Leaving and entering service (R302, R305, R311, R319) -/

/-- Retires the reorder entries of a port's own requests that satisfy a test; no completion is sent (R97). Where the link stays
up, an entry whose response has come is left to it (R412). -/
def State.retireTlps (s : State) (p : Nat) (up : Bool) (f : Tlp → Bool) : State :=
  let ids := (s.req.accs.filter (fun a => match a.taker with | .tlp q x => q == p && f x | _ => false)).map (·.id)
  let mine (o : Org) : Bool := match o with | .native id _ => ids.contains id | .mirror id _ => ids.contains id | _ => false
  let es := s.req.ro.filter (fun e => e.2.st == 1 && mine e.2.org && !(up && s.answered (e.1 / 65536) (e.1 % 65536) e.2))
  let ws := s.req.roWait.filter (fun w => mine w.org)
  let s := { s with
    req := { s.req with
      accs := s.req.accs.filter (fun a => !ids.contains a.id)
      roWait := s.req.roWait.filter (fun w => !mine w.org) }
    pc := { s.pc with wait := s.pc.wait.filter (fun w => !(w.port == p && w.tlp.cls == 1 && f w.tlp)) } }
  let s := s.forEach ws (fun w u => u.guardRetire w.guard)
  s.forEach es (fun e u => u.roRetire (e.1 / 65536) (e.1 % 65536))

/-- Is a TLP that waits in ingress storage accepted, so that nothing recalls it (R251, R252)? -/
def WaitTlp.taken (w : WaitTlp) : Bool := w.tlp.cls == 0 && !w.late

/-- What a closed PCI Express port does with what it holds: requests outstanding at the device and queued packets
(R311). Posted TLPs that it has accepted stay (R252). -/
def State.dropPort (s : State) (p : Nat) : State :=
  let t := ptTile (portC p)
  let out := s.pc.tags.filter (fun o => o.port == p)
  let s := ({ s with pc := { s.pc with tags := s.pc.tags.filter (fun o => o.port != p) } }).showTags p
  let s := s.forEach out (fun o u => u.respondAt t (some (mkCpl o.req .pathLost)))
  let (qs, s) := s.takeQueues p [0, 1, 2, 3, 4, 5, 6, 7]
  let s := s.forEach qs (fun k u =>
    if pktClass k = 1 then u.respondAt t (some (mkCpl k .pathLost))
    else if pktClass k = 0 then u.pcount C_PCFG_DPC_DISCARD p else u)
  let s := { s with pc := { s.pc with wait := s.pc.wait.filter (fun w => w.port != p || w.taken) } }
  s.retireTlps p false (fun _ => true)

/-- Sets LSTAT; a link that is not up has no width or rate. -/
def State.setLstat (s : State) (p st : Nat) : State :=
  let old := s.wr2 p
  let s := s.pput PCFG_LSTAT_STATE p st
  if st = lsACTIVE then s
  else (((s.pput PCFG_LSTAT_WIDTH p 0).pput PCFG_LSTAT_RATE p 0).pput PCFG_LSTAT_FLIT p 0).rateChanged p old

/-- Containment of a downstream port (R311): causes of class 11. -/
def State.contain (s : State) (p cause : Nat) : State :=
  if s.lstat p = lsCONTAINED then s
  else
    let s := ((s.setLstat p lsCONTAINED).dropPort p)
    let s := s.forEach (s.boundParts p) (fun h u =>
      if u.pc.dpc.contains (p, h) then u else { u with pc := { u.pc with dpc := u.pc.dpc ++ [(p, h)] } })
    s.fault 11 p cause

/-- The port leaves containment and retrains; while its slot is in FAULT it stays contained (R311, R314). -/
def State.dpcRelease (s : State) (p : Nat) : State :=
  if s.lstat p = lsCONTAINED ∧ !s.slotFaulty p then s.setLstat p (if s.pon PCFG_EN p then lsTRAINING else lsDISABLED) else s

/-- With no DPC Trigger Status left the port leaves containment. -/
def State.dpcDone (s : State) (p : Nat) : State := if s.pc.dpc.any (fun e => e.1 == p) then s else s.dpcRelease p

/-- A bound virtual port clears its DPC Trigger Status. -/
def State.clearDpc (s : State) (p h : Nat) : State :=
  ({ s with pc := { s.pc with dpc := s.pc.dpc.filter (fun e => e != (p, h)) } } : State).dpcDone p

/-- DPC_TRIGGER (R311): 1 surprise down, 2 a fatal error, 3 a non-fatal one. -/
def execDpcTrigger (p cause : Nat) (s : State) : Out :=
  act s (if !s.isDown p ∨ s.lstat p ≠ lsACTIVE ∨ cause = 0 ∨ 3 < cause then s.smIgnored
    else if cause = 3 ∧ !s.pon PCFG_DPC_NONFATAL p then s.smIgnored
    else s.contain p cause)

/-- The tags a link offers (R305): by mode, and limited to what the device enables. -/
def tagPool (flit ten : Bool) (en : Nat) : Nat := min (if flit then 4096 else if ten then 768 else 256) en

/-- Data credits, of 16 bytes, of `n` dwords. -/
def dataCred (n : Nat) : Nat := ceilDiv n 4

/-- A TLP has left ingress storage: its credit goes back to the partner (R297). -/
def State.fcBack (s : State) (p cls n : Nat) : State := if s.lstat p = lsACTIVE then s.send (.fc p cls 1 (dataCred n)) else s

/-- The credit that a port advertises when its link comes up, from what the cluster's ingress storage has for it: free values
(R297, assumption log 111). -/
def State.fcInit (s : State) (p : Nat) : State :=
  s.forEach [0, 1, 2] (fun cls u =>
    let (h, u) := u.free 12
    let (d, u) := u.free 16
    u.send (.fc p cls h d))

/-- A PCI Express link reaches DL_Active: width, rate, mode, tags; its credit starts anew. -/
def State.linkUp (s : State) (p width rate : Nat) (flit ten : Bool) (en : Nat) : State :=
  let old := s.wr2 p
  let s := ((s.pput PCFG_LSTAT_WIDTH p width).pput PCFG_LSTAT_RATE p rate).pput PCFG_LSTAT_FLIT p (b2n flit)
  let s := { s with pc := { s.pc with credit := s.pc.credit.filter (fun e => e.1 / 8 != p) } }
  ((((s.setLstat p lsACTIVE).pput PCFG_TAGS_MAX p (tagPool flit ten en)).showTags p).rateChanged p old).fcInit p

/-- Does a link of width and rate exist at a port (R294, Table 10-8)? One that carries an admitted stream trains in FLIT mode
(R296). -/
def State.linkFits (s : State) (p width rate : Nat) (flit : Bool) : Bool :=
  (flit || !s.carries p) && decide (1 ≤ width ∧ width ≤ s.lanesOf p) && decide (1 ≤ rate ∧ rate ≤ s.pget PCFG_MAXRATE p) && (flit || decide (rate ≤ 5))
    && [1, 2, 4, 8, 16].contains width

/-- Is any host link of a partition up on this node? -/
def State.hostUp (s : State) (h : Nat) : Bool :=
  (List.range 128).any (fun p => s.isHost p && s.hostPart p == some h && s.lstat p == lsACTIVE)

/-- Where a partition's traffic goes while HOST_A's link is down (R302). -/
def State.showOnB (s : State) (h : Nat) : State :=
  let a := s.get (GLB_HPART_HOST_A_EID h)
  if eidNode a ≠ s.node then s
  else s.put (GLB_HPART_STAT_ON_B h) (b2n (s.lstat (eidPort a) != lsACTIVE && s.on (GLB_HPART_HOST_B_B_EN h)))

/-- Frees a semaphore. -/
def State.freeSem (s : State) (n : Nat) : State := (s.put (SEM_OWN_OWNER n) 0)

/-- Frees the semaphores of one owner (R387). -/
def State.freeSems (s : State) (own : Nat) : State :=
  s.forEach (List.range 32) (fun n u => if u.get (SEM_OWN_OWNER n) = own then u.freeSem n else u)

/-- The link of a host port has gone: its partition's traffic goes to HOST_B, and with no link left its semaphores are freed
(R302, R387). -/
def State.hostGone (s : State) (p : Nat) : State :=
  match s.hostPart p with
  | none => s
  | some h =>
    let s := s.showOnB h
    if s.hostUp h then s else s.freeSems (0x20 + h)

/-- HOST_LINK_DOWN (R302, R387). -/
def execHostLinkDown (p : Nat) (s : State) : Out :=
  act s (if !s.isHost p ∨ s.lstat p ≠ lsACTIVE then s.smIgnored
    else ((s.setLstat p (if s.pon PCFG_EN p then lsTRAINING else lsDISABLED)).dropPort p).hostGone p)

/-- HOST_LINK_UP (R302): the link of a host port reaches DL_Active. -/
def execHostLinkUp (p width rate : Nat) (flit ten : Bool) (en : Nat) (s : State) : Out :=
  act s (if !s.isHost p ∨ s.lstat p ≠ lsTRAINING ∨ !s.linkFits p width rate flit then s.smIgnored
    else
      let s := s.linkUp p width rate flit ten en
      match s.hostPart p with | none => s | some h => s.showOnB h)

/-- A Secondary Bus Reset of the virtual downstream port of partition `h` at port `p` (R319): a hot reset of a WHOLE
port, or a Function Level Reset of the partition's functions. -/
def State.busReset (s : State) (h p : Nat) : State :=
  if !s.shared p then
    let s := s.retireTlps p false (fun _ => true)
    if s.lstat p = lsACTIVE then s.setLstat p lsTRAINING else s
  else
    s.forEach (List.range 256) (fun i u =>
      if u.get (PORT_FNMAP_HPART (portC p) (fnIdx p i)) = h then
        u.retireTlps p true (fun x => x.rid == u.get (PORT_FNMAP_DEV_RID (portC p) (fnIdx p i)))
      else u)

/-- SECONDARY_BUS_RESET: at virtual port `dev` of partition `h`, whose physical port lies on this node. -/
def execSecondaryBusReset (h dev : Nat) (s : State) : Out :=
  act s (match s.pc.vports.find? (fun v => v.hpart == h && v.dev == dev) with
    | none => s.smIgnored
    | some v => if eidNode v.eid = s.node then s.busReset h (eidPort v.eid) else s)

/-! ### Configuration requests (R301) -/

/-- What a configuration request names: a function of the switch, or a function below a virtual port. -/
inductive CfgDev where
  | func (dev : Nat)
  | below (v : VPort)
  | nothing
  deriving DecidableEq, Repr

/-- Finds the target of a configuration request by its bus, device and function. -/
def State.cfgDev (s : State) (h id : Nat) : CfgDev :=
  let bus := id / 256
  let up := s.cfgReg h dvUp rgBus
  if bus ≠ 0 ∧ bus = bits up 8 8 then
    (if s.pc.vports.any (fun v => v.hpart == h && v.dev == id % 256) then .func (id % 256) else .nothing)
  else match s.pc.vports.find? (fun v => v.hpart == h && decide (s.secBus v ≠ 0 ∧ s.secBus v ≤ bus ∧ bus ≤ bits (s.cfgReg h v.dev rgBus) 16 8)) with
  | some v => .below v
  | none => if id % 256 = 0 then .func dvUp else if id % 256 = 1 then .func dvMgmt else .nothing

/-- The physical port of a virtual port, when it lies on this node. -/
def State.vportPort (s : State) (h dev : Nat) : Option Nat :=
  (s.pc.vports.find? (fun v => v.hpart == h && v.dev == dev)).bind (fun v => if eidNode v.eid = s.node then some (eidPort v.eid) else none)

/-- The port whose errors a function of the switch shows: `p` is the host port. -/
def State.aerPort (s : State) (p h dev : Nat) : Option Nat := if dev = dvUp then some p else s.vportPort h dev

/-- Bits of Slot Status, in the upper half of the dword of Slot Control: attention button pressed, presence changed, presence,
and Data Link Layer State Changed (assumption log 20). -/
def ssATTN : Nat := 16
def ssPDC : Nat := 19
def ssPDS : Nat := 22
def ssDLLSC : Nat := 24

/-- Slot Control and Status as a host reads them: the presence bit shows the slot's input. -/
def State.slotWord (s : State) (h dev p : Nat) : Nat :=
  let v := s.cfgReg h dev rgSlot
  if bit v ssPDS ∨ !(s.slotsOf p).any (fun n => s.on (SLOT_STAT_PRSNT n)) then v else v + 2 ^ ssPDS

/-- The value of a shadow register. -/
def State.cfgRead (s : State) (p h dev reg : Nat) : Nat :=
  match s.aerPort p h dev with
  | some q =>
    if reg = rgAer then ((s.pc.aer.filter (fun e => e.1 == h && e.2.1 == q)).map (fun e => 2 ^ e.2.2)).sum
    else if reg = rgDpc then b2n (s.pc.dpc.contains (q, h))
    else if reg = rgSlot ∧ dev ≠ dvUp then s.slotWord h dev q
    else s.cfgReg h dev reg
  | none => s.cfgReg h dev reg

/-- The port of a slot. -/
def State.slotPort (s : State) (n : Nat) : Nat := s.get (SLOT_CFG_PORT n)

/-- States of Table 10-5 that other operations name. -/
def slOFF : Nat := 1
def slUP : Nat := 5

def State.slotTo (s : State) (n st : Nat) : State := s.put (SLOT_STAT_STATE n) st

/-- Is power asked for at a slot (R315): by a control port, by a virtual port, or by the sequencer itself under AUTO_ON
until an attention press clears that? -/
def State.slotWants (s : State) (n : Nat) : Bool :=
  s.on (SLOT_CTL_POWER n) || s.pc.power.any (fun e => e.1 == n) || (s.on (SLOT_CFG_AUTO_ON n) && !s.pc.gone.contains (64 + n))

/-- A slot event reaches the virtual ports of the partitions bound to the slot (Table 10-5, R315). -/
def State.slotTell (s : State) (n b : Nat) : State :=
  let p := s.slotPort n
  s.forEach (s.boundParts p) (fun h u => match u.vportOf h p with
    | some v => let w := u.cfgReg h v.dev rgSlot
      if bit w b then u else u.setCfg h v.dev rgSlot (w + 2 ^ b)
    | none => u)

/-- EN deasserted and PERST asserted. -/
def State.slotDown (s : State) (n : Nat) : State := (s.put (SLOT_STAT_EN_OUT n) 0).put (SLOT_STAT_PERST_OUT n) 1

/-- UP with no power request left: the link is disabled and the slot powers off (Table 10-5). -/
def State.slotOff (s : State) (n : Nat) : State :=
  if s.slotSt n = slUP ∧ !s.slotWants n then
    let p := s.slotPort n
    ((((s.setLstat p lsDISABLED).dropPort p).slotDown n).slotTo n slOFF) else s

/-- A write of a shadow register takes effect (R301, R315, R319). -/
def State.cfgWrite (s : State) (p h dev reg v : Nat) : State :=
  let old := s.cfgReg h dev reg
  match s.aerPort p h dev with
  | none => s.setCfg h dev reg v
  | some q =>
    if reg = rgAer then { s with pc := { s.pc with aer := s.pc.aer.filter (fun e => !(e.1 == h && e.2.1 == q && bit v e.2.2)) } }
    else if dev = dvUp then s.setCfg h dev reg v
    else if reg = rgDpc then (if bit v 0 then s.clearDpc q h else s)
    else if reg = rgBridge then
      let s := s.setCfg h dev reg v
      if bit v 6 ∧ !bit old 6 then s.busReset h q else s
    else if reg = rgSlot then
      -- Slot Status events are cleared by writing 1.
      let kept := (List.range 16).filter (fun b => bit old (16 + b) && !bit v (16 + b))
      let s := s.setCfg h dev reg (v % 2 ^ 16 + (kept.map (fun b => 2 ^ (16 + b))).sum)
      s.forEach (s.slotsOf q) (fun n u =>
        let rest := u.pc.power.filter (fun e => e != (n, h))
        ({ u with pc := { u.pc with power := if bit v 10 then rest else rest ++ [(n, h)] } }).slotOff n)
    else s.setCfg h dev reg v

/-- A configuration TLP on the host port of partition `h`. -/
def State.cfgTlp (s : State) (r : Rcv) (x : Tlp) (data : List Word) : State :=
  match s.cfgDev r.part x.cid with
  | .nothing => s.urTlp r.port r.errs x
  | .below v =>
    let (id, s) := s.accOpen r.tile kTLP (if x.typ = tyCfgRd then [0] else []) (.tlp r.port x)
    (s.sendPart r.tile id (s.tlpPkt r x data v.eid) false 0 none).accSettle r.tile
  | .func dev =>
    if rgWellhead ≤ x.addr ∧ s.whState ≠ whUP then s.cplTo r.port x 2
    else if x.typ = tyCfgRd then
      s.portTlp r.port (min 5 (s.tcMap r.port x.ptc)) (cplTlp x 0 false 1) [BitVec.ofNat 32 (s.cfgRead r.port r.part dev x.addr)]
    else (s.cfgWrite r.port r.part dev x.addr ((data.getD 0 0).toNat)).cplTo r.port x 0

/-! ### Barrier messages and other messages (R307) -/

/-- Is a barrier of a port and partition open? -/
def State.portBarred (s : State) (p h : Nat) : Bool :=
  s.ord.bars.any (fun b => match b.vdm with | some (q, k, _) => q == p && k == h | none => false)

/-- Is a TLP of a port and partition to wait: a barrier of theirs is open, an earlier TLP waits, or a warm reset drains and the
NI accepts no posted packet (R239, R240, R253, R307)? -/
def State.tlpWaits (s : State) (p : Nat) (x : Tlp) : Bool :=
  s.portBarred p x.part || s.pc.wait.any (fun w => w.port == p && w.tlp.part == x.part) || (s.wh.rstBusy && x.cls == 0)

/-- A Vendor-Defined Message of the block: subtype, scope and token in its message word. -/
def State.vdmIn (s : State) (r : Rcv) (x : Tlp) : State :=
  let sub := x.msg % 256
  let scope := bits x.msg 8 2
  if !s.pon PCFG_VDM_EN r.port ∨ sub ≠ 1 ∨ scope = 0 then (s.pcount C_PCFG_VDM_DROP r.port).urTlp r.port r.errs x
  else s.barOpen r.tile scope (some (r.port, r.part, bits x.msg 16 16))

/-- A message that passes through the switch; its guard is GD of the cluster. -/
def State.msgTo (s : State) (r : Rcv) (x : Tlp) (data : List Word) (dests : List Nat) : State :=
  let n := portC r.port
  let (ok, s) := s.guardMsg n (s.tlpWho r x) 0
  if !ok then s
  else s.forEach dests (fun d u =>
    let g := u.guardTag n
    (u.guardOpen g.1 g.2 true).inject r.tile (u.tlpPkt r x data d) (some g))

/-- Where a message of the host goes: to the port below which its target ID lies, to every virtual port for a
broadcast (target ID 0xFFFF), or no further than the switch. -/
def State.hostMsg (s : State) (r : Rcv) (x : Tlp) (data : List Word) : State :=
  let vs := s.pc.vports.filter (fun v => v.hpart == r.part)
  if x.cid = 0xFFFF then s.msgTo r x data (vs.map (·.eid))
  else match s.cfgDev r.part x.cid with
    | .below v => s.msgTo r x data [v.eid]
    | _ => s

/-! ### Host ports (R303, R385) -/

/-- The address a BAR of the management function holds, and whether memory space is enabled. -/
def State.bar (s : State) (h reg : Nat) : Nat := s.cfgReg h dvMgmt reg / 16 * 16 + s.cfgReg h dvMgmt (reg + 1) * 2 ^ 32
def State.barOn (s : State) (h : Nat) : Bool := bit (s.cfgReg h dvMgmt rgCommand) 1

/-- A memory TLP to BAR 0 goes to CX, after its guard, and CX performs it on the Port A input (R338, R385). -/
def State.portATlp (s : State) (r : Rcv) (x : Tlp) (data : List Word) : State :=
  let n := memDws x data
  let whole := if n = 1 then x.fbe == 15 else x.fbe == 15 && x.lbe == 15
  if x.typ = tyAtomic ∨ x.addr % 4 ≠ 0 ∨ n = 0 ∨ 16 < n ∨ !whole then s.urTlp r.port r.errs x
  else
    let bar0 := s.bar r.part rgBar0
    s.splitTlp r x x data (fun u id y d pos g =>
      u.sendPart r.tile id (u.tlpPkt r { y with addr := y.addr - bar0 } d (tileEid u.node cxTile)) false pos g)

/-- A write TLP to BAR 2, the doorbell aperture, after its guard. Where every part passes it is one write; else each part that
passes is a write of its size. A deferrable one is answered: an accepted one with Successful Completion, any other with
Unsupported Request (R324, assumption log 107). -/
def State.bellTlp (s : State) (r : Rcv) (x : Tlp) (data : List Word) : State :=
  let bar2 := s.bar r.part rgBar2
  let n := portC r.port
  let (ok, whole, s) := s.tlpGuard r { x with cls := 0 } data 0
  let g := s.guardTag n
  let ws := if whole then [(x, data)] else ok.map (fun q => tlpPart x data q.1 q.2)
  let (all, s) := ws.foldl (fun (acc : Bool × State) w =>
    -- A write without every byte enable has no size that Table 11-2 lists.
    let full := w.1.fbe == 15 && (decide (w.2.length ≤ 1) || w.1.lbe == 15)
    let (done, u) := acc.2.bellWrite g.1 g.2 r.port r.part x.rid x.pasid x.ptc (w.1.addr - bar2) (if full then w.2 else [])
    (acc.1 && done, u)) (whole, s)
  s.cplTo r.port x (if all then 0 else 1)

/-- A TLP on the host port of partition `r.part` (Table 10-2). -/
def State.hostSteer (s : State) (r : Rcv) (x : Tlp) (data : List Word) : State :=
  if x.typ = tyCfgRd ∨ x.typ = tyCfgWr then s.cfgTlp r x data
  else if x.typ = tyVdm then s.vdmIn r x
  else if x.typ = tyMsg then s.hostMsg r x data
  else if isMem x then
    let bar0 := s.bar r.part rgBar0
    let bar2 := s.bar r.part rgBar2
    if s.barOn r.part ∧ bar0 ≤ x.addr ∧ x.addr < bar0 + 2 ^ 24 then s.portATlp r x data
    else if s.barOn r.part ∧ bar2 ≤ x.addr ∧ x.addr < bar2 + 2 ^ 22 then
      (if x.typ = tyMWr ∨ x.typ = tyDMWr then s.bellTlp r x data else s.urTlp r.port r.errs x)
    else if s.inAlias r.port x.addr then s.aliasTlp r x data
    else s.memTlp r x x data
  else s.urTlp r.port r.errs x

/-- What a host port knows of itself. -/
def State.hostRcv (s : State) (p h : Nat) : Rcv :=
  { port := p, part := h, errs := [h], priv := s.on (GLB_HPART_CTL_PRIV h), up := none, win := true }

/-! ### Downstream ports (R300, R304) -/

/-- The partition of a device's TLP, its host-visible Requester ID, and whether its entry allows windows. Nothing
where the function map has no entry for it. -/
def State.devFn (s : State) (p rid : Nat) : Option (Nat × Nat × Bool) :=
  if !s.shared p then some (s.pget PCFG_DEF_HPART p, rid, true)
  else
    let c := portC p
    match (List.range 256).find? (fun i => s.get (PORT_FNMAP_DEV_RID c (fnIdx p i)) == rid && s.get (PORT_FNMAP_HPART c (fnIdx p i)) != 0) with
    | none => none
    | some i =>
      let h := s.get (PORT_FNMAP_HPART c (fnIdx p i))
      let bus := match s.vportOf h p with | some v => s.secBus v | none => 0
      some (h, bus * 256 + s.get (PORT_FNMAP_DEVFN c (fnIdx p i)), s.on (PORT_FNMAP_WIN_EN c (fnIdx p i)))

/-- Is a request already translated? The address type is bit 3 of the attributes (assumption log 16). -/
def translated (x : Tlp) : Bool := bit x.attr 3

/-- What a downstream port knows of a TLP of partition `h`. -/
def State.downRcv (s : State) (p h : Nat) (win : Bool) (x : Tlp) : Rcv :=
  if h = 0 then { port := p, part := 0, errs := [], priv := false, up := none, win := true }
  else
    { port := p, part := h, errs := [h], priv := false, up := some (s.hostEid h)
      win := win && !s.acsBit h p 2 && (!translated x || s.acsBit h p 6) }

/-- An INTx message of a device as the virtual port of number `dev` forwards it: the line moves on by the port's device number
(R294, assumption log 20). -/
def intxSwizzle (dev : Nat) (x : Tlp) : Tlp :=
  let c := x.msg % 256
  if c < 0x20 ∨ 0x28 ≤ c then x else { x with msg := x.msg - c + (c / 4 * 4 + (c + dev / 8) % 4) }

/-- A message of a device of partition `h` as its virtual port forwards it. -/
def State.msgUp (s : State) (p h : Nat) (x : Tlp) : Tlp := match s.vportOf h p with | some v => intxSwizzle v.dev x | none => x

/-- A TLP of a device of partition `h` (0 for a port without one), with its host-visible Requester ID. -/
def State.downSteer (s : State) (p h rid : Nat) (win : Bool) (x : Tlp) (data : List Word) : State :=
  let r := s.downRcv p h win x
  let seen : Tlp := { x with rid := rid }
  if isMem x then (if r.win ∧ s.inAlias p x.addr then s.aliasTlp r x data else s.memTlp r x seen data)
  else if h = 0 then s.urTlp p [] x
  else if x.typ = tyVdm then s.vdmIn r x
  else if x.typ = tyAts then
    let (id, s) := s.accOpen r.tile kTLP (List.replicate (x.bytes / 4) 0) (.tlp p x)
    (s.sendPart r.tile id (s.tlpPkt r seen data (s.hostEid h)) false 0 none).accSettle r.tile
  else if x.typ = tyMsg then s.msgTo r (s.msgUp p h seen) data [s.hostEid h]
  else s.urTlp p r.errs x

/-! ### Receipt of a TLP (R93, R240, R253, R307) -/

def isCpl (x : Tlp) : Bool := x.typ == tyCpl || x.typ == tyCplD

/-- The partition whose request a completion answers; 0 for a native request or none. -/
def State.cplPart (s : State) (p : Nat) (x : Tlp) : Nat :=
  match s.pc.tags.find? (fun o => o.port == p && o.tag == x.tag && s.outRid o == x.rid) with
  | some o => if o.req.kind = kTLP then (o.req.tlp.map (·.part)).getD 0 else 0
  | none => 0

/-- The partition of a received TLP; none where it has none. -/
def State.tlpHpart (s : State) (p : Nat) (x : Tlp) : Option Nat :=
  if isCpl x then some (s.cplPart p x) else if s.isHost p then s.hostPart p else (s.devFn p x.rid).map (·.1)

/-- A TLP that nothing holds back is steered. -/
def State.tlpGo (s : State) (p : Nat) (x : Tlp) (data : List Word) : State :=
  let s := s.doIf x.ep (fun s => s.aerLog p (if x.part = 0 then s.linkParts p else [x.part]) aePoisoned)
  if isCpl x then s.cplIn p x data
  else if s.isHost p then s.hostSteer (s.hostRcv p x.part) x data
  else match s.devFn p x.rid with
    | none => s.urTlp p (s.linkParts p) x
    | some (h, rid, win) => s.downSteer p h rid win x data

/-- A TLP received on a port. A PASID of 0 is none (R93). -/
def State.tlpIn (s : State) (p : Nat) (x : Tlp) (data : List Word) : State :=
  match s.faulty p x with
  | some s => s.fcBack p x.cls data.length
  | none => match s.tlpHpart p x with
    | none => (s.urTlp p (s.linkParts p) x).fcBack p x.cls data.length
    | some h =>
      let x : Tlp := { x with part := h, pasid := x.pasid.filter (· != 0) }
      if s.tlpWaits p x then { s with pc := { s.pc with wait := s.pc.wait ++ [(⟨p, x, data, s.wh.rstBusy⟩ : WaitTlp)] } }
      else (s.tlpGo p x data).fcBack p x.cls data.length

def execHostTlp (p : Nat) (x : Tlp) (data : List Word) (s : State) : Out :=
  act s (if s.isHost p ∧ s.lstat p = lsACTIVE then s.tlpIn p x data else s.smIgnored)

/-- CONFIG_REQUEST: a configuration TLP on a host port. -/
def execConfigRequest (p : Nat) (x : Tlp) (data : List Word) (s : State) : Out :=
  act s (if s.isHost p ∧ s.lstat p = lsACTIVE ∧ (x.typ = tyCfgRd ∨ x.typ = tyCfgWr) then s.tlpIn p x data else s.smIgnored)

def execDownstreamTlp (p : Nat) (x : Tlp) (data : List Word) (s : State) : Out :=
  act s (if s.isDown p ∧ s.lstat p = lsACTIVE then s.tlpIn p x data else s.smIgnored)

/-- VDM_BARRIER (R307): a block VDM on a port, with its Requester ID, subtype, scope and token. -/
def execVdmBarrier (p rid sub scope token : Nat) (s : State) : Out :=
  let x : Tlp := { tlp0 with typ := tyVdm, rid := rid, msg := sub % 256 + scope % 4 * 2 ^ 8 + token % 2 ^ 16 * 2 ^ 16 }
  act s (if s.lstat p = lsACTIVE ∧ (s.isHost p || s.isDown p) then s.tlpIn p x [] else s.smIgnored)

/-- The MemWr of a write to the doorbell aperture of partition `h` at offset `a`. -/
def State.bellMemWr (s : State) (h rid : Nat) (pasid : Option Nat) (ptc a : Nat) (data : List Word) : Tlp :=
  { tlp0 with typ := tyMWr, hlen := 4, ptc := ptc, rid := rid, pasid := pasid, addr := s.bar h rgBar2 + a % 2 ^ 22,
              fbe := 15, lbe := (if data.length ≤ 1 then 0 else 15) }

/-- Does host port `p` carry the doorbell aperture of partition `h` now? -/
def State.bellOpen (s : State) (p h : Nat) : Bool :=
  s.isHost p && s.lstat p == lsACTIVE && s.hostPart p == some h && s.barOn h

/-- DOORBELL_PUSH_WRITE (R324). -/
def execDoorbellPushWrite (p h rid : Nat) (pasid : Option Nat) (ptc a : Nat) (desc : List Word) (s : State) : Out :=
  act s (if s.bellOpen p h then s.tlpIn p (s.bellMemWr h rid pasid ptc a desc) desc else s.smIgnored)

/-- DOORBELL_RING_WRITE (R324). -/
def execDoorbellRingWrite (p h rid : Nat) (pasid : Option Nat) (ptc a : Nat) (tail : Word) (s : State) : Out :=
  act s (if s.bellOpen p h then s.tlpIn p (s.bellMemWr h rid pasid ptc a [tail]) [tail] else s.smIgnored)

/-- The oldest TLP of `l` that may go on: the first of its port and partition, which satisfies a test. -/
def nextFree (ok : WaitTlp → Bool) : List (Nat × Nat) → List WaitTlp → Option WaitTlp
  | _, [] => none
  | seen, w :: r =>
    if seen.contains (w.port, w.tlp.part) then nextFree ok seen r
    else if ok w then some w
    else nextFree ok ((w.port, w.tlp.part) :: seen) r

/-- The oldest TLP that waits at a PT NI and whose barrier is over goes on (R307). -/
def State.waitNext (s : State) (t : Nat) : Option State :=
  let free (w : WaitTlp) : Bool := ptTile (portC w.port) == t && !s.portBarred w.port w.tlp.part
    && !(s.wh.rstBusy && w.late && w.tlp.cls == 0)
  (nextFree free [] s.pc.wait).map (fun w =>
    ({ s with pc := { s.pc with wait := dropFirst (fun x => x == w) s.pc.wait } }).tlpGo w.port w.tlp w.data
    |>.fcBack w.port w.tlp.cls w.data.length)

/-- PTM_REQUEST (R312): fabric time in ns at the lane attachment, or a response without time. A host port has no PTM. -/
def execPtmRequest (p : Nat) (s : State) : Out :=
  let x : Tlp := { tlp0 with typ := tyMsg, msg := 0x53 }
  act s (if s.lstat p ≠ lsACTIVE ∨ !(s.isHost p || s.isDown p) then s.smIgnored
    else if s.isHost p then s.urTlp p (s.linkParts p) { x with msg := 0x52 }
    else if s.on TM_STATUS_VALID then
      let t := s.rxTime p s.stamp16 / 65536
      s.send (.tlp p x [BitVec.ofNat 32 t, BitVec.ofNat 32 (t / 2 ^ 32)])
    else s.send (.tlp p x []))

/-! ### Credit and the start of a TLP (R297, R305, R306) -/

/-- Credit key of a TLP class: 0 posted, 1 non-posted, 2 completion. -/
def pcKey (p cls : Nat) : Nat := p * 8 + cls * 2
def State.hasCred (s : State) (p cls n : Nat) : Bool :=
  decide (1 ≤ tgetD s.pc.credit (pcKey p cls) 0) && decide (dataCred n ≤ tgetD s.pc.credit (pcKey p cls + 1) 0)

def State.useCred (s : State) (p cls n : Nat) : State :=
  let k := pcKey p cls
  { s with pc := { s.pc with credit := tset (tset s.pc.credit k (tgetD s.pc.credit k 0 - 1)) (k + 1) (tgetD s.pc.credit (k + 1) 0 - dataCred n) } }

/-- PCIE_CREDIT_UPDATE: the partner grants more header and data credit of a class. -/
def execPcieCreditUpdate (p cls hdr data : Nat) (s : State) : Out :=
  act s (if !(s.isHost p || s.isDown p) ∨ s.lstat p ≠ lsACTIVE ∨ 3 ≤ cls then s.smIgnored
    else
      let k := pcKey p cls
      { s with pc := { s.pc with credit := tset (tset s.pc.credit k (tgetD s.pc.credit k 0 + hdr)) (k + 1) (tgetD s.pc.credit (k + 1) 0 + data) } })

/-- Does a request need a tag of the port's pool? A TLP keeps its own identity on a host port. -/
def State.needsTag (s : State) (p : Nat) (k : Pkt) : Bool := pktClass k == 1 && !(s.isHost p && k.kind == kTLP)

/-- A free tag of the pool. -/
def State.freeTag (s : State) (p : Nat) : Option Nat :=
  let used := (s.pc.tags.filter (fun o => o.port == p)).map (·.tag)
  (List.range (s.pget PCFG_TAGS_MAX p)).find? (fun n => !used.contains n)

/-- Link credit of a packet on a PCI Express port (R297). -/
def State.pcCredit (s : State) (p : Nat) (k : Pkt) : Bool :=
  let n := k.data.length
  let tagOk := !s.needsTag p k || (s.freeTag p).isSome
  if k.kind = kWRITE_NP then s.hasCred p 0 n && s.hasCred p 1 0 && tagOk
  else s.hasCred p (pktClass k) n && tagOk

/-- The Routing ID translated for a SHARED port (R301): the device function that partition `h` sees as DEVFN. -/
def State.devRid (s : State) (p h cid : Nat) : Option Nat :=
  if !s.shared p then some cid
  else
    let c := portC p
    ((List.range 256).find? (fun i => s.get (PORT_FNMAP_HPART c (fnIdx p i)) == h && s.get (PORT_FNMAP_DEVFN c (fnIdx p i)) == cid % 256)).map
      (fun i => s.get (PORT_FNMAP_DEV_RID c (fnIdx p i)))

/-- A packet leaves on a PCI Express link as its TLP. -/
def State.tlpStart (s : State) (p : Nat) (k : Pkt) : State :=
  match k.tlp with
  | none => s
  | some x =>
    let n := k.data.length
    let cfg := x.typ == tyCfgRd || x.typ == tyCfgWr
    match (if cfg ∧ s.isDown p then s.devRid p x.part x.cid else some x.cid) with
    | none => s.respondAt (ptTile (portC p)) (some (mkCpl k .unsupported))
    | some cid =>
      let x : Tlp := { x with cid := cid }
      if pktClass k ≠ 1 then (s.useCred p (pktClass k) n).send (.tlp p x k.data)
      else
        let wnp := k.kind == kWRITE_NP
        let tag := if s.needsTag p k then (s.freeTag p).getD 0 else x.tag
        let rid := if s.needsTag p k then s.pget PCFG_RID_RID p else x.rid
        let left := if wnp then 1 else if x.typ = tyMRd ∨ x.typ = tyAts then max 1 (x.bytes / 4) else 0
        let q : Pkt := if k.kind = kTLP then { k with data := [] } else { k with data := (if k.kind = kREAD then [] else k.data) }
        let s := { s with pc := { s.pc with tags := s.pc.tags ++ [(⟨p, tag, q, left, wnp⟩ : OutTag)] } }
        let s := s.showTags p
        if wnp then
          let s := (s.useCred p 0 n).send (.tlp p { x with cls := 0, rid := rid } k.data)
          (s.useCred p 1 0).send (.tlp p { x with cls := 1, typ := tyMRd, rid := rid, tag := tag, bytes := 4, fbe := 0, lbe := 0 } [])
        else (s.useCred p 1 n).send (.tlp p { x with rid := rid, tag := tag } k.data)

/-! ### Commands (R299, R302, R300, R321) -/

/-- First slot and number of slots of a port of a width code. -/
def spanOf (k w : Nat) : List Nat := (List.range (2 ^ w)).map (· + k)

def famOf (kind : Nat) : Nat := if kind = 0 then 0 else if kind = kindRunnel then 2 else 1

/-- Why PORT_SET refuses a kind and width: 1 overlap, 2 family; 0 none. -/
def State.portFail (s : State) (p kind w : Nat) : Nat :=
  let others := (List.range 8).filter (fun k => k != portK p && s.portKind (portC p * 8 + k) != 0)
  if kind = 0 then 0
  else if others.any (fun k => (spanOf k (s.get (PORT_CFG_WIDTH (portC p) k))).any (fun i => (spanOf (portK p) w).contains i)) then 1
  else if others.any (fun k => famOf (s.portKind (portC p * 8 + k)) != famOf kind) then 2
  else 0

/-- Is the link of a port disabled (R299)? -/
def State.linkOff (s : State) (p : Nat) : Bool :=
  if s.portKind p = kindRunnel then !s.pon LNK_CTL_EN p else if s.portKind p = 0 then true else !s.pon PCFG_EN p

/-- TCMAP as it is stored: fields of 6 and 7 become 5 (R86). -/
def tcmapStore (v : Nat) : Nat := ((List.range 8).map (fun i => min 5 (bits v (3 * i) 3) * 2 ^ (3 * i))).sum

/-- PCFG.EN of a PCI Express port is written. -/
def State.pcfgEn (s : State) (p : Nat) (en : Bool) : State :=
  let s := s.pput PCFG_EN p (b2n en)
  if en then (if s.lstat p = lsDISABLED ∧ !s.slotFaulty p then s.setLstat p lsTRAINING else s)
  else if s.lstat p = lsDISABLED ∨ s.lstat p = lsCONTAINED then s
  else ((s.setLstat p lsDISABLED).dropPort p).hostGone p

/-- Writable bits of PCFG. -/
def pcfgMask : Nat := 0x1F07FE

/-- HPART_SET: a partition's registers and its virtual switch; `vs` are its virtual ports, number and port EID. -/
def State.hpartSet (s : State) (mb n ctl hostA hostB : Nat) (vs : List (Nat × Nat)) : State :=
  if n = 0 ∨ 30 ≤ n ∨ 2 ^ 24 ≤ hostA ∨ 2 ^ 25 ≤ hostB then s.refuse mb 0 0
  else if bit hostB 24 ∧ eidNode hostA = eidNode (hostB % 2 ^ 24) ∧ portC (eidPort hostA) = portC (eidPort (hostB % 2 ^ 24)) then s.refuse mb 0 0
  else match vs.findIdx? (fun v => decide (64 ≤ v.1 ∨ 2 ^ 24 ≤ v.2)) with
  | some i => s.refuse mb 0 i
  | none =>
    if 64 < vs.length then s.refuse mb 0 64
    else
      let s := ((s.wr (R_GLB_HPART_CTL n) (ctl % 4)).wr (R_GLB_HPART_HOST_A n) hostA).wr (R_GLB_HPART_HOST_B n) hostB
      let vp := s.pc.vports.filter (fun v => v.hpart != n) ++ vs.map (fun v => (⟨n, v.1, v.2⟩ : VPort))
      let s := { s with pc := { s.pc with
        vports := vp
        shadow := s.pc.shadow.filter (fun e => e.1 / 2 ^ 19 != n) } }
      (s.showOnB n).ok mb []

def execHpartSet (mb n ctl hostA hostB : Nat) (vs : List (Nat × Nat)) (s : State) : Out :=
  act s (s.runCmd mb 0x0202 (fun _ s => s.hpartSet mb n ctl hostA hostB vs))

/-- FN_BIND: entries (index, word) of the function map of a SHARED port. -/
def State.fnBind (s : State) (mb p : Nat) (ents : List (Nat × Nat)) : State :=
  if !s.isDown p ∨ !s.shared p then s.refuse mb 0 0
  else match ents.findIdx? (fun e => decide (256 ≤ e.1 ∨ 2 ^ 30 ≤ e.2 ∨ 29 < bits e.2 16 5)) with
  | some i => s.refuse mb 0 i
  | none => (s.forEach ents (fun e u => u.wr (R_PORT_FNMAP (portC p) (fnIdx p e.1)) e.2)).ok mb []

def execFnBind (mb p : Nat) (ents : List (Nat × Nat)) (s : State) : Out := act s (s.runCmd mb 0x0203 (fun _ s => s.fnBind mb p ents))

/-- PORT_DPC_RELEASE (R311). -/
def execPortDpcRelease (mb p : Nat) (s : State) : Out :=
  act s (s.runCmd mb 0x0206 (fun _ s => if !s.isDown p then s.refuse mb 0 0 else (s.dpcRelease p).ok mb []))

def State.ctr2 (s : State) (off : Nat) : List Nat := [s.cnt off % 2 ^ 32, s.cnt off / 2 ^ 32]

/-- PORT_QUERY: LSTAT, TAGS, STAT of the port's slots and the counters. -/
def execPortQuery (mb p : Nat) (s : State) : Out :=
  act s (s.runCmd mb 0x0207 (fun _ s =>
    if 128 ≤ p ∨ s.portKind p = 0 then s.refuse mb 0 0
    else
      let c := portC p
      let k := portK p
      s.okQuery mb ([s.rd (R_PCFG_LSTAT c k), s.rd (R_PCFG_TAGS c k)] ++ (s.slotsOf p).map (fun n => s.rd (R_SLOT_STAT n))
        ++ [C_PCFG_DPC_DISCARD c k, C_PCFG_UR_RX c k, C_PCFG_MALFORMED c k, C_PCFG_ECRC_FAIL c k, C_PCFG_UNEXP_CPL c k,
            C_PCFG_EGR_CTO c k, C_PCFG_VDM_DROP c k].flatMap s.ctr2)))

end Sys2Proof.Machine
end

