-- ==== Sys2Proof/Machine/Slots.lean ====
section
/-! DEFINITION. The slot sequencers: the states of Table 10-5, the attention button, PMBus polling and the slot commands
(R313 to R317, R321). -/

namespace Sys2Proof.Machine

def slEMPTY : Nat := 0
def slRAMP : Nat := 2
def slPERST : Nat := 3
def slLINK : Nat := 4
def slSETTLE : Nat := 6
def slDISABLED : Nat := 8

/-- An event that Table 10-5 does not list (R314). -/
def State.slotIgnored (s : State) : State := s.count C_GLB_SLOT_EVT_IGNORED

def State.prsnt (s : State) (n : Nat) : Bool := s.on (SLOT_STAT_PRSNT n)

def State.slotRetries (s : State) (n : Nat) : State := s.put (SLOT_STAT_RETRIES_LEFT n) (s.get (SLOT_TIMERS_RETRY n))

/-- OFF or EMPTY, by PRSNT. -/
def State.slotRest (s : State) (n : Nat) : State := s.slotTo n (if s.prsnt n then slOFF else slEMPTY)

/-- Marks of a slot: `n` for a card seen gone in SETTLE, 64 + `n` for the sequencer's own request cleared. -/
def State.mark (s : State) (k : Nat) (on_ : Bool) : State :=
  let rest := s.pc.gone.filter (· ≠ k)
  { s with pc := { s.pc with gone := if on_ then rest ++ [k] else rest } }

/-- Asks the slot's controller for its readings (R317). -/
def State.slotPoll (s : State) (n : Nat) : State := s.send (.pmb n)

/-- A slot fault: power cut, latched fault with its cause, events and a class 11 record; containment if UP. What is queued for
the port is answered or discarded in either case (Table 10-5, R314). -/
def State.slotFault (s : State) (n cause : Nat) : State :=
  let p := s.slotPort n
  let up := s.slotSt n == slUP
  let s := ((s.slotDown n).put (SLOT_STAT_SLOT_FAULT n) 1).put (SLOT_STAT_CAUSE n) cause
  let s := ((s.put (SLOT_EVT_FAULT n) 1).put (SLOT_STAT_FLT n) 0).slotTo n slFAULT
  if up then s.contain p 4 else (s.dropPort p).fault 11 p 4

/-- UP loses its card or link: SETTLE (Table 10-5). -/
def State.slotSurprise (s : State) (n : Nat) : State :=
  let s := (s.contain (s.slotPort n) 1).put (SLOT_STAT_PERST_OUT n) 1
  let s := if s.prsnt n then s else s.put (SLOT_STAT_EN_OUT n) 0
  let s := s.put (SLOT_STAT_INCARNATION n) (s.get (SLOT_STAT_INCARNATION n) + 1)
  ((s.put (SLOT_EVT_SURPRISE n) 1).slotTo n slSETTLE).mark n (!s.prsnt n)

/-- A card returns inside SETTLE (Table 10-5). -/
def State.slotReturn (s : State) (n : Nat) : State :=
  (((s.put (SLOT_STAT_EN_OUT n) 0).put (SLOT_EVT_REINSERT n) 1).mark n false).slotTo n slOFF

/-- The filtered PRSNT input changes. A new card may ask for power by itself again. -/
def State.slotPrsnt (s : State) (n : Nat) (lvl : Bool) : State :=
  if s.prsnt n = lvl then s.slotIgnored
  else
    let st := s.slotSt n
    let s := s.put (SLOT_STAT_PRSNT n) (b2n lvl)
    let s := if lvl then s.mark (64 + n) false else s
    if st = slEMPTY ∧ lvl then ((s.put (SLOT_EVT_PRSNT_CHG n) 1).slotTell n ssPDC).slotTo n slOFF
    else if st = slOFF ∧ !lvl then ((s.put (SLOT_EVT_PRSNT_CHG n) 1).slotTell n ssPDC).slotTo n slEMPTY
    else if st = slUP ∧ !lvl then s.slotSurprise n
    else if st = slSETTLE ∧ !lvl then s.mark n true
    else if st = slSETTLE ∧ s.pc.gone.contains n then s.slotReturn n
    else s.slotIgnored

def execSlotPrsntChange (n : Nat) (lvl : Bool) (s : State) : Out := act s (if 64 ≤ n then s.smIgnored else s.slotPrsnt n lvl)

/-- SLOT_REINSERT: PRSNT asserts in SETTLE after it was deasserted. -/
def execSlotReinsert (n : Nat) (s : State) : Out :=
  act s (if 64 ≤ n then s.smIgnored
    else if s.slotSt n = slSETTLE ∧ s.pc.gone.contains n then (s.put (SLOT_STAT_PRSNT n) 1).slotReturn n else s.slotIgnored)

/-- SLOT_POWER_ON: OFF_10MS has elapsed on the off timer. -/
def execSlotPowerOn (n : Nat) (s : State) : Out :=
  act s (if 64 ≤ n then s.smIgnored
    else if s.slotSt n = slOFF ∧ s.prsnt n ∧ s.slotWants n then (s.put (SLOT_STAT_EN_OUT n) 1).slotTo n slRAMP else s.slotIgnored)

/-- SLOT_PGOOD: the filtered PGOOD input changes. -/
def execSlotPgood (n : Nat) (lvl : Bool) (s : State) : Out :=
  act s (if 64 ≤ n then s.smIgnored
    else
      let st := s.slotSt n
      let s := s.put (SLOT_STAT_PGOOD n) (b2n lvl)
      if st = slRAMP ∧ lvl then s.slotTo n slPERST
      else if (st = slPERST ∨ st = slLINK ∨ st = slUP) ∧ !lvl then (((s.slotFault n 3).put (SLOT_EVT_ATTN n) 1).slotTell n ssATTN).slotPoll n
      else s.slotIgnored)

def execSlotPgTimeout (n : Nat) (s : State) : Out :=
  act s (if 64 ≤ n then s.smIgnored else if s.slotSt n = slRAMP then s.slotFault n 2 else s.slotIgnored)

/-- SLOT_PERST_TIMER: 100 ms after PGOOD. -/
def execSlotPerstTimer (n : Nat) (s : State) : Out :=
  act s (if 64 ≤ n then s.smIgnored
    else if s.slotSt n = slPERST then
      let p := s.slotPort n
      let s := (s.put (SLOT_STAT_PERST_OUT n) 0).slotTo n slLINK
      if s.isDown p ∧ s.pon PCFG_EN p ∧ s.lstat p ≠ lsCONTAINED then s.setLstat p lsTRAINING else s
    else s.slotIgnored)

/-- SLOT_DL_ACTIVE: the link comes up at a width, rate and mode; `ten` and `en` give the tags of R305. In UP the port has
retrained (R311, R319); the slot itself then sees an event that Table 10-5 does not list. -/
def execSlotDlActive (n width rate : Nat) (flit ten : Bool) (en : Nat) (s : State) : Out :=
  act s (if 64 ≤ n then s.smIgnored
    else
      let p := s.slotPort n
      if s.slotSt n = slLINK ∧ s.isDown p ∧ s.lstat p = lsTRAINING ∧ s.linkFits p width rate flit then
        ((((s.linkUp p width rate flit ten en).slotRetries n).put (SLOT_EVT_LINK_UP n) 1).slotTell n ssDLLSC).slotTo n slUP
      else if s.slotSt n = slUP ∧ s.isDown p ∧ s.lstat p = lsTRAINING ∧ s.linkFits p width rate flit then (s.linkUp p width rate flit ten en).slotIgnored
      else s.slotIgnored)

def execSlotLinkTimeout (n : Nat) (s : State) : Out :=
  act s (if 64 ≤ n then s.smIgnored else if s.slotSt n = slLINK then s.put (SLOT_EVT_LINK_FAIL n) 1 else s.slotIgnored)

/-- SLOT_SURPRISE_DOWN: DL_Active is lost, or PRSNT deasserts, in UP. -/
def execSlotSurpriseDown (n : Nat) (gone : Bool) (s : State) : Out :=
  act s (if 64 ≤ n then s.smIgnored
    else if s.slotSt n = slUP then ((if gone then s.put (SLOT_STAT_PRSNT n) 0 else s).slotSurprise n) else s.slotIgnored)

/-- SLOT_FLT: the FLT input: 0 deasserted, 1 asserted, 2 asserted without break for FT_MS. -/
def execSlotFlt (n lvl : Nat) (s : State) : Out :=
  act s (if 64 ≤ n ∨ 3 ≤ lvl then s.smIgnored
    else if lvl < 2 then s.put (SLOT_STAT_FLT n) lvl
    else
      let st := s.slotSt n
      if st = slRAMP ∨ st = slPERST ∨ st = slLINK ∨ st = slUP then (((s.slotFault n 1).put (SLOT_EVT_ATTN n) 1).slotTell n ssATTN).slotPoll n else s.slotIgnored)

def execSlotSettleExpiry (n : Nat) (s : State) : Out :=
  act s (if 64 ≤ n then s.smIgnored
    else if s.slotSt n = slSETTLE then ((s.put (SLOT_STAT_EN_OUT n) 0).mark n false).slotRest n else s.slotIgnored)

/-- SLOT_RETRY: COOL_S has elapsed since EN fell. -/
def execSlotRetry (n : Nat) (s : State) : Out :=
  act s (if 64 ≤ n then s.smIgnored
    else
      let left := s.get (SLOT_STAT_RETRIES_LEFT n)
      if s.slotSt n = slFAULT ∧ 0 < left ∧ s.prsnt n then
        (((s.put (SLOT_STAT_RETRIES_LEFT n) (left - 1)).put (SLOT_EVT_RETRY n) 1).put (SLOT_STAT_EN_OUT n) 1).slotTo n slRAMP |>.dpcDone (s.slotPort n)
      else s.slotIgnored)

/-- CLR_FAULT is written (Table 10-5). -/
def State.slotClr (s : State) (n : Nat) : State :=
  if s.slotSt n = slFAULT then (((s.put (SLOT_STAT_SLOT_FAULT n) 0).slotRetries n).slotRest n).dpcDone (s.slotPort n) else s.slotIgnored

/-- CTL.POWER is written: a request that goes may power the slot off. -/
def State.slotCtlPower (s : State) (n : Nat) (v : Bool) : State := (s.put (SLOT_CTL_POWER n) (b2n v)).slotOff n

/-- CFG is written. The sequencer runs while EN is set and PORT names a downstream port, and is DISABLED otherwise (R428). -/
def State.slotCfg (s : State) (n v : Nat) : State :=
  let run := bit v 7 && s.portKind (v % 128) == kindDown
  let st := s.slotSt n
  let set (s : State) : State := s.wr (R_SLOT_CFG n) (v % 2 ^ 10)
  let p := s.slotPort n
  if run ∧ st = slDISABLED then ((set s).slotRetries n).slotRest n
  else if !run ∧ st ≠ slDISABLED then
    let s := if st = slUP then s.contain p 1 else s
    (((set s).slotDown n).slotTo n slDISABLED).doIf (st = slFAULT) (·.dpcDone p)
  else (set s).doIf (st = slFAULT) (·.dpcDone p)

/-- PORT_CFG is written. A port of another kind or width draws a nonce (R279). The slot sequencers of a port stop before it leaves KIND 2 and start when it becomes KIND 2 (R428). -/
def State.setPortCfg (s : State) (p v : Nat) : State :=
  let old := s.portKind p
  let stop (n : Nat) (u : State) : State :=
    if u.slotSt n = slDISABLED then u
    else ((if u.slotSt n = slUP then u.contain p 1 else u).slotDown n).slotTo n slDISABLED
  let start (n : Nat) (u : State) : State :=
    if u.on (SLOT_CFG_EN n) ∧ u.slotSt n = slDISABLED then (u.slotRetries n).slotRest n else u
  let s := if old = kindDown ∧ v % 4 ≠ old then s.forEach (s.slotsOf p) stop else s
  let s := if v % 16 = s.rd (R_PORT_CFG (portC p) (portK p)) % 16 then s else s.newNonce p
  let s := s.wr (R_PORT_CFG (portC p) (portK p)) (v % 32)
  let s := if v % 4 = old then s
    else if v % 4 = 0 then { s with sch := { s.sch with refAt := s.sch.refAt.filter (fun e => e.1 / 8 != p) } } else s.refillsFrom p
  if v % 4 = kindDown ∧ old ≠ kindDown then s.forEach (s.slotsOf p) start else s

/-- ATTENTION_BUTTON (R315). -/
def execAttentionButton (n : Nat) (s : State) : Out :=
  act s (if 64 ≤ n ∨ s.slotSt n = slDISABLED then s.smIgnored
    else
      let s := (s.put (SLOT_EVT_ATTN n) 1).slotTell n ssATTN
      if s.on (SLOT_CFG_ATTN_OFF n) then (s.mark (64 + n) true).slotOff n else s)

/-! ### PMBus (R317) -/

/-- A LINEAR11 word, or a LINEAR16 word with the exponent of VOUT_MODE, in thousandths: numerator and denominator. -/
def pmbValue (vmode : Option Nat) (w : Nat) : Int × Nat :=
  let m : Int := match vmode with | none => toSigned 11 w | some _ => ((w % 65536 : Nat) : Int)
  let e : Int := match vmode with | none => toSigned 5 (w / 2 ^ 11) | some x => toSigned 5 x
  if 0 ≤ e then (m * 1000 * 2 ^ e.toNat, 1) else (m * 1000, 2 ^ (-e).toNat)

/-- A quotient rounded to a whole number; which way is free. A result outside the field is free too. -/
def State.pmbRound (s : State) (w : Nat) (q : Int × Nat) : Nat × State :=
  let lo := q.1 / (q.2 : Int)
  let (up, s) := if q.1 % (q.2 : Int) = 0 then (0, s) else s.free 1
  let v := lo + (up : Int)
  if 0 ≤ v ∧ v < 2 ^ w then (v.toNat, s) else s.free w

/-- One reading of a poll: a failed read counts and leaves the stored value. -/
def State.pmbRead (s : State) (n : Nat) (f : Fld) (vmode : Option Nat) (r : Option Nat) : State :=
  match r with
  | none => (s.count (C_SLOT_PMB_ERR n)).put (SLOT_EVT_PMB_ERR n) 1
  | some w => let x := s.pmbRound f.w (pmbValue vmode w); x.2.put f x.1

/-- PMBUS_POLL: the four reads of a poll as raw words; `vmode` is VOUT_MODE where READ_VOUT is LINEAR16. -/
def execPmbusPoll (n : Nat) (vin vout iout pin vmode : Option Nat) (s : State) : Out :=
  act s (if 64 ≤ n ∨ !s.on (SLOT_PMB_EN n) then s.smIgnored
    else
      let s := s.slotPoll n
      let s := (s.pmbRead n (SLOT_V_VIN_MV n) none vin).pmbRead n (SLOT_V_VOUT_MV n) vmode vout
      let s := (s.pmbRead n (SLOT_I_IOUT_MA n) none iout).pmbRead n (SLOT_P_PIN_MW n) none pin
      let x := s.pmbRound 48 ((s.get (SLOT_P_PIN_MW n) * max 1 (s.get (SLOT_PMB_POLL_MS n)) : Nat), 1000)
      x.2.bump (C_SLOT_ENERGY n) x.1)

/-! ### Commands (R299, R321) -/

/-- PORT_SET (R299): MAXRATE and DEF_HPART lie in their encodings (R391). -/
def State.portSet (s : State) (mb p cfg pcfg tcmap : Nat) : State :=
  let kind := cfg % 4
  let w := bits cfg 2 2
  if 128 ≤ p ∨ 32 ≤ cfg ∨ portK p % 2 ^ w ≠ 0 ∨ bits pcfg 1 3 = 0 ∨ 29 < bits pcfg 16 5 then s.refuse mb 0 0
  else
    let f := s.portFail p kind w
    if f ≠ 0 then s.refuse mb f p
    else if !s.linkOff p then s.busy mb p
    else
      let c := portC p
      let k := portK p
      let s := (s.setPortCfg p cfg).wr (R_PORT_TCMAP c k) (tcmapStore tcmap)
      let s := s.wr (R_PCFG c k) ((pcfg &&& pcfgMask) + s.pget PCFG_EN p)
      ((if kind = kindHost ∨ kind = kindDown then s.pcfgEn p (bit pcfg 0) else s.pput PCFG_EN p 0)).ok mb []

def execPortSet (mb p cfg pcfg tcmap : Nat) (s : State) : Out := act s (s.runCmd mb 0x0201 (fun _ s => s.portSet mb p cfg pcfg tcmap))

/-- SLOT_SET: CFG, TIMERS, TIMERS2 and PMB. An enabled binding to a port that is not KIND 2 is refused (R428). -/
def State.slotSet (s : State) (mb n cfg timers timers2 pmb : Nat) : State :=
  if 64 ≤ n ∨ 2 ^ 10 ≤ cfg ∨ 2 ^ 32 ≤ timers ∨ 2 ^ 32 ≤ timers2 ∨ 2 ^ 16 ≤ pmb
      ∨ (bit cfg 7 ∧ s.portKind (cfg % 128) ≠ kindDown) then s.refuse mb 0 0
  else
    let s := (s.wr (R_SLOT_TIMERS n) (timers &&& 0xFFFF01FF)).wr (R_SLOT_TIMERS2 n) (timers2 &&& 0xFFFF0FFF)
    ((s.wr (R_SLOT_PMB n) pmb).slotCfg n cfg).ok mb []

def execSlotSet (mb n cfg timers timers2 pmb : Nat) (s : State) : Out :=
  act s (s.runCmd mb 0x0204 (fun _ s => s.slotSet mb n cfg timers timers2 pmb))

/-- SLOT_POWER: 0 clears CTL.POWER, 1 sets it, 2 writes CLR_FAULT. -/
def execSlotPower (mb n op : Nat) (s : State) : Out :=
  act s (s.runCmd mb 0x0205 (fun _ s =>
    if 64 ≤ n ∨ 3 ≤ op then s.refuse mb 0 0
    else (if op = 2 then s.slotClr n else s.slotCtlPower n (op == 1)).ok mb []))

end Sys2Proof.Machine
end

