-- ==== Sys2Proof/Machine/Egress.lean ====
section
/-! DEFINITION. Packets that leave: the start of a packet on a link, and injection of packets an NI has held (R116, R118,
R159, R259, R268, R271, R274, R307). -/

namespace Sys2Proof.Machine

/-- Has a packet link credit: available credit of its VN (R158, R271)? -/
def State.linkCredit (s : State) (p : Nat) (k : Pkt) : Bool := decide (units k ≤ s.avail p k.vn)

/-- The timestamp t1 or t3 goes into a SYNC or DREQ that leaves, and the child keeps its t3 (R37, R38). -/
def State.timeOut (s : State) (p : Nat) (k : Pkt) : Pkt × State :=
  if timeSub k = 1 ∨ timeSub k = 2 then
    let t := s.txTime p s.stamp16
    let k := reChk { k with data := putAt k.data 1 ((timeWords t).map (BitVec.ofNat 32)) }
    let s := if timeSub k = 1 then s
      else { s with tm := { s.tm with exch := match tget s.tm.exch p with
        | some x => if x.xseq = timeSeq k then tset s.tm.exch p { x with t3 := t } else s.tm.exch
        | none => s.tm.exch } }
    (k, s)
  else (k, s)

/-- A packet starts on a Runnel link: HOPS, HDR_CHK, credit; it goes into the packet areas of flits after what went before. -/
def State.linkStart (s : State) (p : Nat) (k : Pkt) : State :=
  let k := reChk { k with hops := k.hops + 1 }
  let (k, s) := s.timeOut p k
  let key := vnKey p k.vn
  let s := { s with lnk := { s.lnk with charged := tset s.lnk.charged key ((tgetD s.lnk.charged key 0 + units k) % 2 ^ 32) } }
  let s := (s.showCred p k.vn).ptpStamp p k (s.txTime p s.stamp16)
  (s.lkMap p (fun x => { x with txq := x.txq ++ [⟨k, 0⟩] })).pump p false

/-- A packet boundary on a Runnel link: the packet that R159 selects starts. With nothing to start the last flit is filled and
IDLE flits follow; while the window is full only they leave (R261, R269). -/
def State.runnelStart (s : State) (p : Nat) : State :=
  let s := s.pump p false
  if s.txBusy p then s.sendIdle p 1
  else
    let s := s.fqHeads p (s.linkCredit p)
    match s.selectNext p (s.linkCredit p) with
    | none => (s.pump p true).sendIdle p 1
    | some x => (s.startPkt p (s.linkCredit p) x).linkStart p x.2.2.pkt

/-- A packet boundary on port `p`: the packet that R159 selects starts. What has waited for room goes into the queues first. A
port in electrical idle starts nothing (Table 13-8). -/
def State.portStart (s : State) (p : Nat) : State :=
  let s := (s.endPkt p).backIn
  if s.isRunnel p then (if s.lst p ≠ lkACTIVE ∨ (s.lk p).stopping then s.smIgnored else s.runnelStart p)
  else if (s.isHost p || s.isDown p) ∧ s.lstat p = lsACTIVE ∧ !s.pw.idle.contains p then
    let s := s.fqHeads p (s.pcCredit p)
    match s.selectNext p (s.pcCredit p) with
    | none => s
    | some x => (s.startPkt p (s.pcCredit p) x).tlpStart p x.2.2.pkt
  else s.smIgnored

/-- PACKET_START (R159). -/
def execPacketStart (p : Nat) (s : State) : Out := act s (s.portStart p)

/-- Does an NI try a held packet again by itself? A quiet switch releases its own. -/
def retryable (h : Held) : Bool := h.why != .quiet

/-- PACKET_INJECT (R116): the NI of tile `t` tries what it holds; behind a barrier that is over, the Wellhead's next
access or a port's next TLP goes on (R240, R307). -/
def execPacketInject (t : Nat) (s : State) : Out :=
  act s (
    let s := (s.resendAt t).retry (fun h => h.tile == t && retryable h)
    match (if t = whTile ∧ !s.ord.bars.any (fun b => b.tile == whTile) then s.wh.accq else []) with
    | x :: rest => ({ s with wh := { s.wh with accq := rest } }).whAccess x
    | [] => match s.waitNext t with
      | some u => u
      | none => s)

end Sys2Proof.Machine
end

