-- ==== Sys2Proof/Machine/Time.lean ====
section
/-! DEFINITION. Fabric time: exchanges, the servo, steps, the grandmaster and the time tree, external time, holdover,
the timebase tiles, frame switches, and the neighbours of fabric ports (R32 to R67, R134 to R136). -/

namespace Sys2Proof.Machine

/-! ### Steps of fabric time (R39, R59, R60, R66) -/

/-- The number of the last boundary strictly before an instant (ns). -/
def Sched.before (c : Sched) (ns : Int) : Int := c.number (ns - 1)

/-- The last boundary strictly before `ns`, past an armed switch whose S is skipped too (R59). -/
def State.lastBefore (s : State) (ns : Int) : Int :=
  let n := s.sched.before ns
  match s.tm.swS with
  | some k => if s.tm.hdl < k ∧ (k : Int) ≤ n then max k ((s.switchSched k).before ns) else n
  | none => n

/-- Frame-program jobs that run are aborted as overruns (R56, R59). -/
def State.abortPrograms (s : State) : State :=
  s.forEach (List.range 96) (fun k u => if u.fpLive (k / 8) (k % 8) then u.fpAbort (k / 8) (k % 8) else u)

/-- Does a boundary that passes without a tick count as missed: time is valid, or ticks run on the local time (R53, R59, R66)? -/
def State.countsMissed (s : State) : Bool := s.on TM_STATUS_VALID || (s.on TM_FRAME_CTL_EN && s.on TM_FRAME_CTL_FREE)

/-- Fabric time steps by `d` units of 2^-32 ns; `first` when the step sets VALID (R39, R59, R60, R66). The first one is for
ticks a step forward, whatever its direction. -/
def State.stepTime (s : State) (d : Int) (first : Bool) : State :=
  let now := ((s.tm.now : Int) + d).toNat
  let back := decide (now < s.tm.now)
  let fwd := !back || first
  let n := s.lastBefore (now / 2 ^ 32 : Nat)
  let last : Int := match s.tm.last with | some l => (l : Int) | none => -1
  let hdl := if first then n else if back then max last n else max s.tm.hdl n
  let s := s.doIf (s.countsMissed && fwd) (fun s => s.bump C_TM_MISSED_TICKS (n - s.tm.hdl).toNat)
  let s := s.doIf (!back || (first && s.on TM_FRAME_CTL_FREE)) (·.abortPrograms)
  let edge := s.tm.ppsEdge.map (fun e => ((e : Int) + d / 2 ^ 16).toNat)
  let s := { s with tm := { s.tm with now := now, hdl := hdl, stepped := true, lockRun := 0, residual := 0, ppsEdge := edge } }
  let s := (s.put TM_STATUS_STEP 1).put TM_STATUS_LOCKED 0
  (s.putIf back TM_STATUS_STEP_BACK 1).putIf first TM_STATUS_VALID 1

/-! ### Servo and holdover (R38, R39, R51) -/

/-- The servo steers TM_RATE.ADJ; its law is the model's free value (assumption log 1). -/
def State.steer (s : State) : State :=
  let (v, s) := s.free 32
  s.put TM_RATE_ADJ (fromSigned 32 (clampI (-858993) 858993 (toSigned 32 v)))

/-- An offset `o` (2^-32 ns) from source `src`: 1 the parent, 2 the external source (R39, R51). An offset within
TM_STEP_THRESH, or the step itself, ends a run of bad ones (assumption log 82). -/
def State.servo (s : State) (o : Int) (src : Nat) : State :=
  let s := (s.put TM_STATUS_SOURCE src)
  let s := { s with tm := { s.tm with growing := false } }
  if !s.on TM_STATUS_VALID then s.stepTime (-o) true
  else if clampN 100 1000000 (s.get TM_STEP_THRESH_NS) * 2 ^ 32 < o.natAbs then
    if 2 ≤ s.tm.badRun then ({ s with tm := { s.tm with badRun := 0 } }).stepTime (-o) false
    else ({ s with tm := { s.tm with badRun := s.tm.badRun + 1, lockRun := 0 } }).put TM_STATUS_LOCKED 0
  else
    let run := if o.natAbs ≤ 2 ^ 32 then s.tm.lockRun + 1 else 0
    let s := { s with tm := { s.tm with badRun := 0, lockRun := run, residual := o.natAbs / 2 ^ 28 } }
    let s := s.steer.put TM_STATUS_LOCKED (b2n (16 ≤ run))
    if 16 ≤ run then
      let s := ((s.put TM_STATUS_HOLDOVER 0).put TM_STATUS_OUT_OF_BOUND 0).put TM_HOLD_ERR_ERR 0
      { s with tm := { s.tm with holdFrac := 0 } }
    else s

/-! ### Exchanges (R37, R38) -/

/-- A TIME packet of port `p`. -/
def State.timePkt (s : State) (p sub xseq : Nat) (ws : List Nat) : Pkt :=
  let d := ((sub + xseq % 65536 * 256) :: ws).map (BitVec.ofNat 32)
  reChk { pkt0 kTIME 6 4 8 0 (tileEid s.node (ptTile (portC p))) d with stamp := s.nowNs % 65536, repoch := s.get RTE_CTL_EPOCH }

/-- A TIME packet of a port goes to its queue Q6 (R37, R156). A timestamp that is taken when the packet leaves is inserted
then (R38). -/
def State.sendTime (s : State) (p sub xseq t : Nat) : State :=
  s.sendNear p (s.timePkt p sub xseq (timeWords t ++ [0, 0, 0, 0]))

/-- Takes the oldest link-local packet of port `p` that satisfies a test, with its instant of arrival. -/
def State.takeOwn (s : State) (p : Nat) (f : Pkt → Bool) : Option (Nat × Pkt) × State :=
  let mine (e : Nat × Nat × Pkt) : Bool := e.1 == p && f e.2.2
  match s.lnk.near.find? mine with
  | none => (none, s.smIgnored)
  | some e => (some e.2, { s with lnk := { s.lnk with near := dropFirst mine s.lnk.near } })

/-- SYNC_INTERVAL_EXPIRY: a parent port sends a SYNC, which carries t1 (R38). -/
def execSyncIntervalExpiry (p : Nat) (s : State) : Out :=
  act s (if !s.portUp p ∨ s.tm.parent = some p then s.smIgnored
    else
      let x := (tgetD s.tm.xseq p 0 + 1) % 65536
      let s := { s with tm := { s.tm with xseq := tset s.tm.xseq p x } }
      s.sendTime p 1 x 0)

/-- SYNC: the child answers with a DREQ that carries t3 (R38). -/
def execSync (p : Nat) (s : State) : Out :=
  act s (match s.takeOwn p (fun k => timeSub k == 1) with
    | (none, s) => s
    | (some (at_, k), s) =>
      if s.tm.parent ≠ some p then s
      else
        let x : Exch := ⟨timeSeq k, timeStamp k, s.rxTime p at_, 0⟩
        ({ s with tm := { s.tm with exch := tset s.tm.exch p x } }).sendTime p 2 (timeSeq k) 0)

/-- DREQ: the parent answers with a DRESP that carries t4 (R38). -/
def execDreq (p : Nat) (s : State) : Out :=
  act s (match s.takeOwn p (fun k => timeSub k == 2) with
    | (none, s) => s
    | (some (at_, k), s) => s.sendTime p 3 (timeSeq k) (s.rxTime p at_))

/-- The offset of R38 in 2^-32 ns: times in 2^-16 ns, asymmetry in ps. -/
def exchOffset (t1 t2 t3 t4 : Nat) (asym : Int) : Int :=
  let ab : Int := (t2 : Int) - t1
  let cd : Int := (t4 : Int) - t3
  ab * 2 ^ 16 - (ab + cd) * 2 ^ 15 - asym * 2 ^ 32 / 2000

/-- PTc_TM_ASYM of a port as it acts (R438). -/
def State.asym (s : State) (p : Nat) : Int := clampI (-1000000) 1000000 (toSigned 32 (s.get (PT_TM_ASYM_PS (portC p) (portK p))))

/-- DRESP: delay, offset and the servo (R38, R39). -/
def execDresp (p : Nat) (s : State) : Out :=
  act s (match s.takeOwn p (fun k => timeSub k == 3) with
    | (none, s) => s
    | (some (_, k), s) =>
      match tget s.tm.exch p with
      | none => s
      | some x =>
        if x.xseq ≠ timeSeq k ∨ s.tm.parent ≠ some p then s
        else
          let s := { s with tm := { s.tm with exch := tdel s.tm.exch p } }
          s.servo (exchOffset x.t1 x.t2 x.t3 (timeStamp k) (s.asym p)) 1)

/-! ### Grandmaster and time tree (R43 to R46) -/

/-- The dataset announced: STEPS counts the link it goes out on (assumption log 22). -/
def State.announceWords (s : State) : List Nat :=
  let g := s.bestGm
  let steps := match s.bestPort g with | some e => if gmSame g s.ownGm then 0 else e.2.steps | none => 0
  [0, 0, 0, g.prio1 + g.cls * 2 ^ 8 + g.prio2 * 2 ^ 16 + g.tier * 2 ^ 24 + min (steps + 1) 15 * 2 ^ 26, g.node, 0, 0]

/-- ANNOUNCE_INTERVAL_EXPIRY: an ANNOUNCE on every fabric port in service (R43). -/
def execAnnounceIntervalExpiry (s : State) : Out :=
  act s (
    let s := s.chooseGm
    let ws := s.announceWords
    s.forEach (s.fabricPorts.filter (s.portUp ·)) (fun p u => u.sendNear p (u.timePkt p 4 0 ws)))

def gmOf (k : Pkt) : GmSet :=
  let w4 := (k.data.getD 4 0).toNat
  ⟨bits w4 0 8, bits w4 8 8, bits w4 16 8, bits w4 24 2, bits w4 26 4, bits ((k.data.getD 5 0).toNat) 0 12⟩

/-- The port whose NI forwarded an ANNOUNCE to the timebase tiles, which its SRC_EID names (assumption log 83). -/
def annPort (k : Pkt) : Nat := eidPort k.src

/-- Takes the oldest ANNOUNCE of port `p` that has reached a timebase tile, and the tile. -/
def State.takeAnnounce (s : State) (p : Nat) : Option (Nat × Pkt) × State :=
  let mine (x : Nat × Pkt) : Bool := tbTiles.contains x.1 && timeSub x.2 == 4 && annPort x.2 == p
  match s.mesh.arrived.find? mine with
  | none => (none, s.smIgnored)
  | some x => (some x, { s with mesh := { s.mesh with arrived := dropFirst mine s.mesh.arrived } })

/-- ANNOUNCE: at the active timebase tile the port's candidate is replaced and the choice made afresh (R43, R44). A dataset
that names this node itself comes from nowhere else: it is no candidate, and the port offers none (assumption log 22). -/
def execAnnounce (p : Nat) (s : State) : Out :=
  act s (match s.takeAnnounce p with
    | (none, s) => s
    | (some (t, k), s) =>
      if t ≠ s.tbTile then s
      else if (gmOf k).node = s.node then ({ s with tm := { s.tm with cands := tdel s.tm.cands p } }).chooseGm
      else ({ s with tm := { s.tm with cands := tset s.tm.cands p (gmOf k) } }).chooseGm)

/-- PARENT_LOSS: the best alternate takes over, or the node holds over (R45, R46). -/
def execParentLoss (s : State) : Out :=
  act s (match s.tm.parent with
    | none => s.smIgnored
    | some p => s.portGone p)

/-! ### External time (R48, R49, R50) -/

/-- PPS_IN_EDGE: both tiles timestamp the edge; while the node is its own source it disciplines the servo (R48). -/
def execPpsInEdge (s : State) : Out :=
  act s (
    let e := s.ns
    let s := { s with tm := { s.tm with ppsEdge := some (e * 65536), ppsAge := 0, cls := 0 } }
    let s := s.chooseGm
    if s.on TM_STATUS_VALID ∧ s.tm.parent = none then
      s.servo ((((e + 500000000) % 1000000000 : Nat) - 500000000 : Int) * 2 ^ 32) 2
    else s)

/-- The TAI seconds `sec` of the edge stamped `e` (2^-16 ns): before VALID they set fabric time; a valid clock moves by whole
seconds, and its offset within the second is the servo's (R39, R48). -/
def State.todStep (s : State) (sec e : Nat) : State :=
  if !s.on TM_STATUS_VALID then
    (s.put TM_STATUS_SOURCE 2).stepTime ((sec : Int) * 1000000000 * 2 ^ 32 - (e : Int) * 2 ^ 16) true
  else
    let d : Int := (sec : Int) - ((e / 65536 + 500000000) / 1000000000 : Nat)
    if d = 0 then s else s.stepTime (d * 1000000000 * 2 ^ 32) false

/-- TIME_SET_TOD (R48). -/
def execTimeSetTod (mb sec : Nat) (s : State) : Out :=
  act s (s.runCmd mb 0x0801 (fun _ s =>
    if 2 ^ 48 ≤ sec then s.refuse mb 0 0
    else match s.tm.ppsEdge with
    | none => s.refuse mb 1 0
    | some e =>
      if 900000000 < s.tm.ppsAge then s.refuse mb 1 0
      else
        (s.todStep sec e).ok mb []))

/-- TIME_ADJUST: a step by `v` units of 2^-16 ns, or a write of TM_RATE.ADJ (R50). -/
def execTimeAdjust (mb : Nat) (rate : Bool) (v : Int) (s : State) : Out :=
  act s (s.runCmd mb 0x0802 (fun _ s =>
    if rate then
      (if v < -(2 ^ 31) ∨ 2 ^ 31 ≤ v then s.refuse mb 0 0 else (s.put TM_RATE_ADJ (fromSigned 32 (clampI (-858993) 858993 v))).ok mb [])
    else (s.stepTime (v * 2 ^ 16) false).ok mb []))

/-- TIME_PTP_TS returns a port's timestamp queue (R50). -/
def execTimePtpTs (mb p : Nat) (s : State) : Out :=
  act s (s.runCmd mb 0x0804 (fun _ s =>
    if 128 ≤ p then s.refuse mb 0 0
    else s.okQuery mb ((s.tm.ptpq.filter (fun e => e.1 == p)).flatMap (fun e => e.2.1 :: timeWords e.2.2))))

/-! ### Frame switches (R57, R58) -/

/-- The anchor, period and phase that a switch at `n` brings (R57). -/
def State.loadSwitch (s : State) (n : Nat) : State :=
  let c := s.switchSched n
  let s := (s.put TM_FRAME_PERIOD_NS s.nextPer).put TM_FRAME_PHASE_NS s.nextPhase
  ({ s with tm := { s.tm with t0 := c.t0.toNat, f0 := c.f0.toNat, swS := none } }).put TM_FRAME_CTL_SWITCH_ARMED 0

/-- Arms a switch at frame `n`, or refuses it with SWITCH_BAD (R57). The switch brings the values that NEXT_PERIOD and
NEXT_PHASE hold now, whatever is written to them later (assumption log 84). -/
def State.armSwitch (s : State) (n : Nat) : State :=
  let per := clampN 8000 4096000 (s.get TM_FRAME_NEXT_PERIOD_NS)
  let ph := min (s.get TM_FRAME_NEXT_PHASE_NS) (per - 1)
  let s := match s.tm.swS with | some k => if (k : Int) ≤ s.tm.hdl then s.loadSwitch k else s | none => s
  let d : Int := (per : Int) + ph - s.framePhase
  if s.fired n ∨ d < 8000 ∨ 4096000 < d then
    ({ s with tm := { s.tm with swS := none } }.put TM_STATUS_SWITCH_BAD 1).put TM_FRAME_CTL_SWITCH_ARMED 0
  else ({ s with tm := { s.tm with swS := some n, swPer := per, swPhase := ph } }).put TM_FRAME_CTL_SWITCH_ARMED 1

/-- The first admitted stream or enabled program that a period fails: its reason of Table 6-6, 0 if none (R55, R58). -/
def State.periodFail (s : State) (per : Nat) : Nat :=
  let w := s.sch.adm.map (fun a => s.winFail per (s.sch.adm.filter (fun o => o != a)) a (if s.recPort a.r then s.portLists a.r.outPort else []))
  match w.find? (· ≠ 0) with
  | some f => f
  | none => if (List.range 96).any (fun k => s.on (FP_CTL_EN (k / 8) (k % 8)) && decide (per <
      s.get (FP_START_NS (k / 8) (k % 8)) + s.get (FP_EST_NS (k / 8) (k % 8)) + s.get (FP_WEIR_NS (k / 8) (k % 8)))) then 2 else 0

/-- FRAME_SET (R58). A period or phase outside its range is refused (assumption log 8). -/
def execFrameSet (mb per ph frame : Nat) (s : State) : Out :=
  act s (s.runCmd mb 0x0803 (fun _ s =>
    if per < 8000 ∨ 4096000 < per ∨ per ≤ ph ∨ 2 ^ 64 ≤ frame then s.refuse mb 0 0
    else
      let f := s.periodFail per
      if f ≠ 0 then s.refuse mb (f + 16) 0
      else
        let s := (s.put TM_FRAME_NEXT_PERIOD_NS per).put TM_FRAME_NEXT_PHASE_NS ph
        let s := ((s.wr R_TM_FRAME_SWITCH_LO frame).wr R_TM_FRAME_SWITCH_HI (frame / 2 ^ 32)).armSwitch frame
        if s.on TM_FRAME_CTL_SWITCH_ARMED then s.ok mb [] else s.refuse mb 1 0))

/-! ### Timebase tiles (R61 to R64, R406) -/

/-- The node has no timebase: it acts as while TCLK is down (R406). -/
def State.tbLost (s : State) : State := { s with tm := { s.tm with tclk := false } }

/-- The active tile fails with DETAIL code `d`; `both` when the other tile fails in the same cycle (R62, R406). -/
def State.tbFail (s : State) (d : Nat) (both : Bool) : State :=
  let a := s.get TM_STATUS_TB_ACTIVE
  let s := s.put TM_STATUS_TB_FAULT 1
  if both ∨ s.tm.retired.contains (1 - a) then
    (({ s with tm := { s.tm with retired := [0, 1] } }).fault 8 a 4).tbLost
  else
    (({ s with tm := { s.tm with retired := [a] } }).put TM_STATUS_TB_ACTIVE (1 - a)).fault 8 a d

def execTbCheckerFire (both : Bool) (s : State) : Out := act s (if s.tm.retired.length = 2 then s.smIgnored else s.tbFail 1 both)

/-- TB_DIVERGE: counted, and the standby tile is reloaded from the active one (R63). -/
def execTbDiverge (s : State) : Out :=
  act s (if !s.tm.retired.isEmpty ∨ !s.tm.tclk then s.smIgnored
    else ((s.count C_TM_TB_DIVERGE).put TM_STATUS_TB_FAULT 1).fault 8 (1 - s.get TM_STATUS_TB_ACTIVE) 3)

/-- TIME_TB_RESYNC: the retired tile returns as the standby (R63). Both tiles lost return only at cold reset. -/
def execTimeTbResync (mb : Nat) (s : State) : Out :=
  act s (s.runCmd mb 0x0805 (fun _ s =>
    if s.tm.retired.length = 2 then s.refuse mb 0 0 else ({ s with tm := { s.tm with retired := [] } }).ok mb []))

/-- AREF_TRIM_WINDOW: 2^25 AREF cycles took `len` units of 2^-16 ns of fabric time (R64). The trim is rounded down to a
whole ppb (assumption log 85). -/
def execArefTrimWindow (len : Nat) (s : State) : Out :=
  act s (if !s.tm.tclk then s.smIgnored
    else
      let nom : Int := 2 ^ 25 * 40 * 65536
      s.put TM_AREF_TRIM_PPB (fromSigned 32 (((len : Int) - nom) * 1000000000 / nom)))

/-! ### Neighbours (R130, R132, R134 to R136) -/

/-- The case of R135 that a Hello meets, the lowest reason where it meets several (assumption log 109); 0 if none. -/
def State.helloFail (s : State) (p node tier set : Nat) : Nat :=
  let own := s.get RTE_NODE_CFG_TIER
  if tier = own then 1
  else if node = s.node then 2
  else if own ≠ 0 ∧ tier ≠ 0 ∧ set ≠ s.get RTE_NODE_CFG_SET then 3
  else if node ≠ s.pget LNK_PARTNER_NODE p then 4
  else 0

/-- Is the link of a port up: trained, and not lost since (Table 9-10)? -/
def State.linkIsUp (s : State) (p : Nat) : Bool :=
  s.lst p == lkACTIVE || s.lst p == lkRETRAIN || s.lst p == lkEIDLE

/-- What a Hello says goes to PTc_PORTk_NBR (R134). -/
def State.helloRecord (s : State) (p node tier set : Nat) : State :=
  (((s.pput PORT_NBR_NODE p node).pput PORT_NBR_TIER p tier).pput PORT_NBR_SET p set).pput PORT_NBR_VALID p 1

/-- The class of the port after a Hello that was recorded: REFUSED with its reason, or UP or DOWN (R130, R135). The Boolean is
that the Hello is valid. -/
def State.helloClass (s : State) (p node tier set : Nat) : Bool × State :=
  let f := s.helloFail p node tier set
  if f ≠ 0 then (false, (s.pput PORT_NBR_DIR p 3).pput PORT_NBR_REASON p f)
  else (true, s.pput PORT_NBR_DIR p (if s.get RTE_NODE_CFG_TIER < tier then 1 else 2))

/-- A Hello on a link that is up (Table 5-1). One that differs from NBR flushes the port by R284 with the link left in its
state (assumption log 54); a held port takes none. -/
def State.helloIn (s : State) (p : Nat) (k : Pkt) : State :=
  let w := (k.data.getD 0 0).toNat
  let node := bits w 0 12
  let tier := bits w 12 2
  let set := bits w 14 1
  let same := s.pget PORT_NBR_NODE p == node && s.pget PORT_NBR_TIER p == tier && s.pget PORT_NBR_SET p == set
  if !s.linkIsUp p then s
  else if s.nbr p = nbrROUTABLE then
    if same then s else (((s.lnkFlush p false false).helloRecord p node tier set).helloClass p node tier set).2
  else if s.nbr p = nbrUNROUTABLE then
    let (ok, s) := (s.helloRecord p node tier set).helloClass p node tier set
    if ok then s.setNbr p nbrROUTABLE else s
  else s

/-- HELLO (R134 to R136). -/
def execHello (p : Nat) (s : State) : Out :=
  act s (match s.takeOwn p (fun k => k.kind == kMGMT) with
    | (none, s) => s
    | (some (_, k), s) => s.helloIn p k)

/-- HELLO_INTERVAL_EXPIRY (R134). -/
def execHelloIntervalExpiry (p : Nat) (s : State) : Out := act s (if s.isRunnel p && s.linkIsUp p then s.hello p else s.smIgnored)

/-- MGMT_PACKET: CX takes a program's report; a unit for which the manual defines no management code discards the
packet (R78, R220). -/
def execMgmtPacket (t : Nat) (s : State) : Out :=
  act s (match s.takeArrived t (fun k => k.kind == kMGMT) with
    | (none, s) => s.smIgnored
    | (some k, s) => if t = cxTile ∧ k.addr % 65536 = 0x10 then s.takeReport k else s)

end Sys2Proof.Machine
end

