-- ==== Sys2Proof/Machine/Guards.lean ====
section
/-! DEFINITION. Guard rule sets, the sluice, locks and their commands (R338 to R352). -/

namespace Sys2Proof.Machine

/-- Is guard `n` covered by a set lock bit (Table 12-4)? -/
def State.guardLocked (s : State) (n : Nat) : Bool := (lockGroup (R_GD_SWAP n)).any (fun g => bit (s.get SC_LOCK_GROUPS) g)

/-- GO: the inactive set becomes active, and the accesses checked under the other set are what the fence counts (R344, R345). -/
def State.swapGuard (s : State) (n : Nat) : State :=
  (s.put (GD_STAT_ACTIVE n) (1 - s.activeSet n)).showFence n

/-- Sets lock bits; reserved bits are ignored (R346). -/
def State.setLocks (s : State) (v : Nat) : State := s.put SC_LOCK_GROUPS (s.get SC_LOCK_GROUPS ||| v % 128)

/-! ### GUARD_LOAD (R352) -/

/-- A region of a GUARD_LOAD body: number, BASE and CTL. -/
abbrev RgnArg := Nat × Nat × Nat

def rgnOf (x : RgnArg) : Rgn := ⟨x.2.1, bits x.2.2 8 6, x.2.2⟩

/-- Do two regions overlap? -/
def rgnMeet (a b : Rgn) : Bool := decide (a.base < b.base + 2 ^ b.size ∧ b.base < a.base + 2 ^ a.size)

/-- Index of the first enabled region of a body that meets an earlier enabled one. -/
def rgnsMeet : List Rgn → Nat → List Rgn → Option Nat
  | _, _, [] => none
  | seen, i, a :: r =>
    if bit a.ctl 0 then (if seen.any (rgnMeet a) then some i else rgnsMeet (a :: seen) (i + 1) r) else rgnsMeet seen (i + 1) r

/-- The reason for which a set is refused and the first region of the body that fails it; 0 if none. -/
def rgnsFail (l : List RgnArg) : Nat × Nat :=
  let g := l.map rgnOf
  match g.findIdx? (fun x => bit x.ctl 0 && !decide (6 ≤ x.size ∧ x.size ≤ 48)) with
  | some i => (1, i)
  | none => match g.findIdx? (fun x => bit x.ctl 0 && decide (x.base % 2 ^ x.size ≠ 0)) with
    | some i => (2, i)
    | none => match rgnsMeet [] 0 g with
      | some i => (3, i)
      | none => (0, 0)

def State.writeRgn (s : State) (n st r base ctl : Nat) : State :=
  let b := rgnBase n st r
  ((s.wr b (base % 2 ^ 32 / 64 * 64)).wr (b + 4) (base / 2 ^ 32)).wr (b + 8) (ctl &&& 0x3F1F)

/-- Writes the whole inactive set: unlisted regions are disabled. -/
def State.writeSet (s : State) (n ctl : Nat) (l : List RgnArg) : State :=
  let st := 1 - s.activeSet n
  let s := s.forEach (List.range 16) (fun r u => u.writeRgn n st r 0 0)
  (s.forEach l (fun x u => u.writeRgn n st x.1 x.2.1 x.2.2)).wr (R_GD_SCTL n st) (ctl % 16)

def execGuardLoad (mb n ctl : Nat) (rgns : List RgnArg) (s : State) : Out :=
  act s (s.runCmd mb 0x0901 (fun _ s =>
    if 30 ≤ n ∨ 16 ≤ ctl then s.refuse mb 0 0
    else match rgns.findIdx? (fun x => decide (16 ≤ x.1 ∨ 2 ^ 64 ≤ x.2.1 ∨ 2 ^ 14 ≤ x.2.2)) with
    | some i => s.refuse mb 0 i
    | none =>
      if s.guardLocked n then s.lockedMb mb n
      else
        let f := rgnsFail rgns
        if f.1 ≠ 0 then s.refuse mb f.1 f.2 else (s.writeSet n ctl rgns).ok mb []))

/-! ### GUARD_SWAP (R352) -/

/-- GUARD_SWAP; FLAGS bit 0 is WAIT, with a limit in µs. -/
def execGuardSwap (mb mask limit : Nat) (s : State) : Out :=
  act s (s.runCmd mb 0x0902 (fun c s =>
    let ns := (List.range 30).filter (bit mask)
    if 2 ^ 30 ≤ mask ∨ (bit c.flags 0 ∧ (limit = 0 ∨ 1000000 < limit)) then s.refuse mb 0 0
    else match ns.find? (fun n => s.guardLocked n) with
    | some n => s.lockedMb mb n
    | none => match ns.find? (fun n => !s.on (GD_FENCE_DONE n)) with
      | some n => s.busy mb n
      | none =>
        let s := s.forEach ns (fun n u => u.swapGuard n)
        if bit c.flags 0 then s.park mb (.guardSwap mask) else s.ok mb []))

/-- The limit of a GUARD_SWAP with WAIT passes: the swaps stand (R352). -/
def execGuardSwapLimitExpiry (mb : Nat) (s : State) : Out :=
  act s (match s.openCmd mb with
    | none => s.smIgnored
    | some c => match c.wait with
      | some (.guardSwap _) => s.reply mb mTIMEOUT 0 0 0 []
      | _ => s.smIgnored)

/-- GUARD_QUERY; FLAGS bit 0 clears VALID. -/
def execGuardQuery (mb n : Nat) (s : State) : Out :=
  act s (s.runCmd mb 0x0903 (fun c s =>
    if 30 ≤ n then s.refuse mb 0 0
    else
      let body := [s.rd (R_GD_STAT n), s.rd (R_GD_FENCE n), s.rd (R_GD_FIRST0 n), s.rd (R_GD_FIRST1 n), s.rd (R_GD_FIRST2 n),
        s.rd (R_GD_FIRST3 n), s.rd (R_GD_FIRST4 n)] ++ s.ctr2 (C_GD_VIOL n) ++ s.ctr2 (C_GD_SPLIT n)
      if bit c.flags 0 then (s.put (GD_FIRST2_VALID n) 0).ok mb body else s.okQuery mb body))

/-- LOCK_SET (R347). -/
def execLockSet (mb bits_ : Nat) (s : State) : Out :=
  act s (s.runCmd mb 0x0904 (fun _ s => if 2 ^ 32 ≤ bits_ then s.refuse mb 0 0 else (s.setLocks bits_).ok mb []))

def execScQuery (mb : Nat) (s : State) : Out :=
  act s (s.runCmd mb 0x0905 (fun _ s => s.okQuery mb ([s.rd R_SC_LIFECYCLE, s.rd R_SC_LOCK, s.rd R_SC_DBG_CTL,
    s.rd R_SC_DBG_DENY0, s.rd R_SC_DBG_DENY1] ++ s.ctr2 C_SC_DBG_DENY_CNT)))

end Sys2Proof.Machine
end

