-- ==== Sys2Proof/Machine/Firmware.lean ====
section
/-! DEFINITION. The Wellhead's image store, boot, restart and live update (R396 to R402, R454). -/

namespace Sys2Proof.Machine

/-! ### States of the Wellhead (R392, R398) -/

/-- The Wellhead enters a state; WH_UP shows UP, and its rise sets UP_EVT in both mailboxes. -/
def State.setWh (s : State) (st : Nat) : State :=
  let was := s.whState
  let s := s.put GLB_WH_STAT_STATE st
  s.forEach [0, 1] (fun m u =>
    (u.put (MB_STAT_WH_UP m) (b2n (st = whUP))).putIf (st == whUP && was != whUP) (MB_STAT_UP_EVT m) 1)

/-- UPD of GLB_WH_STAT (Table 14-15). -/
def uIDLE : Nat := 0
def uOPEN : Nat := 1
def uVERIFIED : Nat := 2
def uARMED : Nat := 3
def uHANDOVER : Nat := 4

def State.upd (s : State) : Nat := s.get GLB_WH_STAT_UPD

/-- The slot an update writes: the one GLB_BOOT.ACTIVE does not name (R400). -/
def State.updSlot (s : State) : Nat := 1 - s.get GLB_BOOT_ACTIVE

/-- Mailboxes whose command is RUNNING or PARKED. -/
def State.openMbs (s : State) : List Nat :=
  [0, 1].filter (fun m => s.get (MB_STAT_STATE m) == mbRUNNING || s.get (MB_STAT_STATE m) == mbPARKED)

/-- The Wellhead logic is reset: its barrier is abandoned, READY clears, no image runs (R246, R399). -/
def State.whReset (s : State) : State :=
  let s := (s.put GLB_WH_CTL_READY 0).whBarDrop
  { s with wh := { s.wh with accq := [], ram := [], entered := false } }

/-- The Wellhead stops: steps 1 to 4 of R399. -/
def State.whStop (s : State) : State :=
  let s := s.setWh whRESTARTING
  ((s.forEach s.openMbs (fun m u => u.abortMb m)).freeSems 2).whReset

/-- A restart of the Wellhead, counted (R399). Its boot follows as WH_BOOT. -/
def State.whRestart (s : State) : State := (s.whStop.count C_GLB_WH_RESTARTS).put GLB_EVT_LATCH_WH_RESTART 1

/-- A restart with a class 7 record: 1 watchdog, 2 lockstep, 3 RESTART (Table 15-1). -/
def State.whFault (s : State) (detail flags : Nat) : State := (s.logFault 7 0 detail flags).whRestart

/-! ### Images (Tables 14-8 and 14-8a) -/

/-- An image as the checks find it: the reason of the first check that fails, 0 if it passes. -/
structure Img where
  reason : Nat
  ver    : Nat
  signed : Bool
  load   : Nat
  jfmt   : Nat
  body   : List Nat
  deriving DecidableEq, Repr

def slotBase (slot : Nat) : Nat := slot * 0x100000

/-- A bank that the image store lies in: whether it serves, after the wake of a sleeping one. The boot ROM and the firmware reach
the image store at its banks, without packets (assumption log 104). -/
def State.imgBank (s : State) (b : Nat) : Bool × State :=
  let d := 16 + b
  if s.dom d = dON ∨ s.bankBack d then (true, s)
  else if s.on (PW_DOM_CFG_NO_WAKE d) ∧ s.dom d ≠ dWAKING ∧ !s.shedBank d then (false, s.count (C_PW_DOM_ASLEEP d))
  else (true, s.castVote d (PW_DOM_VOTE_TRAFFIC d) 1)

/-- The image store reads one part, from the copy if the primary fails (R192, R396). -/
def State.imgPart (s : State) (a n : Nat) : List Nat × Status × State :=
  match s.cisDecode a false false with
  | .at_ r copy part _ =>
    let c := s.readCopy r copy part
    let (awake, s) := s.imgBank (bankOf c)
    if !awake then ([], .targetAsleep, s)
    else
      let (bs, st, s) := s.bankRead c n
      match copy, part with
      | some m, some q =>
        if (st = .poisoned ∨ st = .retired) ∧ c = r ∧ !(s.on (PART_STAT_DEGRADED q) && s.on (PART_STAT_LOST q)) then
          let s := (s.count C_CT_MIRROR_REREAD).doIf (st == .retired) (·.loseCopy q 0)
          let (bs, st, s) := s.bankRead m n
          (bs, st, s.doIf (st == .retired) (·.loseCopy q 1))
        else (bs, st, s)
      | _, _ => (bs, st, s)
  | _ => ([], .unsupported, s)

/-- Reads `n` bytes of the image store, with the first status that is not OK. -/
def State.imgRead (s : State) (a n : Nat) : List Nat × Status × State :=
  (pageParts a n).foldl (fun (acc : List Nat × Status × State) p =>
    let (bs, st, u) := acc.2.2.imgPart p.1 p.2
    (acc.1 ++ bs, firstBad acc.2.1 st, u)) ([], .ok, s)

/-- Writes one part of the image store, to both copies of a mirrored partition: OK if either takes it (R192). -/
def State.imgWritePart (s : State) (a : Nat) (bs : List Nat) : Status × State :=
  match s.cisDecode a true false with
  | .at_ r copy part _ =>
    let (awake, s) := s.imgBank (bankOf r)
    if !awake then (.targetAsleep, s)
    else
      (s.writeCopies r copy part).foldl (fun (acc : Status × State) c =>
        let (st, u) := acc.2.bankWrite c bs false none
        let u := match part with
          | some q => u.doIf (st == .retired && copy.isSome) (·.loseCopy q (if c = r then 0 else 1))
          | none => u
        (if st = .ok ∨ acc.1 = .ok then .ok else st, u)) (.retired, s)
  | _ => (.unsupported, s)

def State.imgWrite (s : State) (a : Nat) (bs : List Nat) : Status × State :=
  (pageParts a bs.length).foldl (fun (acc : Status × State) p =>
    let (st, u) := acc.2.imgWritePart p.1 ((bs.drop (p.1 - a)).take p.2)
    (firstBad acc.1 st, u)) (.ok, s)

/-- Dword `i` of a header. -/
def hdrDw (h : List Nat) (i : Nat) : Nat := ofLeBytes ((h.drop (4 * i)).take 4)

/-- Checks 1 and 2: MAGIC, FORMAT and lengths. -/
def imgFrame (h : List Nat) : Nat :=
  if hdrDw h 0 ≠ 0x4F465749 ∨ hdrDw h 1 ≠ 1 then 1
  else if hdrDw h 3 % 64 ≠ 0 ∨ 458752 < hdrDw h 3 ∨ 0x80000 < hdrDw h 4 + hdrDw h 3 then 2
  else 0

/-- Checks 4 and 5 (R397): an unsigned image passes in OPEN alone. -/
def State.imgSigned (s : State) (h body : List Nat) : Nat :=
  let key := (h.drop 160).take 96
  if !bit (hdrDw h 6) 0 then (if s.get SC_LIFECYCLE_STATE = 0 then 0 else 4)
  else if s.wh.keyHash ≠ some (bytesWords (Config.sha384 key)) then 4
  else if !Config.ecdsaOk (h.take 64 ++ body) ((h.drop 64).take 96) key then 5
  else 0

/-- Checks 6 and 7: the fuse minimum and the journal format in use. -/
def State.imgVersion (s : State) (h : List Nat) : Nat :=
  let old := match s.wh.minMajor with | none => true | some m => decide (hdrDw h 2 / 65536 < m)
  let jmin := bits (hdrDw h 6) 16 8
  let jfmt := bits (hdrDw h 6) 8 8
  if old then 6 else if s.wh.jfmt ≠ 0 ∧ (s.wh.jfmt < jmin ∨ jfmt < s.wh.jfmt) then 7 else 0

/-- The first of some reasons that is not 0. -/
def firstReason : List Nat → Nat
  | [] => 0
  | a :: r => if a ≠ 0 then a else firstReason r

/-- The image in a slot, checked in the order of Table 14-8. A read that fails is a failed FORMAT or CRC check. -/
def State.image (s : State) (slot : Nat) : Img × State :=
  let x := s.imgRead (slotBase slot) 256
  let h := x.1
  let r := if x.2.1 = .ok then imgFrame h else 1
  if r ≠ 0 then (⟨r, 0, false, 0, 0, []⟩, x.2.2)
  else
    let y := x.2.2.imgRead (slotBase slot + 256) (hdrDw h 3)
    let b := y.1
    let s := y.2.2
    let crc := if y.2.1 = .ok ∧ crc64 b = hdrDw h 8 + hdrDw h 9 * 2 ^ 32 then 0 else 3
    (⟨firstReason [crc, s.imgSigned h b, s.imgVersion h], hdrDw h 2, bit (hdrDw h 6) 0, hdrDw h 4, bits (hdrDw h 6) 8 8, b⟩, s)

/-- A slot's image has passed: its version shows, and UNSIGNED where it carries no signature. -/
def State.imgPass (s : State) (slot : Nat) (i : Img) : State :=
  (s.wr (if slot = 0 then R_GLB_FW_VER_A else R_GLB_FW_VER_B) i.ver).putIf (!i.signed) GLB_WH_STAT_UNSIGNED 1

/-- Verifies a slot and enters its image if it passes: the reason and the state after. -/
def State.bootSlot (s : State) (slot : Nat) : Nat × State :=
  let x := s.image slot
  if x.1.reason ≠ 0 then (x.1.reason, x.2)
  else
    let s := x.2.imgPass slot x.1
    (0, { s with wh := { s.wh with ram := memWrite [] x.1.load x.1.body, imgFmt := x.1.jfmt, entered := true, booted := true } })

/-- No slot passes: HALTED, with a class 7 record (R398). -/
def State.whHalt (s : State) : State := (s.setWh whHALTED).fault 7 0 4

/-- The boot ROM tries BOOT_SLOT, then the other slot (R398 steps 1 and 2). -/
def State.boot (s : State) : State :=
  let f := s.get GLB_WH_CTL_BOOT_SLOT
  let x := s.bootSlot f
  if x.1 = 0 then x.2.put GLB_BOOT_ACTIVE f
  else
    let y := (x.2.put GLB_WH_STAT_BOOT_ERR x.1).bootSlot (1 - f)
    if y.1 = 0 then (y.2.put GLB_BOOT_ACTIVE (1 - f)).put GLB_WH_STAT_FALLBACK 1 else y.2.whHalt

/-- PD_WH runs. -/
def State.whOn (s : State) : Bool := decide (s.dom 60 ≤ dDRAINING)

/-- WH_BOOT (R398): a Wellhead that waits to boot verifies and enters an image. -/
def execWhBoot (s : State) : Out :=
  act s (if (s.whState ≠ whBOOTING ∧ s.whState ≠ whRESTARTING) ∨ s.wh.imgWait ∨ s.wh.entered ∨ !s.whOn then s.smIgnored else s.boot)

/-- READY is written by the Wellhead (R398 step 3, Table 14-10): the journal takes the image's format, and the state is UP. -/
def State.whReady (s : State) : State :=
  if !s.wh.entered ∨ s.whState = whUP then s
  else
    let s := s.put GLB_WH_CTL_READY 1
    let s := { s with wh := { s.wh with jfmt := if s.wh.jfmt = 0 then 0 else s.wh.imgFmt } }
    let s := if s.upd = uHANDOVER ∧ s.wh.hoBoot then
        let s := (s.put GLB_BOOT_ACTIVE (1 - s.wh.oldSlot)).put GLB_WH_STAT_UPD uIDLE
        { s with wh := { s.wh with hoBoot := false } }
      else s
    s.setWh whUP

/-- HB is written by the Wellhead: the watchdog restarts (R399). -/
def State.heartbeat (s : State) : State :=
  let now := s.ns
  { s with wh := { s.wh with hbAt := now } }

/-- Instant (ns) at which the watchdog expires. -/
def State.wdtAt (s : State) : Nat := s.wh.hbAt + max 1 (s.get GLB_WH_WDT_MS) * 1000000

/-- Does Wellhead logic run, so that its watchdog and its lockstep checker can act? -/
def State.whRuns (s : State) : Bool := s.whState != whHALTED && !s.wh.imgWait && s.whOn

/-- WH_LOCKSTEP_FAULT (R399). -/
def execWhLockstepFault (s : State) : Out := act s (if !s.whRuns then s.smIgnored else s.whFault 2 0)

/-- IMG_DONE acts: BOOT_SLOT takes IMG_SLOT, and the boot may start (R454). -/
def State.imgDone (s : State) (slot : Nat) : State :=
  let s := s.put GLB_WH_CTL_BOOT_SLOT slot
  { s with wh := { s.wh with imgWait := false, imgHeld := none, imgSlot := slot } }

/-- RESTART is written by a control port; during the wait for IMG_DONE it starts the boot as IMG_DONE would (R399, R454). -/
def State.restartWrite (s : State) : State := if s.wh.imgWait then s.imgDone s.wh.imgSlot else s.whFault 3 0

/-- IMAGE_LOAD_WRITE (R454): a 64-bit word of the image store in bank 0. -/
def execImageLoadWrite (slot addr lo hi : Nat) (s : State) : Out :=
  fin (if !s.wh.imgReady ∨ !s.wh.imgWait ∨ 2 ≤ slot ∨ 2 ^ 17 ≤ addr then s
    else
      let s := { s with wh := { s.wh with imgSlot := slot } }
      (s.bankWrite (slotBase slot + addr * 8) (leBytes 4 lo ++ leBytes 4 hi) false none).2)

/-- IMAGE_LOAD_DONE (R454): before IMG_READY it is held. -/
def execImageLoadDone (slot : Nat) (s : State) : Out :=
  fin (if !s.wh.imgWait ∨ 2 ≤ slot then s
    else if !s.wh.imgReady then { s with wh := { s.wh with imgHeld := some slot } }
    else s.imgDone slot)

/-! ### Live update (R400, Table 14-10) -/

/-- The handover begins: doorbells are answered UNAVAILABLE and WH_UP clears. -/
def State.hoStart (s : State) : State :=
  let s := (s.setWh whHANDOVER).put GLB_WH_STAT_UPD uHANDOVER
  let old := s.get GLB_BOOT_ACTIVE
  { s with wh := { s.wh with armS := none, oldSlot := old, hoBoot := false } }

/-- An armed handover whose frame has come starts at a tick of number `n` (R59, Table 14-10). -/
def State.hoTick (s : State) (n : Int) : State :=
  match s.wh.armS with
  | some k => if s.upd = uARMED ∧ (k : Int) ≤ n then s.hoStart else s
  | none => s

def execUpdateBegin (mb : Nat) (s : State) : Out :=
  act s (s.runCmd mb 0x0A01 (fun _ s =>
    if s.upd ≠ uIDLE then s.busy mb 0
    else if s.on (PART_CTL_SEAL 0) then s.lockedMb mb 0
    else (s.put GLB_WH_STAT_UPD uOPEN).ok mb []))

/-- Image bytes land at an offset of the target slot. -/
def State.updateWrite (s : State) (mb offset : Nat) (data : List Nat) : State :=
  if s.upd ≠ uOPEN ∧ s.upd ≠ uVERIFIED then s.busy mb 0
  else if 0x100000 < offset + data.length then s.refuse mb 0 0
  else
    let x := s.imgWrite (slotBase s.updSlot + offset) data
    let s := x.2.put GLB_WH_STAT_UPD uOPEN
    if x.1 = .ok then s.ok mb [] else if x.1 = .locked then s.lockedMb mb 0 else s.reply mb mFABRIC x.1.code 0 0 []

/-- UPDATE_WRITE: a prefix of 16 bytes with OFFSET in its dword 0, then the image bytes. -/
def execUpdateWrite (mb offset : Nat) (data : List Nat) (s : State) : Out :=
  act s (s.runCmd mb 0x0A02 (fun c s =>
    let b := s.cmdBody mb c.len
    if b.getD 0 0 = offset ∧ (b.drop 4).flatMap (leBytes 4) = data then s.updateWrite mb offset data else s.smIgnored))

/-- UPDATE_VERIFY (R397). -/
def execUpdateVerify (mb : Nat) (s : State) : Out :=
  act s (s.runCmd mb 0x0A03 (fun _ s =>
    if s.upd ≠ uOPEN then s.busy mb 0
    else
      let x := s.image s.updSlot
      if x.1.reason ≠ 0 then x.2.refuse mb x.1.reason 0
      else ((x.2.imgPass s.updSlot x.1).put GLB_WH_STAT_UPD uVERIFIED).ok mb []))

/-- Why UPDATE_ACTIVATE is refused: 1 TOO_SOON, 2 NOT_VERIFIED, 3 NO_TICK, 0 if it passes. -/
def State.activateFail (s : State) (frame : Nat) : Nat :=
  let now := s.ticking || frame != 0
  if now ∧ frame < (s.tm.last.getD 0) + 16 then 1
  else if s.upd ≠ uVERIFIED then 2
  else if frame ≠ 0 ∧ !s.ticking then 3
  else 0

def State.updateActivate (s : State) (mb frame : Nat) : State :=
  let f := s.activateFail frame
  if f ≠ 0 then s.refuse mb f 0
  else if s.ticking then
    let s := s.put GLB_WH_STAT_UPD uARMED
    ({ s with wh := { s.wh with armS := some frame } }).ok mb []
  else (s.ok mb []).hoStart

/-- UPDATE_ACTIVATE carries S in 8 bytes. -/
def execUpdateActivate (mb frame : Nat) (s : State) : Out :=
  act s (s.runCmd mb 0x0A04 (fun c s =>
    let b := s.cmdBody mb c.len
    if b.getD 0 0 + b.getD 1 0 * 2 ^ 32 = frame then s.updateActivate mb frame else s.smIgnored))

def execUpdateCancel (mb : Nat) (s : State) : Out :=
  act s (s.runCmd mb 0x0A05 (fun _ s =>
    let u := s.upd
    let s' := { s with wh := { s.wh with armS := none } }
    if u = uOPEN then (s'.put GLB_WH_STAT_UPD uIDLE).ok mb []
    else if u = uVERIFIED ∨ u = uARMED then (s'.put GLB_WH_STAT_UPD uVERIFIED).ok mb []
    else s.busy mb 0))

def execUpdateStatus (mb : Nat) (s : State) : Out :=
  act s (s.runCmd mb 0x0A06 (fun _ s => s.okQuery mb [s.upd]))

/-- A boot that failed leaves its reason in GLB_WH_STAT. -/
def bootNoted (x : Nat × State) : State := if x.1 = 0 then x.2 else x.2.put GLB_WH_STAT_BOOT_ERR x.1

/-- A boot that failed halts the Wellhead. -/
def bootOrHalt (x : Nat × State) : State := if x.1 = 0 then x.2 else x.2.whHalt

/-- HANDOVER_BOOT: every open command is answered; the target slot boots. -/
def execHandoverBoot (s : State) : Out :=
  act s (if s.upd ≠ uHANDOVER ∨ s.wh.hoBoot ∨ !s.openMbs.isEmpty then s.smIgnored
    else
      let t := 1 - s.wh.oldSlot
      let s := (s.put GLB_WH_CTL_BOOT_SLOT t).whReset
      let s := { s with wh := { s.wh with hoBoot := true } }
      bootNoted (s.bootSlot t))

/-- HANDOVER_CANCEL_TIMEOUT: commands are still open 10 ms after S. -/
def execHandoverCancelTimeout (s : State) : Out :=
  act s (if s.upd ≠ uHANDOVER ∨ s.wh.hoBoot ∨ s.openMbs.isEmpty then s.smIgnored
    else ((s.put GLB_WH_STAT_CANCELLED 1).put GLB_WH_STAT_UPD uVERIFIED).setWh whUP)

/-- HANDOVER_FALLBACK: the old slot boots. -/
def execHandoverFallback (s : State) : Out :=
  act s (if s.upd ≠ uHANDOVER ∨ !s.wh.hoBoot then s.smIgnored
    else
      let s := ((s.whReset).put GLB_WH_STAT_FALLBACK 1).put GLB_WH_STAT_UPD uIDLE
      let s := { s with wh := { s.wh with hoBoot := false } }
      bootOrHalt (s.bootSlot s.wh.oldSlot))

/-! ### Queries (R395) -/

/-- CAPS: the manual names the figures and gives no encoding, so the words are free (assumption log 17). -/
def execCaps (mb : Nat) (s : State) : Out :=
  act s (s.runCmd mb 0x0102 (fun _ s =>
    let (ws, s) := s.freeList 17
    s.okQuery mb (ws.map (·.toNat))))

/-- FW_LOG: what the firmware logs is its own; the words are free (assumption log 17). -/
def execFwLog (mb : Nat) (s : State) : Out :=
  act s (s.runCmd mb 0x0104 (fun _ s =>
    let (ws, s) := s.freeList 16
    s.okQuery mb (ws.map (·.toNat))))

end Sys2Proof.Machine
end

