-- ==== Sys2Proof/Machine/Drain.lean ====
section
/-! DEFINITION. Posted data in the NIs: what a warm reset and a domain's entry wait for, and its discard (R252 to R254,
R360, R407). -/

namespace Sys2Proof.Machine

/-! ### What the NIs of some tiles hold (R253, R254); `on` says of which tiles -/

/-- Is a packet that an NI holds before injection accepted? One that its master has not handed over is not (R251). -/
def drains (h : Held) : Bool := h.why != .reset && pktClass h.pkt == 0

def State.postedKept (s : State) (on : Nat → Bool) : List Kept := s.mesh.kept.filter (fun k => on k.tile && pktClass k.pkt == 0)
def State.postedHeld (s : State) (on : Nat → Bool) : List Held := s.mesh.held.filter (fun h => on h.tile && drains h)

/-- Posted TC7 packets that an NI has not injected whole. -/
def uninjected (on : Nat → Bool) (f : Flight) : Bool := on f.src && !f.ret && pktClass f.pkt == 0 && decide (f.out < pktFlits f.pkt)

/-- Posted packets in the class queues of the ports of a tile. -/
def queuedPosted (on : Nat → Bool) (x : QEnt) : Bool := on (ptTile (portC x.port)) && pktClass x.pkt == 0

/-- Posted packets in ingress storage, whole and not in spill. -/
def storedPosted (on : Nat → Bool) (x : InPkt) : Bool := on (ptTile (portC x.port)) && x.done && x.spill.isNone && pktClass x.pkt == 0

/-- Accepted posted TLPs behind a barrier. -/
def waitPosted (on : Nat → Bool) (w : WaitTlp) : Bool := on (ptTile (portC w.port)) && w.taken

/-- Number of posted packets that the NIs hold: retention stores, injection buffers, stream hold buffers, plume buffers, the
posted data of engines, egress class queues and ingress storage. -/
def State.postedCount (s : State) (on : Nat → Bool) : Nat :=
  (s.postedKept on).length + (s.postedHeld on).length + (s.mesh.fly.filter (uninjected on)).length
    + (s.sch.shold.filter (fun h => on h.tile)).length + (s.kt.plume.filter (fun x => on x.1)).length
    + (s.kt.scat.filter (fun x => on (ktTile x.job.e))).length + (s.sch.eq_.filter (queuedPosted on)).length
    + (s.lnk.inq.filter (storedPosted on)).length + (s.pc.wait.filter (waitPosted on)).length

/-! ### Discards -/

/-- A packet leaves the mesh where it is: its flits free their buffers, and the VCs it holds are free. -/
def State.pullFlight (s : State) (id : Nat) : State :=
  let gone := s.mesh.rbuf.filter (fun f => f.id == id)
  let s := { s with mesh := { s.mesh with
    fly := s.mesh.fly.filter (fun f => f.id != id)
    rbuf := s.mesh.rbuf.filter (fun f => f.id != id)
    owner := s.mesh.owner.filter (fun e => e.2 != id) } }
  s.forEach gone (fun f u => u.creditUp (feedKey f.plane f.tile f.inp f.vc))

/-- A retained packet is discarded: its copy on the mesh goes with it. -/
def State.dropKept (s : State) (k : Kept) : State :=
  let same (f : Flight) : Bool := f.ret && f.id == k.id
  let s := if s.mesh.fly.any same then (s.pullFlight k.id).resLeave k.pkt else s
  ((s.inflight (tileDomain k.dtile) false).guardRetire k.guard).showRetain k.tile

/-- A TC7 packet that its NI has not injected whole is discarded. -/
def State.dropFlight (s : State) (f : Flight) : State := ((s.pullFlight f.id).resLeave f.pkt).inflight (tileDomain f.dtile) false

/-- A packet in an egress class queue is discarded. -/
def State.dropQueued (s : State) (x : QEnt) : State :=
  (if s.portKind x.port = kindRunnel then s.resLeave x.pkt else s).showDepth x.port x.q

/-- Fences whose NI keeps nothing more of their sequence are over. -/
def State.dropFences (s : State) : State :=
  let live (f : Fence) : Bool := s.mesh.kept.any (fun k => k.tile == f.tile && k.dtile == f.dtile && k.vc == f.vc && k.plane == f.from_)
  { s with mesh := { s.mesh with fences := s.mesh.fences.filter live } }

/-- Discards the posted data that the NIs hold. -/
def State.discardPosted (s : State) (on : Nat → Bool) : State :=
  let ks := s.postedKept on
  let hs := s.postedHeld on
  let fs := s.mesh.fly.filter (uninjected on)
  let ws := s.sch.shold.filter (fun h => on h.tile)
  let qs := s.sch.eq_.filter (queuedPosted on)
  let is := s.lnk.inq.filter (storedPosted on)
  let s := { s with mesh := { s.mesh with
    kept := s.mesh.kept.filter (fun k => !(on k.tile && pktClass k.pkt == 0))
    held := s.mesh.held.filter (fun h => !(on h.tile && drains h)) } }
  let s := { s with sch := { s.sch with
    shold := s.sch.shold.filter (fun h => !on h.tile)
    eq_ := s.sch.eq_.filter (fun x => !queuedPosted on x) } }
  let s := { s with kt := { s.kt with
    plume := s.kt.plume.filter (fun x => !on x.1)
    scat := s.kt.scat.filter (fun x => !on (ktTile x.job.e)) } }
  let s := { s with
    lnk := { s.lnk with inq := s.lnk.inq.filter (fun x => !storedPosted on x) }
    pc := { s.pc with wait := s.pc.wait.filter (fun w => !waitPosted on w) } }
  let s := ((s.forEach ks (fun k u => u.dropKept k)).forEach hs (fun h u => u.dropHeld h)).forEach fs (fun f u => u.dropFlight f)
  let s := (s.forEach ws (fun h u => u.guardRetire h.guard)).forEach qs (fun x u => u.dropQueued x)
  (s.forEach is (fun x u => (u.freeIngress x).resLeave x.pkt)).dropFences

/-! ### A domain's NIs (R254, R360, R407) -/

/-- Tiles whose NI lies in a domain. -/
def domTiles (d : Nat) : List Nat := niTiles.filter (fun t => tileDomain t == d)

/-- Is nothing of the domain under way: INFLIGHT 0, nothing posted or retained at its NIs, nothing delivered that a unit has not
acted on, reorder buffers empty (Table 13-4)? -/
def State.drained (s : State) (d : Nat) : Bool :=
  let on := (domTiles d).contains
  s.get (PW_DOM_STAT_INFLIGHT d) == 0 && s.postedCount on == 0
    && !s.mesh.kept.any (fun k => on k.tile)
    && !s.mesh.held.any (fun h => on h.tile && pktClass h.pkt == 0)
    && !s.mesh.arrived.any (fun x => on x.1)
    && !s.req.ro.any (fun e => on (e.1 / 65536) && e.2.st == 1)

/-- What the NIs of a domain and the ports of its cluster hold is lost. After a loss of supply posted packets count (Table 8-5a);
a domain that has drained holds none. -/
def State.niLost (s : State) (d : Nat) : State :=
  let on := (domTiles d).contains
  let port (p : Nat) : Bool := decide (d < 16) && p / 8 == d
  let n := s.postedCount on
  let s := (s.discardPosted on).bump (C_PW_DOM_ASLEEP d) n
  let ks := s.mesh.kept.filter (fun k => on k.tile)
  let hs := s.mesh.held.filter (fun h => on h.tile)
  let qs := s.sch.eq_.filter (fun x => port x.port)
  let out := (s.lnk.keep.filter (fun k => port k.port)).flatMap (·.tails)
    ++ (s.lnk.ports.filter (fun e => port e.1)).flatMap (fun e => e.2.txq.map (·.pkt))
    ++ (s.lnk.inq.filter (fun x => port x.port)).map (·.pkt)
  let s := { s with mesh := { s.mesh with
    kept := s.mesh.kept.filter (fun k => !on k.tile)
    held := s.mesh.held.filter (fun h => !on h.tile)
    arrived := s.mesh.arrived.filter (fun x => !on x.1)
    rcpts := s.mesh.rcpts.filter (fun r => !on r.tgt)
    fences := s.mesh.fences.filter (fun f => !on f.tile)
    iseq := s.mesh.iseq.filter (fun e => !on (e.1 / 1024))
    egr := s.mesh.egr.filter (fun e => !on (e.1 / 1024))
    elimWin := s.mesh.elimWin.filter (fun e => !on (e.1 / 1024))
    elimSpan := s.mesh.elimSpan.filter (fun e => !on (e.1 / 1024))
    transit := s.mesh.transit.filter (fun e => !on e.1)
    aged := s.mesh.aged.filter (fun e => !on e.1)
    epochSeen := s.mesh.epochSeen.filter (fun e => !on (e.1 / 4096)) } }
  let s := { s with sch := { s.sch with eq_ := s.sch.eq_.filter (fun x => !port x.port) } }
  let s := { s with lnk := { s.lnk with
    keep := s.lnk.keep.filter (fun k => !port k.port)
    inq := s.lnk.inq.filter (fun x => !port x.port) } }
  let s := { s with req := { s.req with
    ro := s.req.ro.filter (fun e => !on (e.1 / 65536))
    roNext := s.req.roNext.filter (fun e => !on e.1)
    roFree := s.req.roFree.filter (fun e => !on e.1)
    roWait := s.req.roWait.filter (fun w => !on w.tile)
    accs := s.req.accs.filter (fun a => !on a.tile)
    ready := s.req.ready.filter (fun a => !on a.tile) } }
  let s := { s with
    ord := { s.ord with flows := s.ord.flows.filter (fun f => !on f.1), bars := s.ord.bars.filter (fun b => !on b.tile), orders := s.ord.orders.filter (fun o => !on o.tile), locs := s.ord.locs.filter (fun x => !on x.2.1) }
    pc := { s.pc with ctx := s.pc.ctx.filter (fun c => !on c.tile) } }
  let s := (s.forEach ks (fun k u => u.dropKept k)).forEach hs (fun h u => u.dropHeld h)
  (s.forEach qs (fun x u => u.dropQueued x)).forEach out (fun k u => u.resLeave k)

/-- What else the PT of cluster `c` keeps is lost: schedules in use, link and port records, time records. -/
def State.ptLost (s : State) (c : Nat) : State :=
  let port (p : Nat) : Bool := p / 8 == c
  let key (k : Nat) : Bool := port (k / 8)
  let s := { s with sch := { s.sch with
    run := s.sch.run.filter (fun x => !port x.port)
    staged := s.sch.staged.filter (fun e => !(match decodeOffset e.1 with | some r => r.dom == c | none => false))
    fqTag := s.sch.fqTag.filter (fun e => !key e.1)
    fqV := s.sch.fqV.filter (fun e => !port e.1)
    fqOk := s.sch.fqOk.filter (fun k => !key k)
    refAt := s.sch.refAt.filter (fun e => !key e.1)
    accN := s.sch.accN.filter (fun e => !(match decodeOffset e.1 with | some r => r.dom == c | none => false))
    gclS := s.sch.gclS.filter (fun e => !port e.1)
    tseq := s.sch.tseq.filter (fun e => !port e.1)
    tmax := s.sch.tmax.filter (fun e => !key e.1)
    telAt := s.sch.telAt.filter (fun p => !port p) } }
  let s := { s with lnk := { s.lnk with
    ports := s.lnk.ports.filter (fun e => !port e.1)
    near := s.lnk.near.filter (fun e => !port e.1)
    charged := s.lnk.charged.filter (fun e => !key e.1)
    cum := s.lnk.cum.filter (fun e => !key e.1)
    granted := s.lnk.granted.filter (fun e => !key e.1)
    spillAt := s.lnk.spillAt.filter (fun e => !key e.1) } }
  let s := { s with pc := { s.pc with
    tags := s.pc.tags.filter (fun o => !port o.port)
    dpc := s.pc.dpc.filter (fun e => !port e.1)
    credit := s.pc.credit.filter (fun e => !key e.1)
    wait := s.pc.wait.filter (fun w => !port w.port)
    back := s.pc.back.filter (fun x => !port x.1) } }
  { s with tm := { s.tm with
    exch := s.tm.exch.filter (fun e => !port e.1)
    xseq := s.tm.xseq.filter (fun e => !port e.1)
    ptpq := s.tm.ptpq.filter (fun e => !port e.1) } }

/-- What else engine `e` keeps is lost. -/
def State.ktLost (s : State) (e : Nat) : State :=
  let prog (k : Nat) : Bool := k / 8 == e
  { s with
    kt := { s.kt with
      ls := s.kt.ls.filter (fun c => c.1 / 0x40000 != e)
      lsBad := s.kt.lsBad.filter (fun w => w / 0x8000 != e)
      queue := s.kt.queue.filter (fun j => j.e != e)
      prog := s.kt.prog.filter (fun x => x.1 / 256 != e)
      run := s.kt.run.filter (fun r => r.e != e)
      yielded := s.kt.yielded.filter (fun r => r.e != e)
      due := s.kt.due.filter (fun k => !prog k)
      outcome := s.kt.outcome.filter (fun x => !prog x.1)
      sig := s.kt.sig.filter (fun x => !prog x.1)
      shadow := s.kt.shadow.filter (fun x => x.1 != e)
      shRan := s.kt.shRan.filter (· != e)
      deficit := s.kt.deficit.filter (fun x => x.1 / 64 != e)
      drrAt := s.kt.drrAt.filter (fun x => x.1 != e)
      fpPl := s.kt.fpPl.filter (fun x => !prog x.1) }
    sch := { s.sch with
      ktAcc := s.sch.ktAcc.filter (fun x => x.1 / 1024 != e)
      ktSeq := s.sch.ktSeq.filter (fun x => x.1 / 1024 != e) }
    bsn := { s.bsn with
      cache := s.bsn.cache.filter (fun x => x.1 != e) } }

/-- What else bank `b` keeps is lost. -/
def State.bankLost (s : State) (b : Nat) : State :=
  let mine (a : Nat) : Bool := a / 0x400000 == b
  { s with cis := { s.cis with
    mem := s.cis.mem.filter (fun c => !mine c.1)
    poison := s.cis.poison.filter (fun e => !mine (8 * e.1))
    soft := s.cis.soft.filter (fun e => !mine (8 * e.1))
    rowOut := s.cis.rowOut.filter (fun e => e.1 != b)
    rowCe := s.cis.rowCe.filter (fun e => !mine (128 * e.1))
    scrub := s.cis.scrub.filter (fun e => e.1 != b) } }

end Sys2Proof.Machine
end

