-- ==== Sys2Proof/Machine/Power.lean ====
section
/-! DEFINITION. Power domains, clocks, performance levels, supply sag, thermal limits and the loss of a supply (R354 to
R379, R406, R407, R450). Timers of the power controller are events; a row checks the state its event needs
(assumption log 23). -/

namespace Sys2Proof.Machine

/-! ### Dependency votes (Table 13-3) -/

/-- Does some register between two offsets satisfy a test on its offset and value? Registers at reset satisfy none. -/
def State.someReg (s : State) (lo hi : Nat) (f : Nat → Nat → Bool) : Bool :=
  s.regs.any (fun e => decide (lo ≤ e.1 ∧ e.1 < hi) && f e.1 e.2.toNat)

/-- A port of cluster `c` that is enabled or held, or whose slot sequencer runs. -/
def State.depPt (s : State) (c : Nat) : Bool :=
  (List.range 8).any (fun k => s.on (LNK_CTL_EN c k) || s.on (PCFG_EN c k) || s.on (LNK_STAT_HELD c k))
    || s.someReg 0x2000 0x3000 (fun off w => off % 0x40 == 0 && bits w 0 7 / 8 == c && s.get (SLOT_STAT_STATE ((off - 0x2000) / 0x40)) != 0)

/-- Something that keeps bank `b` on: a partition of a kept use, an object, a trace ring, a quota, a dirty-log buffer. -/
def State.depCt (s : State) (b : Nat) : Bool :=
  let meets (a n : Nat) : Bool := rangesMeet (bankBase b) 0x400000 a n
  (List.range 32).any (fun n => s.on (PART_CTL_EN n) && [1, 2, 4, 5].contains (s.get (PART_CTL_USE n)) && meets (s.partBase n) (s.partEnd n - s.partBase n))
    || (List.range 64).any (fun n => s.on (SNAP_CTL_EN n) && meets (s.snapBase n) (s.snapBufs n * 2 ^ s.snapSize n))
    || (List.range 16).any (fun r => s.on (TL_CTL_EN r) && meets (s.rd64 (R_TL_BASE_LO r)) (2 ^ clampN 12 24 (s.get (TL_CTL_SIZE r))))
    || s.someReg 0x600000 0x700000 (fun off w => off % 0x400 == 0 && bits w 0 2 == bACTIVE &&
        (let k := (off - 0x600000) / 0x400
         meets (s.get (BSN_QBASE_BASE k) * 65536) (s.get (BSN_QSIZE_UNITS k) * 65536)
          || (s.on (LOG_EN k) && (meets (s.logBuf k 0) (s.logBytes k) || meets (s.logBuf k 1) (s.logBytes k)))))

/-- Engine `e` is enabled and has work, a program or a basin's queue. -/
def State.depKt (s : State) (e : Nat) : Bool :=
  s.on (KT_CTL_EN e) && (s.kt.queue.any (fun j => j.e == e) || s.kt.run.any (fun r => r.e == e) || s.kt.yielded.any (fun r => r.e == e)
    || (List.range 8).any (fun p => s.on (FP_CTL_EN e p))
    || s.someReg 0x600000 0x700000 (fun off w => decide (0x40 ≤ off % 0x400 ∧ off % 0x400 < 0xC0) && off % 16 == 0 && bit w 10 && bits w 0 4 == e))

/-- The DEP vote of a domain (Table 13-3). -/
def State.depOf (s : State) (d : Nat) : Bool :=
  if d < 16 then s.depPt d
  else if d < 40 then s.depCt (d - 16)
  else if d < 52 then s.depKt (d - 40)
  else if d = 60 then !s.wh.cmds.isEmpty
  else if d = 61 then (List.range 16).any (fun r => s.on (TL_CTL_EN r)) || s.someReg 0x104000 0x200000 (fun off w =>
      decide (0x4000 ≤ off % 0x10000 ∧ off % 0x10000 < 0x4800) && off % 0x100 == 0x20 && bit w 0)
  else false

/-- The power controller looks at the hardware votes of a domain: DEP, and TRAFFIC while a packet is held for it. -/
def State.syncVotes (s : State) (d : Nat) : State :=
  let held := s.mesh.held.any (fun h => h.why == .domain d)
  let s := if s.depOf d then s.castVote d (PW_DOM_VOTE_DEP d) 4 else s.dropVote d (PW_DOM_VOTE_DEP d)
  if s.dom d = dON ∧ !held then s.dropVote d (PW_DOM_VOTE_TRAFFIC d) else s

/-- PW_DOMd_VOTE as it reads: DEP follows the hardware. -/
def State.voteWord (s : State) (d : Nat) : Nat :=
  let w := insBits (s.rd (R_PW_DOM_VOTE d)) 10 1 (b2n (s.depOf d))
  insBits w 16 3 (popcount (w &&& voteMask) 16)

/-! ### Entry (R360, R361, R366) -/

/-- The targets in order of depth: ON, CLKSTOP, RETAINED, OFF. -/
def tgON : Nat := 0
def tgCLKSTOP : Nat := 1
def tgRETAINED : Nat := 2
def tgOFF : Nat := 3

/-- The target that an entry takes: the shallower choices of R366 during full retention, RETAINED for a shed bank. -/
def State.targetOf (s : State) (d : Nat) : Nat :=
  let t := s.get (PW_DOM_CFG_TARGET d)
  if 52 ≤ d ∧ d < 60 then tgOFF
  else if s.pw.shed.contains d then tgRETAINED
  else if s.pw.full = 0 then t
  else if s.on (PW_DOM_VOTE_DEP d) then tgRETAINED
  else if t = tgOFF then tgOFF else tgRETAINED

/-- Does domain `d` hold locked or sealed state (code 3 of Table 13-5)? -/
def State.lockHeld (s : State) (d : Nat) : Bool :=
  if d < 16 then s.guardLocked d
  else if d < 40 then (List.range 32).any (fun n => s.on (PART_CTL_SEAL n) &&
      rangesMeet (bankBase (d - 16)) 0x400000 (s.partBase n) (s.partEnd n - s.partBase n))
  else if d < 52 then s.guardLocked (d - 24)
  else d == 60 && s.guardLocked 28

/-- The first refuser that applies (Table 13-5), 0 if none. -/
def State.refuser (s : State) (d : Nat) : Nat :=
  let keep := s.get PW_CTL_DBG_KEEP_MS
  let dbg : Bool := match tget s.pw.dbgAt d with | some a => decide (s.ns ≤ a + keep * 1000000) | none => false
  let hot := toSigned 12 (s.get PW_THERM_STAT_MAX)
  let anyValid := (List.range 16).any (fun n => s.on (PW_TS_VALID n))
  if keep ≠ 0 ∧ dbg then 2
  else if s.targetOf d = tgOFF ∧ s.lockHeld d then 3
  else if s.targetOf d = tgRETAINED ∧ anyValid ∧ (4 * clampN 60 125 (s.get PW_THERM_CFG_RET_MAX) : Int) < hot then 5
  else if bit (s.rd R_PW_WH_HOLD_LO + s.rd R_PW_WH_HOLD_HI * 2 ^ 32) d then 6
  else if d = domCore ∧ (s.on TM_FRAME_CTL_SWITCH_ARMED ∨ (tget s.regs R_TM_AREF_TRIM).isNone ∨ !s.tm.retired.isEmpty) then 7
  else 0

/-- The domain begins entry: ingress NIs close it, and the reservations of a bank go (R250). -/
def State.closeDom (s : State) (d : Nat) : State :=
  (if 16 ≤ d ∧ d < 40 then s.resLoseBank (d - 16) else s).setDom d dCLOSING

/-- A bank without a DEP vote enters RETAINED under SAG2 shedding, whatever other votes say (Table 13-4). -/
def State.shedEntry (s : State) (d : Nat) : State :=
  ({ s with pw := { s.pw with shed := d :: s.pw.shed.filter (· ≠ d) } }).closeDom d

def allNiDoms : List Nat := List.range 52 ++ [61]

/-- Is a domain in CLKSTOP, RETAINED or OFF? -/
def State.asleep (s : State) (d : Nat) : Bool := decide (dCLKSTOP ≤ s.dom d ∧ s.dom d ≤ dOFF)

/-- May full retention take domain `d` now? PD_WH goes last, and PD_CORE after the planes and their quadrants. -/
def State.fullTurn (s : State) (d : Nat) : Bool :=
  if d < 52 ∨ d = 61 then true
  else if d = 60 then allNiDoms.all (fun x => s.asleep x) && s.wh.cmds.isEmpty
  else if d = domCore then (List.range 62).all (fun x => s.asleep x)
  else s.votes d == 0

/-- Full retention stops at a domain that refuses; otherwise a refusal leaves the domain ON (R360, R366). -/
def State.refuseEntry (s : State) (d code : Nat) : State :=
  let s := s.ledger d code 0
  { s with pw := { s.pw with full := 0 } }

/-- PD_CORE sleeps: TCLK stops at an AREF edge and the ledger runs (R64, R366). -/
def State.coreSleep (s : State) : State :=
  let s := s.setDom domCore dRETAINED
  { s with tm := { s.tm with tclk := false, entryAt := some s.tm.now }, pw := { s.pw with full := 2 } }

/-- When every NI domain is asleep in full retention, both planes go OUT without fault (R366). -/
def State.fullPlanes (s : State) : State :=
  if s.pw.full = 1 ∧ (60 :: allNiDoms).all (fun x => s.asleep x) then
    s.forEach [0, 1] (fun p u => if u.plane p = pIN ∧ !u.mesh.kept.any (fun k => k.plane == p) then u.planeTo p pOUT else u)
  else s

/-- An attempt at entry of domain `d`. -/
def State.tryEntry (s : State) (d : Nat) : State :=
  let s := s.fullPlanes.syncVotes d
  let due := if s.pw.full = 1 then s.fullTurn d else decide (d < 62) && s.votes d == 0 && s.targetOf d != tgON
  if s.dom d ≠ dON ∨ s.pw.lost.contains d ∨ s.bankBack d then s.pwIgnored
  else if s.shedBank d then s.shedEntry d
  else if !due then s.pwIgnored
  else
    let r := s.refuser d
    if r ≠ 0 then s.refuseEntry d r
    else if d = domCore then s.coreSleep
    else s.closeDom d

/-- HYSTERESIS_EXPIRY: CNT has been 0 for HYST_US, or full retention takes its next domain (Table 13-4, R366). -/
def execHysteresisExpiry (d : Nat) (s : State) : Out := act s (if 63 ≤ d then s.smIgnored else s.tryEntry d)

/-- ENTRY_RETRY: RETRY_MS after a refusal (R360). -/
def execEntryRetry (d : Nat) (s : State) : Out := act s (if 62 ≤ d then s.smIgnored else s.tryEntry d)

/-- A step of an entry in state `st`: a dependency vote that is cast by now acts first, and abandons the entry (Table 13-4). -/
def State.entryStep (s : State) (d st : Nat) (f : State → State) : State :=
  if s.dom d ≠ st then s.pwIgnored
  else
    let u := s.syncVotes d
    if u.dom d = st then f u else u

/-- DOMAIN_CLOSED: every ingress NI has closed (Table 13-4). -/
def execDomainClosed (d : Nat) (s : State) : Out :=
  act s (if 62 ≤ d then s.smIgnored else s.entryStep d dCLOSING (fun s => s.setDom d dDRAINING))

/-- DOMAIN_DRAINED (Table 13-4). -/
def execDomainDrained (d : Nat) (s : State) : Out :=
  act s (if 62 ≤ d then s.smIgnored
    else s.entryStep d dDRAINING (fun s => if s.drained d then s.setDom d dISOLATED else s.pwIgnored))

/-- DRAIN_TIMEOUT (Table 13-4). -/
def execDrainTimeout (d : Nat) (s : State) : Out :=
  act s (if 62 ≤ d then s.smIgnored else if s.dom d = dDRAINING ∧ !s.bankBack d then s.abortEntry d 1 else s.pwIgnored)

/-! ### Loss of a domain's state (R360) -/

/-- Does a register lie in domain `d`? -/
def inDom (d off : Nat) : Bool := match decodeOffset off with | some p => p.dom == d | none => false

/-- The banks, engine or cluster of a domain that leaves power: registers at reset, arrays and queues empty. -/
def State.clearDom (s : State) (d : Nat) : State :=
  let s := s.niLost d
  let s := if d < 16 then s.ptLost d else if d < 40 then s.bankLost (d - 16) else if d < 52 then s.ktLost (d - 40) else s
  let s := { s with regs := s.regs.filter (fun e => !inDom d e.1), ctrs := s.ctrs.filter (fun e => !inDom d e.1) }
  if d = 60 then { s with wh := { s.wh with ram := [], whLost := true } } else s

/-- RETENTION_SAVE_DONE: the step out of ISOLATED that the target names (Table 13-4). -/
def execRetentionSaveDone (d : Nat) (s : State) : Out :=
  act s (if 62 ≤ d then s.smIgnored
    else s.entryStep d dISOLATED (fun s =>
      if s.bankBack d then s.setDom d dOFF else
      let to_ := if 52 ≤ d ∧ d < 60 then dOFF else if s.targetOf d = tgCLKSTOP then dCLKSTOP else dRETAINED
      let s := { s with pw := { s.pw with saved := s.pw.saved ++ [d] } }
      let s := if to_ = dOFF then (s.setDom d to_).clearDom d else s.setDom d to_
      (s.count (C_PW_DOM_ENTRIES d)).fullPlanes))

/-- RETENTION_TO_OFF: 1 µs after the save (Table 13-4). A shed bank stays RETAINED. -/
def execRetentionToOff (d : Nat) (s : State) : Out :=
  act s (if 62 ≤ d then s.smIgnored
    else if s.dom d = dRETAINED ∧ s.targetOf d = tgOFF then (s.setDom d dOFF).clearDom d else s.pwIgnored)

/-- DOMAIN_WAKE: a vote or a latched edge wake starts the wake of a sleeping domain (Table 13-4). -/
def execDomainWake (d : Nat) (s : State) : Out :=
  act s (if 62 ≤ d then s.smIgnored
    else if s.bankBack d then (if s.dom d = dOFF then s.setDom d dWAKING else s.pwIgnored)
    else
      let s := s.syncVotes d
      if !s.asleep d ∨ s.pw.full ≠ 0 ∨ s.pw.halted ∨ s.pw.lost.contains d then s.pwIgnored
      else if s.dom d = dRETAINED ∧ s.shedBank d ∧ !s.on (PW_DOM_VOTE_DEP d) then s.pwIgnored
      else if s.votes d = 0 ∧ !s.on (PW_DOM_VOTE_EDGE d) then s.pwIgnored
      else ({ s with pw := { s.pw with shed := s.pw.shed.filter (· ≠ d) } }).setDom d dWAKING)

/-- ENTRY_ABORT: a packet, a vote or an edge wake during entry (Table 13-4). -/
def execEntryAbort (d : Nat) (s : State) : Out :=
  act s (if 62 ≤ d then s.smIgnored
    else
      let code := if s.on (PW_DOM_VOTE_TRAFFIC d) then 1 else 4
      let s' := s.syncVotes d
      if s'.dom d ≠ s.dom d then s'
      else if s'.votes d = 0 ∨ (s.dom d ≠ dCLOSING ∧ s.dom d ≠ dDRAINING ∧ s.dom d ≠ dISOLATED) then s'.pwIgnored
      else s'.voteActs d code)

/-- The bank's words are written with valid check bits: its bytes are zeros, without errors. -/
def State.bankWipe (s : State) (b : Nat) : State :=
  let mine (a : Nat) : Bool := a / 0x400000 == b
  { s with cis := { s.cis with
    mem := s.cis.mem.filter (fun c => !mine c.1)
    poison := s.cis.poison.filter (fun e => !mine (8 * e.1))
    soft := s.cis.soft.filter (fun e => !mine (8 * e.1))
    rowOut := s.cis.rowOut.filter (fun e => e.1 != b)
    rowCe := s.cis.rowCe.filter (fun e => e.1 / 32768 != b) } }

/-- The restored domain is ON: ingress NIs reopen and release what they hold, and the edge latch clears. -/
def State.domUp (s : State) (d : Nat) : State :=
  let s := ((s.setDom d dON).put (PW_DOM_VOTE_EDGE d) 0)
  let s := { s with pw := { s.pw with saved := s.pw.saved.filter (· ≠ d), shed := s.pw.shed.filter (· ≠ d) } }
  let s := s.retry (fun h => h.why == .domain d)
  if s.mesh.held.any (fun h => h.why == .domain d) then s else s.dropVote d (PW_DOM_VOTE_TRAFFIC d)

/-- An edge wake (R362). -/
def State.edgeWake (s : State) (d : Nat) : State :=
  let st := s.dom d
  if s.asleep d then s.put (PW_DOM_VOTE_EDGE d) 1
  else if (st = dCLOSING ∨ st = dDRAINING) ∧ !s.bankBack d then s.abortEntry d 4
  else if st = dISOLATED then s
  else s.pwIgnored

/-- ACCESS_HOLD_EXPIRY (R359). -/
def execAccessHoldExpiry (d : Nat) (s : State) : Out :=
  act s (if 62 ≤ d then s.smIgnored
    else if s.on (PW_DOM_VOTE_ACCESS d) then s.dropVote d (PW_DOM_VOTE_ACCESS d) else s.pwIgnored)

/-! ### Votes and targets by command and by register (R359, Table 13-13) -/

/-- The software vote bit of an issuer: 0 Port A, 1 Port B, 2 the Wellhead. -/
def swVote (i d : Nat) : Fld := if i = 0 then PW_DOM_VOTE_SW_A d else if i = 1 then PW_DOM_VOTE_SW_B d else PW_DOM_VOTE_WH d

def State.setVote (s : State) (i d : Nat) (v : Bool) : State := if v then s.castVote d (swVote i d) 4 else s.dropVote d (swVote i d)

/-- CFG of a domain: quadrant domains keep their TARGET, and a write of ON during entry acts as a vote (R360). -/
def State.domCfg (s : State) (d v : Nat) : State :=
  let s := (s.put (PW_DOM_CFG_NO_WAKE d) (v / 4)).put (PW_DOM_CFG_WAKE_ON_ACCESS d) (v / 8)
  if 52 ≤ d ∧ d < 60 then s
  else
    let s := s.put (PW_DOM_CFG_TARGET d) (if d = domCore ∧ v % 4 ≠ 0 then tgRETAINED else v)
    if v % 4 = tgON then s.voteActs d 4 else s

/-- POWER_VOTE (R359). -/
def execPowerVote (mb mask : Nat) (set : Bool) (s : State) : Out :=
  act s (s.runCmd mb 0x0701 (fun _ s =>
    if 2 ^ 62 ≤ mask then s.refuse mb 0 0
    else (s.forEach ((List.range 62).filter (bit mask)) (fun d u => u.setVote mb d set)).ok mb []))

/-- POWER_DOMAIN_SET. -/
def execPowerDomainSet (mb mask cfg : Nat) (s : State) : Out :=
  act s (s.runCmd mb 0x0702 (fun _ s =>
    if 2 ^ 63 ≤ mask ∨ 16 ≤ cfg then s.refuse mb 0 0
    else (s.forEach ((List.range 63).filter (bit mask)) (fun d u => u.domCfg d cfg)).ok mb []))

/-! ### Performance levels (R368 to R371) -/

/-- MCLK in 10 MHz (Table 13-7). -/
def mclkOf (pl : Nat) : Nat := [150, 120, 84, 42].getD pl 42

/-- The VID code of a level with the fuses' offset (R368). -/
def State.vidOf (s : State) (pl : Nat) : Nat :=
  (([0x3C, 0x2C, 0x1C, 0x10].getD pl 0x10 : Int) + toSigned 4 (s.get PW_VID_OFS)).toNat % 256

/-- Is a level slower than the slowest of some, if there are any (R175, R223)? -/
def slowerThanAll (pl : Nat) (l : List Nat) : Bool := !l.isEmpty && l.all (fun x => decide (x < pl))

/-- Why a slower level is refused, or 0: it is slower than the slowest PL of the admitted streams (1) or of the enabled programs
(2), or spill would lack bandwidth (3) (R370). -/
def State.levelFail (s : State) (pl : Nat) : Nat :=
  if pl ≤ s.get PW_CTL_PL_REQ then 0
  else if slowerThanAll pl (s.admRecs.map (·.pl)) then 1
  else if slowerThanAll pl s.progPls then 2
  else if !s.spillBandOk (mclkOf pl) then 3
  else 0

/-- POWER_LEVEL (R370): FLAGS bit 0 of the response is LIMITED. -/
def execPowerLevel (mb pl : Nat) (s : State) : Out :=
  act s (s.runCmd mb 0x0703 (fun _ s =>
    if 4 ≤ pl then s.refuse mb 0 0
    else
      let f := s.levelFail pl
      if f ≠ 0 then s.refuse mb f 0
      else
        let s := (s.put PW_CTL_PL_REQ pl).ok mb []
        if pl < s.get PW_STAT_PL_LIMIT then s.put ⟨R_MB_RSP mb 0, 16, 16⟩ 1 else s))

/-- Sends a VID code (R371). -/
def State.sendVid (s : State) (code : Nat) : State := ((s.put PW_VID_CODE code).put PW_VID_ACK 0).send (.vid code)

/-- The four scaled clocks switch to their idle PLLs at a new level (R355, R369); the PLLs that fall idle are locked at PL2 only
when the change ends. -/
def State.switchClocks (s : State) (pl : Nat) : State :=
  (((s.put PW_STAT_PL_CUR pl).put PW_CLK_STAT_SEL (15 - s.get PW_CLK_STAT_SEL)).put PW_CLK_STAT_STBY_LOCK 0).showLimits

/-- LEVEL_CHANGE: the level in force differs from the one wanted (R369). -/
def execLevelChange (s : State) : Out :=
  act s (if s.pw.chg.isSome ∨ s.pw.halted ∨ s.pw.full = 2 ∨ s.wantPl = s.get PW_STAT_PL_CUR then s.pwIgnored
    else
      let n := s.wantPl
      let fast := decide (n < s.get PW_STAT_PL_CUR)
      let s := { s with pw := { s.pw with chg := some (n, fast) } }
      let s := s.put PW_STAT_CHANGING 1
      (s.doIf (!fast) (·.switchClocks n)).sendVid (s.vidOf n))

/-- VID_ACK (R369, R371). -/
def execVidAck (s : State) : Out :=
  fin (match s.pw.chg with
    | none => if s.on PW_VID_ACK then s.pwIgnored else s.put PW_VID_ACK 1
    | some (n, fast) =>
      let s := { s with pw := { s.pw with chg := none } }
      let s := (s.put PW_VID_ACK 1).doIf fast (·.switchClocks n)
      let s := s.put PW_CLK_STAT_STBY_LOCK (if n ≤ 1 then 15 else 0)
      (s.put PW_STAT_CHANGING 0).pwEvt 0)

/-- VID_TIMEOUT: a raise stops at the old level, a lowering keeps the new one (R371). -/
def execVidTimeout (s : State) : Out :=
  fin (match s.pw.chg with
    | none => s.pwIgnored
    | some _ => ((({ s with pw := { s.pw with chg := none } }).put PW_STAT_VID_FAULT 1).put PW_STAT_CHANGING 0).pwEvt 1)

/-! ### Safe-state, sag and forced retention (R372 to R374) -/

/-- Asserts safe-state for a cause: 1 forced retention, 2 T_CRIT, 4 loss of PD_CORE's supply. -/
def State.safeState (s : State) (cause : Nat) : State :=
  let s := (s.put PW_SAFE_CAUSE (s.get PW_SAFE_CAUSE ||| cause)).put PW_SAFE_ASSERTED 1
  { s with wh := { s.wh with safeOut := true } }

/-- A write of CLR clears the causes that have passed; safe-state ends with the last (R374). -/
def State.safeClr (s : State) : State :=
  let c := (if s.pw.halted ∧ !s.pw.lost.contains domCore then 1 else 0) + (if s.pw.crit then 2 else 0) + (if s.pw.lost.contains domCore then 4 else 0)
  let left := s.get PW_SAFE_CAUSE &&& c
  let s := (s.put PW_SAFE_CAUSE left).put PW_SAFE_ASSERTED (b2n (left ≠ 0))
  { s with wh := { s.wh with safeOut := decide (left ≠ 0) } }

/-- SAFE_CLEAR (R374). -/
def execSafeClear (mb : Nat) (s : State) : Out := act s (s.runCmd mb 0x0708 (fun _ s => s.safeClr.ok mb []))

/-- Ports that carry no admitted stream. -/
def State.idlePorts (s : State) : List Nat :=
  (List.range 128).filter (fun p => s.portKind p != 0 && !s.carries p &&
    !s.admRecs.any (fun r => r.role == 0 && r.inp == p))

/-- The actions of one stage (Table 13-8). -/
def State.sagStage (s : State) (n : Nat) : State :=
  let s := (s.put PW_STAT_SAG n).pwEvt (n + 1)
  if n = 1 then ({ s with kt := { s.kt with suspend := true } }).showLimits
  else if n = 2 then
    let s := s.forEach (List.range 128) (fun p u => if u.portKind p = 0 then u else u.put (GCL_STAT_SHED (portC p) (portK p)) 1)
    s.forEach (List.range 24) (fun b u =>
      let u := u.syncVotes (16 + b)
      if u.dom (16 + b) = dON ∧ u.shedBank (16 + b) ∧ !u.pw.lost.contains (16 + b) ∧ !u.bankBack (16 + b) then u.shedEntry (16 + b) else u)
  else
    s.forEach s.idlePorts (fun p u =>
      let u := { u with pw := { u.pw with idle := u.pw.idle ++ [p] } }
      if u.isRunnel p then
        let u := u.lkMap p (fun x => { x with idleOrd := true })
        if u.lst p = lkACTIVE then u.beginIdle p else u
      else if u.lstat p = lsACTIVE then { u with pw := { u.pw with l1Wait := u.pw.l1Wait ++ [p] } }
      else u)

/-- The stages up to `n` that are not in force, in order. -/
def State.sagTo (s : State) (n : Nat) : State :=
  s.forEach ((List.range 4).filter (fun k => decide (s.get PW_STAT_SAG < k ∧ k ≤ n))) (fun k u => u.sagStage k)

def execSag1 (s : State) : Out := act s (if 1 ≤ s.get PW_STAT_SAG then s.pwIgnored else s.sagTo 1)
def execSag2 (s : State) : Out := act s (if 2 ≤ s.get PW_STAT_SAG then s.pwIgnored else s.sagTo 2)
def execSag3 (s : State) : Out := act s (if 3 ≤ s.get PW_STAT_SAG then s.pwIgnored else s.sagTo 3)

/-- SHED_MISS_TIMEOUT: the partner of a PCI Express port has not entered L1 within 10 µs (Table 13-8). -/
def execShedMissTimeout (p : Nat) (s : State) : Out :=
  act s (if !s.pw.l1Wait.contains p then s.pwIgnored
    else
      let wait := s.pw.l1Wait.filter (· ≠ p)
      let idle := s.pw.idle.filter (· ≠ p)
      ({ s with pw := { s.pw with l1Wait := wait, idle := idle } }).count C_PW_SHED_MISS)

/-- TCLK stops at an AREF edge and the time ledger runs (R64). -/
def State.stopTime (s : State) : State :=
  if !s.tm.tclk then s else { s with tm := { s.tm with tclk := false, entryAt := some s.tm.now } }

/-- Every clock but AREF and SCLK stops, and the block holds (R373, R407). -/
def State.holdBlock (s : State) (cause : Nat) : State :=
  let s := ({ s with pw := { s.pw with halted := true, chg := none } }).stopTime
  (s.put PW_STAT_CHANGING 0).safeState cause

/-- FORCED_RETENTION: SAG3 held for T_SAG3_US, or VDD_FAB low (Table 13-8). -/
def execForcedRetention (low : Bool) (s : State) : Out :=
  fin (if s.pw.halted ∨ (s.get PW_STAT_SAG ≠ 3 ∧ !low) then s.pwIgnored
    else ((((s.holdBlock 1).put PW_STAT_FORCED_SEEN 1).pwEvt 5).sendVid 0))

/-! ### Fabric time from the ledger (R65, R406) -/

/-- Fabric time loads `now` (2^-32 ns); `slept` is the time passed in ns. Missed ticks count, the node holds over. -/
def State.loadTime (s : State) (now slept : Nat) : State :=
  let ticks := s.on TM_FRAME_CTL_EN && (s.on TM_STATUS_VALID || s.on TM_FRAME_CTL_FREE)
  let n := s.lastBefore ((now / 2 ^ 32 : Nat) + 1)
  let s := (s.doIf s.countsMissed (·.bump C_TM_MISSED_TICKS (n - s.tm.hdl).toNat)).doIf ticks (·.abortPrograms)
  let err := 32 + 16 * slept * clampN 1 10000 (s.get TM_SLEEP_UNC_PPB) / 1000000000
  let s := { s with tm := { s.tm with
    now := now, tclk := true, entryAt := none, hdl := max s.tm.hdl n, stepped := true, growing := true, holdFrac := 0, lockRun := 0, ppsAge := s.tm.ppsAge + slept } }
  let s := (((s.put TM_STATUS_HOLDOVER 1).put TM_STATUS_LOCKED 0).put TM_HOLD_ERR_ERR (min err 0xFFFFFFFF))
  s.holdGrow 0

/-- The active tile loads fabric time at an AREF edge after `n` ledger cycles (R65). -/
def State.ledgerLoad (s : State) (n : Nat) : State :=
  match s.tm.entryAt with
  | none => s
  | some t =>
    if s.tm.retired.length = 2 then s
    else
      let trim := toSigned 32 (s.get TM_AREF_TRIM_PPB)
      let gone := ((n : Int) * 40 * (1000000000 + trim) * 2 ^ 32 / 1000000000).toNat
      s.loadTime (t + gone) (gone / 2 ^ 32)

/-- The highest stage releases; `arefs` is the ledger's count when forced retention ends (R373, R374). -/
def State.sagRelease (s : State) (arefs : Nat) : State :=
  if s.pw.halted then
      (if s.pw.lost.contains domCore then s.pwIgnored
      else
        let s := { s with pw := { s.pw with halted := false } }
        let s := ((s.put PW_VID_CODE (s.vidOf s.wantPl)).put PW_VID_ACK 1).send (.vid (s.vidOf s.wantPl))
        (s.ledgerLoad arefs).pwEvt 6)
    else if s.pw.crit then s.pwIgnored
    else match s.get PW_STAT_SAG with
    | 0 => s.pwIgnored
    | 1 => ({ s.put PW_STAT_SAG 0 with kt := { s.kt with suspend := false } }).showLimits
    | 2 =>
      let s := s.put PW_STAT_SAG 1
      s.forEach (List.range 128) (fun p u => if u.on (GCL_STAT_SHED (portC p) (portK p)) then u.put (GCL_STAT_SHED (portC p) (portK p)) 0 else u)
    | _ =>
      let s' := s.put PW_STAT_SAG 2
      let s' := s'.forEach s.pw.idle (fun p u => u.lkMap p (fun x => { x with idleOrd := false }))
      { s' with pw := { s'.pw with idle := [], l1Wait := [] } }

/-! ### Thermal monitor (R375, Table 13-9) -/

def State.tWarn (s : State) : Int := 4 * clampN 60 115 (s.get PW_THERM_CFG_WARN)
def State.tHot (s : State) : Int := 4 * clampN 60 115 (s.get PW_THERM_CFG_HOT)
def State.tCrit (s : State) : Int := 4 * clampN 60 115 (s.get PW_THERM_CFG_CRIT)

/-- The hottest valid reading and its sensor. -/
def State.hottest (s : State) : Option (Int × Nat) :=
  (List.range 16).foldl (fun b n =>
    if !s.on (PW_TS_VALID n) then b
    else
      let v := toSigned 12 (s.get (PW_TS_TEMP n))
      match b with
      | none => some (v, n)
      | some x => if x.1 < v then some (v, n) else b) none

/-- Is the hottest reading above T_HOT, or every sensor invalid? -/
def State.isHot (s : State) : Bool := match s.hottest with | none => true | some x => decide (s.tHot < x.1)

/-- The flags of the thermal status and their events. -/
def State.showTherm (s : State) : State :=
  let (mx, sn, w, c) : Int × Nat × Bool × Bool := match s.hottest with
    | none => (0, 0, false, false)
    | some x => (x.1, x.2, decide (s.tWarn < x.1), decide (s.tCrit < x.1))
  let h := s.isHot
  let rise (f : Fld) (b : Bool) : Bool := b && !s.on f
  let (rw, rh, rc) := (rise PW_THERM_STAT_WARN w, rise PW_THERM_STAT_HOT h, rise PW_THERM_STAT_CRIT c)
  let s := (s.put PW_THERM_STAT_MAX (fromSigned 12 mx)).put PW_THERM_STAT_SENSOR sn
  let s := ((s.put PW_THERM_STAT_WARN (b2n w)).put PW_THERM_STAT_HOT (b2n h)).put PW_THERM_STAT_CRIT (b2n c)
  let s := ((s.doIf rw (·.pwEvt 7)).doIf rh (·.pwEvt 8)).doIf rc (·.pwEvt 9)
  if c ∧ !s.pw.crit then
    let s := { s with pw := { s.pw with crit := true, thLim := 3 } }
    ((s.safeState 2).sagTo 3).showLimits
  else s

/-- New thresholds act on the readings there are. -/
def State.newThresholds (s : State) : State := if s.hottest.isNone then s else s.showTherm

/-- THERMAL_SAMPLE: one reading of the sensors, in units of 0.25 °C; a sensor without trim is never valid (Table 18-4). -/
def execThermalSample (vals : List (Option Int)) (s : State) : Out :=
  act s ((s.forEach vals.zipIdx (fun x u =>
    match x.1 with
    | some v => if x.2 < 16 ∧ u.wh.tsTrim.getD x.2 true then (u.put (PW_TS_TEMP x.2) (fromSigned 12 v)).put (PW_TS_VALID x.2) 1 else u
    | none => u)).showTherm)

/-- THERMAL_LIMIT_STEP: one level slower after 1 ms above T_HOT, one faster after 10 ms below T_HOT − 5 °C. -/
def execThermalLimitStep (s : State) : Out :=
  act s (match s.hottest with
    | none => if s.pw.thLim = 3 then s else ({ s with pw := { s.pw with thLim := s.pw.thLim + 1 } }).showLimits
    | some x =>
      if s.tHot < x.1 then
        (if s.pw.thLim = 3 then s else ({ s with pw := { s.pw with thLim := s.pw.thLim + 1 } }).showLimits)
      else if x.1 < s.tHot - 20 then ({ s with pw := { s.pw with thLim := s.pw.thLim - 1, crit := false } }).showLimits
      else s.pwIgnored)

/-- SENSOR_TIMEOUT: a sensor without a valid reading for 1 ms is ignored (R375). -/
def execSensorTimeout (n : Nat) (s : State) : Out :=
  act s (if 16 ≤ n then s.smIgnored else ((s.put (PW_TS_VALID n) 0).put PW_THERM_STAT_SENSOR_ERR 1).showTherm)

/-- THERMAL_SET writes PW_THERM_CFG. -/
def execThermalSet (mb w : Nat) (s : State) : Out :=
  act s (s.runCmd mb 0x0707 (fun _ s => if 2 ^ 32 ≤ w then s.refuse mb 0 0 else ((s.wr R_PW_THERM_CFG w).newThresholds).ok mb []))

/-! ### Full retention (R366, R367) -/

/-- Is every link asleep, nothing admitted, no program enabled and no job about? -/
def State.fullOk (s : State) : Bool :=
  (List.range 128).all (fun p =>
    if s.portKind p = 0 then true
    else if s.isRunnel p then s.lst p == lkDISABLED || s.lst p == lkEIDLE
    else s.lstat p == lsDISABLED || s.pw.idle.contains p)
  && s.sch.adm.isEmpty && s.kt.queue.isEmpty && s.kt.run.isEmpty && s.kt.yielded.isEmpty
  && (List.range 96).all (fun k => !s.on (FP_CTL_EN (k / 8) (k % 8)))

/-- POWER_FULL_RET (R366). -/
def execPowerFullRet (mb : Nat) (s : State) : Out :=
  act s (s.runCmd mb 0x0704 (fun _ s =>
    if !s.fullOk then s.busy mb 0
    else
      let s := s.ok mb []
      { s with pw := { s.pw with full := 1 } }))

/-- A plane that full retention has taken OUT returns once its FCLK is locked (Table 4-5). -/
def State.planesExit (s : State) : State :=
  s.forEach [0, 1] (fun p u =>
    if u.plane p ≠ pOUT ∨ !u.on (planeReq p) ∨ u.on (planeFault p) then u
    else if bit (u.get PW_CLK_STAT_ON_FIO) p then { u with pw := { u.pw with exit := p :: u.pw.exit.filter (· != p) } }
    else u.planeReturn p)

/-- WAKE_IN: full retention ends; PD_CORE and PD_WH run on the FIO (Table 13-6a). -/
def execWakeIn (s : State) : Out :=
  fin (if s.pw.full = 0 ∨ s.pw.halted then s.pwIgnored
    else if s.pw.full = 1 then ({ s with pw := { s.pw with full := 0 } }).planesExit
    else
      let s := { s with pw := { s.pw with full := 0 } }
      let s := ((s.setDom domCore dON).put PW_CLK_STAT_ON_FIO 63).put PW_STAT_ON_FIO 1
      (if s.asleep 60 then s.setDom 60 dWAKING else s).planesExit)

/-! ### Clocks (R356, R406) -/

/-- Place in ON_FIO of a clock, by its place in Table 13-1. -/
def fioBit (i : Nat) : Option Nat :=
  if i = 0 then some 0 else if i = 1 then some 1 else if i = 18 then some 2 else if i = 19 then some 3
  else if i = 20 then some 4 else if i = 22 then some 5 else none

def clkTCLK : Nat := 21

def State.setFio (s : State) (b : Nat) (v : Bool) : State :=
  let s := s.put ⟨R_PW_CLK_STAT, 8 + b, 1⟩ (b2n v)
  s.put PW_STAT_ON_FIO (b2n (s.get PW_CLK_STAT_ON_FIO ≠ 0))

/-- PLL_LOCK: the clock returns from the FIO; TCLK loads fabric time after `arefs` ledger cycles; a plane whose clock is
locked again after full retention returns (R65, R356, R367, Table 4-5). -/
def execPllLock (i arefs : Nat) (s : State) : Out :=
  fin (if i = clkTCLK then (if s.tm.tclk ∨ s.pw.halted ∨ s.tm.entryAt.isNone then s.pwIgnored else s.ledgerLoad arefs)
    else match fioBit i with
    | none => s.pwIgnored
    | some b =>
      if !bit (s.get PW_CLK_STAT_ON_FIO) b then s.pwIgnored
      else
        let s := s.setFio b false
        if !s.pw.exit.contains i then s
        else
          let s := { s with pw := { s.pw with exit := s.pw.exit.filter (· != i) } }
          if s.plane i = pOUT ∧ s.on (planeReq i) ∧ !s.on (planeFault i) then s.planeReturn i else s)

/-- PLL_LOCK_LOSS: the clock switches to the FIO, with a class 9 record (R356). -/
def execPllLockLoss (i : Nat) (s : State) : Out :=
  fin (match fioBit i with
    | none => s.pwIgnored
    | some b => if bit (s.get PW_CLK_STAT_ON_FIO) b then s.pwIgnored else (s.setFio b true).fault 9 i 0)

/-- TCLK_LOCK_LOSS (R406). -/
def execTclkLockLoss (s : State) : Out :=
  fin (if !s.tm.tclk then s.pwIgnored else (s.fault 9 clkTCLK 0).stopTime)

/-! ### Loss of supply (R407, R450) -/

/-- What the loss does beyond the domain itself (Table 15-2). -/
def State.supplyEffect (s : State) (d : Nat) : State :=
  if d < 16 then
    s.forEach ((List.range 8).map (fun k => d * 8 + k)) (fun p u =>
      if u.isRunnel p then (if u.lst p = lkDISABLED then u else u.linkDown p)
      else if u.isDown p then u.contain p 1
      else if u.isHost p ∧ u.lstat p ≠ lsDISABLED then ((u.setLstat p lsTRAINING).dropPort p).hostGone p else u)
  else if d < 40 then s.bankFault (d - 16) 0
  else if d < 52 then (if s.ktState (d - 40) = ktFAULTED then s else s.engFault (d - 40) 1 0)
  else if d < 60 then (let p := (d - 52) / 4; if s.plane p = pOUT ∨ s.plane p = pFAILED then s else s.planeFail p 6 0)
  else if d = 60 then s.whStop
  else if d = domCore then s.holdBlock 4
  else s

/-- PFAIL sets, the domain is clamped and its state is lost (R407). -/
def State.supplyLost (s : State) (d : Nat) : State :=
  let s := (s.put (PW_DOM_STAT_PFAIL d) 1).fault 10 d 0
  let s := { s with pw := { s.pw with lost := s.pw.lost ++ [d] } }
  s.supplyEffect d

/-- SUPPLY_LOSS: the supply good of an ON domain falls (R407). -/
def execSupplyLoss (d : Nat) (s : State) : Out :=
  fin (if 63 ≤ d then s.smIgnored
    else if s.dom d ≠ dON ∨ s.pw.lost.contains d then s.pwIgnored
    else
      let s := s.supplyLost d
      if d = domCore then s else s.setDom d dOFF)

/-- SUPPLY_GOOD_TIMEOUT: PSW_GOOD has not risen 10 µs after PSW_ON; the domain stays in WAKING (R450). Packets that wait for it
are treated as Table 15-2 says. -/
def execSupplyGoodTimeout (d : Nat) (s : State) : Out :=
  fin (if 63 ≤ d then s.smIgnored
    else if s.dom d ≠ dWAKING ∨ s.pw.lost.contains d then s.pwIgnored
    else (s.supplyLost d).retry (fun h => h.why == .domain d))

/-- PFAIL has been cleared with the supply good again: the domain passes through OFF, its state lost (R407). -/
def State.supplyBack (s : State) (d : Nat) : State :=
  if !s.pw.lost.contains d then s
  else ((({ s with pw := { s.pw with lost := s.pw.lost.filter (· ≠ d) } }).setDom d dOFF).clearDom d)

/-! ### Queries (Table 13-11) -/

/-- POWER_LEDGER; FLAGS bit 0 clears the counters. -/
def execPowerLedger (mb : Nat) (s : State) : Out :=
  act s (s.runCmd mb 0x0705 (fun c s =>
    let body := (List.range 64).flatMap (fun i => [s.rd (R_PW_LEDGER0 i), s.rd (R_PW_LEDGER1 i)])
      ++ (List.range 7).flatMap (fun r => s.ctr2 (0x20108 + r * 8))
    if bit c.flags 0 then
      ({ s with ctrs := s.ctrs.filter (fun e => decide (e.1 < 0x20108 ∨ 0x20140 ≤ e.1)) }).ok mb body
    else s.okQuery mb body))

/-- POWER_QUERY. -/
def execPowerQuery (mb : Nat) (s : State) : Out :=
  act s (s.runCmd mb 0x0706 (fun _ s =>
    s.okQuery mb ([s.rd R_PW_STAT, s.rd R_PW_CLK_STAT, s.rd R_PW_VID, s.rd R_PW_THERM_STAT]
      ++ (List.range 16).map (fun n => s.rd (R_PW_TS n))
      ++ (List.range 63).flatMap (fun d => [s.rd (R_PW_DOM_STAT d), s.voteWord d]))))

end Sys2Proof.Machine
end

