-- ==== Sys2Proof/Machine/Faults.lean ====
section
/-! DEFINITION. The error and telemetry commands, and the return of a retired bank (R408 to R410, R419, R424, R445). -/

namespace Sys2Proof.Machine

/-! ### Counters as two words (R445) -/

/-- The offset of the high word of a counter whose low word lies at `off`. -/
def highOf (off : Nat) : Nat :=
  if 0x3F0400 ≤ off ∧ off < 0x3F0C00 then
    0x3F0C00 + (off - 0x3F0400) / 32 * 8 + (if off % 32 = 0x14 then 0 else 4)
  else off + 4

/-- The high word of a counter: bits [47:32], and SAT in bit 31 (Table 4-11, R420). -/
def State.ctrHi (s : State) (off : Nat) : Nat := s.cnt off / 2 ^ 32 + b2n (s.cnt off = ctrMax) * 2 ^ 31

/-- Latches a high word for a master (R10). -/
def State.latchHi (s : State) (m off w : Nat) : State := { s with latch := tset s.latch (m * 2 ^ 24 + off) w }

/-- The counter whose low word lies at `off`, with its power domain. -/
def counterAt (off : Nat) : Option Nat :=
  match decodeOffset off, regRow off with
  | some p, some (r, d) => if (r.kind == .pair || r.kind == .cntLo) && !r.isHi p.rel then some d else none
  | _, _ => none

/-- Is a domain in one of the states that R365 answers TARGET_ASLEEP? -/
def State.regAsleep (s : State) (d : Nat) : Bool :=
  d != domAO && (decide (dISOLATED ≤ s.dom d ∧ s.dom d ≤ dWAKING) || s.pw.lost.contains d)

/-- What a sleeping target reads as (R365). -/
def asleepWord : Nat := 0xD0FFD0FF

/-- The Wellhead snapshot-reads one counter through its own latch. -/
def State.whCounter (s : State) (off : Nat) : List Nat × State :=
  match counterAt off with
  | none => ([0, 0], s)
  | some d =>
    if s.regAsleep d then ([asleepWord, asleepWord], s.count (C_PW_DOM_ASLEEP d))
    else ([s.cnt off % 2 ^ 32, s.ctrHi off], s.latchHi 2 (highOf off) (s.ctrHi off))

/-- COUNTERS (Table 15-8): up to 128 counters named by offset. -/
def execCounters (mb : Nat) (offs : List Nat) (s : State) : Out :=
  act s (s.runCmd mb 0x0B04 (fun _ s =>
    if 128 < offs.length then s.refuse mb 0 128
    else match offs.findIdx? (fun o => (counterAt o).isNone) with
    | some i => s.refuse mb 0 i
    | none =>
      let (ws, s) := offs.foldl (fun (acc : List Nat × State) o =>
        let (w, u) := acc.2.whCounter o
        (acc.1 ++ w, u)) ([], s)
      s.okQuery mb ws))

/-! ### The fault ring (R408) -/

/-- Numbers of the unread fault records, oldest first. -/
def State.unreadRecs (s : State) : List Nat :=
  (List.range (s.get GLB_FLT_WR_UNREAD)).map (fun i => (s.get GLB_FLT_RD_OLDEST + i) % 64)

/-- A write of GLB_FLT_RD: UNREAD becomes (NEXT − RD) mod 64. -/
def State.fltRd (s : State) (v : Nat) : State :=
  let r := v % 64
  (s.put GLB_FLT_RD_OLDEST r).put GLB_FLT_WR_UNREAD ((s.get GLB_FLT_WR_NEXT + 64 - r) % 64)

/-- Every record is read: RD names NEXT. -/
def State.fltAllRead (s : State) : State :=
  (s.put GLB_FLT_RD_OLDEST (s.get GLB_FLT_WR_NEXT)).put GLB_FLT_WR_UNREAD 0

/-- ERR_READ; FLAGS bit 0 advances RD past the records returned. -/
def execErrRead (mb : Nat) (s : State) : Out :=
  act s (s.runCmd mb 0x0B01 (fun c s =>
    let body := [s.rd R_GLB_ERR_SUM, s.rd R_GLB_FAULT_GEN, s.get GLB_FLT_WR_UNREAD]
      ++ s.unreadRecs.flatMap (fun i => (List.range 4).map (fun d => s.rd (fltOff i d)))
    if bit c.flags 0 then s.fltAllRead.ok mb body else s.okQuery mb body))

/-- ERR_CLEAR clears the named bits of GLB_ERR_SUM; FLAGS bit 0 empties the ring. -/
def execErrClear (mb mask : Nat) (s : State) : Out :=
  act s (s.runCmd mb 0x0B02 (fun c s =>
    if 2 ^ 32 ≤ mask then s.refuse mb 0 0
    else
      let s := s.wr R_GLB_ERR_SUM (s.rd R_GLB_ERR_SUM &&& (0xFFFFFFFF ^^^ mask))
      (s.doIf (bit c.flags 0) (·.fltAllRead)).ok mb []))

/-- Is a GLB_EVMAPn word within its encoding, for an existing partition? -/
def evmapOk (x : Nat × Nat) : Bool := decide (x.1 < 16 ∧ x.2 < 2 ^ 13 ∧ bits x.2 6 5 ≤ 29)

/-- EVENT_MAP writes GLB_EVMAPn words and GLB_SAT_EN. -/
def execEventMap (mb : Nat) (maps : List (Nat × Nat)) (sat : Nat) (s : State) : Out :=
  act s (s.runCmd mb 0x0B03 (fun _ s =>
    match maps.findIdx? (fun x => !evmapOk x) with
    | some i => s.refuse mb 0 i
    | none =>
      if 2 ^ 14 ≤ sat then s.refuse mb 0 maps.length
      else ((s.forEach maps (fun x u => u.wr (R_GLB_EVMAP x.1) x.2)).put GLB_SAT_EN_GROUP sat).ok mb []))

/-! ### Return of a bank (R419) -/

/-- Does bank `b` hold part of a partition or of its copy? -/
def State.bankHolds (s : State) (b n : Nat) : Bool :=
  rangesMeet (bankBase b) 0x400000 (s.partBase n) (s.partEnd n - s.partBase n)
    || (s.mirrorOf n != 0 && rangesMeet (bankBase b) 0x400000 (s.partBase n + s.mirrorOf n) (s.partEnd n - s.partBase n))

/-- Is a write of CTb_RETURN.GO dropped with BUSY? -/
def State.returnBusy (s : State) (b : Nat) : Bool :=
  !s.bankRetired b || s.cis.back.contains b
    || (List.range 32).any (fun n => s.bankHolds b n &&
      (s.on (PART_CTL_SEAL n) || (s.on (PART_CTL_EN n) && s.mirrorOf n == 0 && s.get (PART_CTL_USE n) != 0 && s.get (PART_CTL_USE n) != 3)))

/-- GO: the forced pass of the bank's domain begins. -/
def State.returnGo (s : State) (b : Nat) : State :=
  let s := (s.setDom (16 + b) dCLOSING).resLoseBank b
  { s with cis := { s.cis with back := s.cis.back ++ [b] } }

/-- BANK_SELFTEST_DONE: the bank is in service with 256 spares, or stays RETIRED with a new class 5 record. -/
def execBankSelftestDone (b : Nat) (pass : Bool) (s : State) : Out :=
  act s (if !s.cis.back.contains b ∨ s.dom (16 + b) ≠ dON then s.smIgnored
    else
      let s := { s with cis := { s.cis with back := s.cis.back.filter (· ≠ b) } }
      if pass then (s.put (CT_STAT_STATE b) 0).put (CT_STAT_SPARES b) 256 else s.fault 5 b 0xFFFFFFFF)

/-! ### ERR_INJECT (Table 15-8) -/

/-- Marks the records that a change wrote INJECTED (Table 15-3). -/
def State.injected (s : State) (f : State → State) : State :=
  let a := s.get GLB_FLT_WR_NEXT
  let t := f s
  let k := (t.get GLB_FLT_WR_NEXT + 64 - a) % 64
  t.forEach (List.range k) (fun i u =>
    let o := fltOff ((a + i) % 64) 0
    u.wr o (insBits (u.rd o) 25 1 1))

/-- Plants an error in a cistern word and lets its bank meet it: a correctable one, or an uncorrectable one. -/
def State.plantWord (s : State) (w : Nat) (hard : Bool) : State :=
  let s := if hard then { s with cis := { s.cis with poison := tset s.cis.poison w 1 } }
    else { s with cis := { s.cis with soft := tset s.cis.soft w 1 } }
  s.meetWord w

/-- The fault that ERR_INJECT causes: class, unit, kind (1 correctable, 2 uncorrectable, 3 bad flit, 4 checker fire), and
the place inside the unit; none where the class and unit have no such fault. -/
def State.errInject (s : State) (cls u kind place : Nat) : Option (State → State) :=
  match cls, kind with
  | 1, 1 => if u < 2 ∧ place < 64 * 64 ∧ place / 8 % 8 < 5 then
      some (fun s => (s.count (C_RT_CE_CNT u (place / 64))).rtErr u (place / 64) (RT_ERR_CE u (place / 64)) (place / 8 % 8) (place % 8)) else none
  | 1, 2 => if u < 2 ∧ s.plane u ≠ pOUT ∧ s.plane u ≠ pFAILED then some (·.planeFail u 1 0) else none
  | 1, 4 => if u < 2 ∧ s.plane u ≠ pOUT ∧ s.plane u ≠ pFAILED then some (·.planeFail u 3 0) else none
  | 2, 2 => if u < 2 ∧ s.plane u = pIN ∧ s.plane (1 - u) ≠ pIN then some (·.planeFail u 1 0) else none
  | 2, 4 => if u < 2 ∧ s.plane u = pIN ∧ s.plane (1 - u) ≠ pIN then some (·.planeFail u 3 0) else none
  | 3, 3 => if s.isRunnel u ∧ s.lst u = lkACTIVE then some (fun s => s.flitIn u ⟨gradeCrc, [], linkFlitOf []⟩) else none
  | 5, 1 => if u < 24 ∧ place < 0x80000 ∧ !s.bankRetired u then some (·.plantWord (u * 0x80000 + place) false) else none
  | 5, 2 => if u < 24 ∧ place < 0x80000 ∧ !s.bankRetired u then some (·.plantWord (u * 0x80000 + place) true) else none
  | 5, 4 => if u < 24 then some (·.bankFault u 0) else none
  | 6, 2 => if u < 12 ∧ s.ktState u ≠ ktFAULTED then some (·.engFault u 2 0) else none
  | 6, 4 => if u < 12 ∧ s.ktState u ≠ ktFAULTED then some (·.engFault u 1 0) else none
  | 7, 4 => if u = 0 then some (·.whFault 2 0) else none
  | 8, 4 => if u = s.get TM_STATUS_TB_ACTIVE ∧ s.tm.retired.length ≠ 2 then some (·.tbFail 1 false) else none
  | _, _ => none

/-- ERR_INJECT. -/
def execErrInject (mb cls u kind place : Nat) (s : State) : Out :=
  act s (s.runCmd mb 0x0B05 (fun _ s =>
    match s.errInject cls u kind place with
    | none => s.refuse mb 0 0
    | some f => (s.injected f).ok mb []))

end Sys2Proof.Machine
end

