-- ==== Sys2Proof/Machine/Registers.lean ====
section
/-! DEFINITION. What a read and a write of a register do once the crossbar lets them through: access types, refusing
rules, 64-bit pairs, and the effects that single registers have (R8 to R13, R434 to R447, R463). -/

namespace Sys2Proof.Machine

/-! ### Places in a region -/

/-- Is `off` in region [a, b)? -/
def inReg (off a b : Nat) : Bool := decide (a ≤ off ∧ off < b)

def inPt (off : Nat) : Bool := inReg off 0x100000 0x200000
def inKt (off : Nat) : Bool := inReg off 0x400000 0x4C0000

/-- Offset inside a PT or KT region. -/
def tileRel (off : Nat) : Nat := off % 0x10000

/-- The port whose register block of stride `st` at offset `a` of a PT region holds `off`. -/
def blkPort (off a st : Nat) : Nat := (off - 0x100000) / 0x10000 * 8 + (tileRel off - a) / st

/-- Low words of the 64-bit registers in a tile region (R12). -/
def lowTile (o : Nat) (pt : Bool) : Bool :=
  (inReg o 0x4800 (if pt then 0x5800 else 0x4C00) && (o % 0x40 == 0 || o % 0x40 == 0x10))
    || (inReg o 0xE000 0xF000 && (o % 0x20 == 0 || o % 0x20 == 0x10))
    || (inReg o 0x5800 0x5C00 && o % 0x80 == 8)
    || (pt && inReg o 0x4000 0x4800 && o % 0x100 == 8)
    || (pt && inReg o 0xA000 0xA800 && o % 0x100 == 0x18)

/-- Is `off` the low word of a 64-bit RW or RWL register (R12)? -/
def lowOf64 (off : Nat) : Bool :=
  off == R_TM_FRAME_SWITCH_LO || off == R_PW_WH_HOLD_LO || off == R_SNAP_INT_EN_LO
    || (inReg off 0x31000 0x31800 && (off % 0x20 == 0 || off % 0x20 == 0x10))
    || (inReg off 0x50000 0x57800 && decide (off % 0x400 < 0x200) && off % 0x10 == 0)
    || (inReg off 0x61000 0x61200 && off % 0x20 == 0)
    || (inPt off && lowTile (tileRel off) true)
    || (inKt off && lowTile (tileRel off) false)
    || (inReg off 0x300000 0x3C0000 && inReg (off % 0x8000) 0x5800 0x5C00 && off % 0x80 == 8)

/-! ### Semaphores (R387) -/

/-- The owner ID of a control master; 0 for the debug master, which has none. -/
def ownerId : Master → Nat
  | .portA h => 0x20 + h.val | .portB => 1 | .wellhead => 2 | .debug => 0

/-- A read of SEMn: the value, and the state after. -/
def State.semRead (s : State) (m : Master) (n : Nat) : Nat × State :=
  let cur := s.get (SEM_OWN_OWNER n)
  let me := ownerId m
  if me = 0 then (cur, s)
  else if cur = 0 ∨ cur = me then
    let now := s.ns
    let s := s.put (SEM_OWN_OWNER n) me
    (0, { s with wh := { s.wh with semAt := tset s.wh.semAt n now } })
  else (cur, s)

/-- A write of SEMn. -/
def State.semWrite (s : State) (m : Master) (n v : Nat) : State :=
  let me := ownerId m
  if me ≠ 0 ∧ s.get (SEM_OWN_OWNER n) = me ∧ v % 256 = me then s.freeSem n else s.count C_CX_SEM_BAD

/-- Does a partition other than that of `m` hold SEM0 (R388)? -/
def State.sem0Other (s : State) (m : Master) : Bool :=
  let own := s.get (SEM_OWN_OWNER 0)
  match m with
  | .portA h => decide (0x20 ≤ own) && own != 0x20 + h.val
  | _ => false

/-! ### Reads (R8, R10, R445) -/

/-- The words that a read of a low word latches: offsets of the high words and what they hold. -/
def State.latches (s : State) (off : Nat) : List (Nat × Nat) :=
  if off = R_TM_NOW_NS then
    [(R_TM_NOW_SEC_LO, s.nowSec % 2 ^ 32), (R_TM_NOW_SEC_HI, s.nowSec / 2 ^ 32 % 2 ^ 16 + s.nowFrac * 2 ^ 16)]
  else if off = R_TM_FRAME_NUM_LO then [(R_TM_FRAME_NUM_HI, s.rd R_TM_FRAME_NUM_HI)]
  else if inReg off 0x3F0400 0x3F0C00 ∧ off % 0x20 = 0xC then [(off + 4, s.rd (off + 4))]
  else []

/-- Is `off` a high word that reads as latched? -/
def latchedOff (off : Nat) : Bool :=
  off == R_TM_NOW_SEC_LO || off == R_TM_NOW_SEC_HI || off == R_TM_FRAME_NUM_HI
    || (inReg off 0x3F0400 0x3F0C00 && off % 0x20 == 0x10)

/-- What a register word reads as, beside latches. -/
def State.viewWord (s : State) (off : Nat) : Nat :=
  if off = R_GLB_EVT_PEND then s.evtPend
  else if off = R_TM_NOW_NS then s.nowNs
  else if inReg off 0x21000 0x21FC0 ∧ off % 0x40 = 4 then s.voteWord ((off - 0x21000) / 0x40)
  else if inReg off 0x30210 0x3021C then b2n (s.wh.holds.any (fun h => h.1 == (off - 0x30210) / 4)) * 2 ^ 8
  else if inReg off 0x61000 0x61200 ∧ off % 0x20 = 8 then
    s.rd off - b2n (bit (s.rd off) 0 && !s.ringOn ((off - 0x61000) / 0x20))
  else if inPt off ∧ inReg (tileRel off) 0x4000 0x4800 ∧ tileRel off % 0x100 = 4 then s.gclStat (blkPort off 0x4000 0x100)
  else if inPt off ∧ inReg (tileRel off) 0x4000 0x4800 ∧ tileRel off % 0x100 = 0x10 then
    (let p := blkPort off 0x4000 0x100
     if s.portKind p = 0 then s.rd off else min (s.weirOf p) 0xFFFF)
  else if inKt off ∧ inReg (tileRel off) 0x4800 0x4C00 ∧ tileRel off % 0x40 = 0x24 then
    tgetD s.sch.ktSeq (s.bindSeq ((off - 0x400000) / 0x10000) ((tileRel off - 0x4800) / 0x40)) 0
  else s.rd off

/-- A read that reaches its register: the data, and the state after. -/
def State.regRead (s : State) (m : Master) (off : Nat) : Nat × State :=
  let i := masterIdx m
  let held (o : Nat) : Nat := tgetD s.latch (i * 2 ^ 24 + o) 0
  match decodeOffset off, regRow off with
  | some p, some (r, _) =>
    match r.kind with
    | .sem => s.semRead m ((off - 0x32000) / 4)
    | .cntHi => (held off, s)
    | .pair | .cntLo => if r.isHi p.rel then (held off, s) else (s.cnt off % 2 ^ 32, s.latchHi i (highOf off) (s.ctrHi off))
    | .plain => if latchedOff off then (held off, s)
      else (s.viewWord off, s.forEach (s.latches off) (fun e u => u.latchHi i e.1 e.2))
  | _, _ => (0, s)

/-! ### Refusing rules (R463) -/

def full32 : Nat := 0xFFFFFFFF

/-- A refusing rule when it applies: the bits it covers and the status it gives. -/
def rule (c : Bool) (mask : Nat) (st : Status) : List (Nat × Status) := if c then [(mask, st)] else []

/-- Rules over guard registers (R344, R345). -/
def State.coversGd (s : State) (off : Nat) : List (Nat × Status) :=
  let n := (off - 0x50000) / 0x400
  let o := off % 0x400
  rule ((decide (o < 0x200) && o / 0x100 == s.activeSet n) || (inReg o 0x240 0x248 && (o - 0x240) / 4 == s.activeSet n)) full32 .busy
    ++ rule (o == 0x204 && !s.on (GD_FENCE_DONE n)) full32 .busy

/-- Rules over mailbox registers (R388, R389, R392). -/
def State.coversMb (s : State) (m : Master) (off : Nat) : List (Nat × Status) :=
  let mb := (off - 0x40000) / 0x4000
  let o := (off - 0x40000) % 0x4000
  let shared := mb == 0 && s.sem0Other m
  rule (o == 4 && (shared || s.get (MB_STAT_STATE mb) != mbIDLE)) full32 .busy
    ++ rule (inReg o 0x1000 0x2000 && (shared || s.get (MB_STAT_STATE mb) != mbIDLE)) full32 .busy

/-- Rules over the registers of a port tile (R162, R414, R428, R430). -/
def State.coversPt (s : State) (off v : Nat) : List (Nat × Status) :=
  let o := tileRel off
  if inReg o 0x2000 0x4000 then
    let p := blkPort off 0x2000 0x400
    let b := (o - 0x2000) % 0x400 / 0x200
    rule (b == s.gclActive p || s.on (GCL_STAT_PENDING (portC p) (portK p))) full32 .busy
  else if inReg o 0x4000 0x4800 ∧ o % 0x100 = 0 then
    let p := blkPort off 0x4000 0x100
    rule (s.carries p) (if s.on (GCL_CTL_EN (portC p) (portK p)) then 1 else 0xFF00) .busy
  else if inReg o 0x8000 0x9000 ∧ o % 0x200 = 0 then
    rule (s.portKind (blkPort off 0x8000 0x200) != kindRunnel) 1 .unsupported
  else if inReg o 0xA000 0xA800 ∧ o % 0x100 = 0 then
    let k := s.portKind (blkPort off 0xA000 0x100)
    rule (k != kindHost && k != kindDown) 1 .unsupported
  else rule (o == 0x5E00 && decide (clampN 50 4000000 (v % 2 ^ 23) < s.get GLB_CTO_FLOOR_US)) full32 .busy

/-- Rules over the registers of an engine. -/
def State.coversKt (s : State) (off v : Nat) : List (Nat × Status) :=
  let e := (off - 0x400000) / 0x10000
  let o := tileRel off
  rule (inReg o 0x8800 0x8A00 && s.on (FP_CTL_EN e ((o - 0x8800) / 0x40))) full32 .busy
    ++ rule (o == 0x5E00 && decide (clampN 50 4000000 (v % 2 ^ 23) < s.get GLB_CTO_FLOOR_US)) full32 .busy

/-- Rules over the registers of GLB, TM and PW. -/
def State.coversLow (s : State) (m : Master) (off v : Nat) : List (Nat × Status) :=
  rule (off == R_GLB_NODE && !s.nodeFree) full32 .busy
    ++ rule (inReg off 0x2000 0x3000 && off % 0x40 == 0 && bit v 7 && s.portKind (v % 128) != kindDown) 0x80 .unsupported
    ++ rule (off == R_TM_GM_CFG && !s.nodeFree) 0x30000 .busy
    ++ rule ((off == R_TM_FRAME_PERIOD || off == R_TM_FRAME_PHASE) && s.on TM_FRAME_CTL_EN) full32 .busy
    ++ rule (off == R_PW_CTL && s.levelFail (v % 4) != 0) 3 .busy
    ++ rule ((off == R_PW_WH_HOLD_LO || off == R_PW_WH_HOLD_HI) && m != .wellhead) full32 .unsupported
    ++ rule (inReg off 0x21000 0x21FC0 && off % 0x40 == 4 && m == .debug) full32 .unsupported

/-- Rules over the registers of CX (R242, R388, R414). -/
def State.coversCx (s : State) (m : Master) (off v : Nat) : List (Nat × Status) :=
  rule (inReg off 0x30100 0x30110 && s.sem0Other m) full32 .busy
    ++ rule (off == R_CX_WHBAR && m != .wellhead) full32 .unsupported
    ++ rule (off == R_CX_WHBAR && !s.on CX_WHBAR_DONE) full32 .busy
    ++ rule (off == R_CX_WH_CTO && decide (clampN 50 4000000 (v % 2 ^ 23) < s.get GLB_CTO_FLOOR_US)) full32 .busy

/-- Rules over routers (R124, R125) and route banks (R133, R149). -/
def State.coversMesh (s : State) (off v : Nat) : List (Nat × Status) :=
  if inReg off 0x200000 0x300000 then
    let p := (off - 0x200000) / 0x80000
    let t := (off - 0x200000) % 0x80000 / 0x2000
    rule (off % 0x2000 == 4 && !(s.setRouterCtl p t v).1) 15 .busy
      ++ rule (off % 0x2000 == 8 && !(s.setRouterFence p t (v % 32)).1) full32 .busy
  else
    rule (off == R_RTE_NODE_CFG && !s.nodeFree) full32 .busy
      ++ rule (inReg off 0x508000 0x510000 && s.bank ((off - 0x508000) / 0x4000) != 0) full32 .busy
      ++ rule (inReg off 0x510000 0x512000 && s.bank ((off - 0x510000) / 0x1000) != 0) full32 .busy

/-- The refusing rules that a write meets, locks and seals first. -/
def State.covers (s : State) (m : Master) (off v : Nat) : List (Nat × Status) :=
  rule (match lockGroup off with | some g => bit (s.get SC_LOCK_GROUPS) g | none => false) (lockMask off) .locked
    ++ rule (inReg off 0x3F0000 0x3F0200 && off % 0x10 != 0xC && s.on (PART_CTL_SEAL ((off - 0x3F0000) / 0x10))) (lockMask off) .locked
    ++ (if off < 0x30000 then s.coversLow m off v
      else if off < 0x40000 then s.coversCx m off v
      else if off < 0x48000 then s.coversMb m off
      else if inReg off 0x50000 0x57800 then s.coversGd off
      else if inPt off then s.coversPt off v
      else if inReg off 0x200000 0x300000 ∨ inReg off 0x500000 0x512000 then s.coversMesh off v
      else if inReg off 0x300000 0x3C0000 then rule (off % 0x8000 == 0x14 && s.returnBusy ((off - 0x300000) / 0x8000)) full32 .busy
      else if inKt off then s.coversKt off v
      else [])

/-! ### The effect of a write -/

/-- Bits of a register that a master may write: the areas of a mailbox belong to one side each (R389), holds and
Wellhead bits to their own master (R384, Table 14-15), and the fixed bits of a register take no write. -/
def masterMask (m : Master) (off : Nat) : Nat :=
  if off = R_GLB_WH_CTL then (match m with | .wellhead => 0xB | .debug => 8 | _ => 0xC)
  else if inReg off 0x30200 0x3020C then (if m != .debug ∧ (off - 0x30200) / 4 = masterIdx m then full32 else 0)
  else if inReg off 0x40000 0x48000 then
    let o := (off - 0x40000) % 0x4000
    if inReg o 0x1000 0x2000 then (if m = .wellhead then 0 else full32)
    else if inReg o 0x2000 0x3000 then (if m = .wellhead then full32 else 0)
    else if o = 0 then (if off < 0x44000 then 0xFF else 0x303)
    else full32
  else full32

/-- The word that a plain write leaves: RW bits take their value, W1C bits clear, W1S bits set (Table 0-2). -/
def storeWord (r : RegRow) (old v : Nat) : Nat :=
  let w := (old &&& (full32 ^^^ r.rw)) ||| (v &&& r.rw)
  (w &&& (full32 ^^^ (v &&& r.w1c))) ||| (v &&& r.w1s)

def State.store (s : State) (r : RegRow) (off v : Nat) : State := s.wr off (storeWord r (s.rd off) v)

/-- A write of TM_FRAME_PERIOD or TM_FRAME_PHASE resets the anchor (R54, R438). Frame numbers count from it as after cold
reset, so no tick counts as fired any more (assumption log 84). -/
def State.anchorReset (s : State) : State :=
  let ph := s.framePhase
  let s := { s with tm := { s.tm with t0 := ph, f0 := 0, last := none } }
  let n := s.baseSched.number s.ns
  { s with tm := { s.tm with hdl := n } }

/-- A write of GLB_WH_CTL. -/
def State.whCtl (s : State) (m : Master) (v : Nat) : State :=
  let s := s.put GLB_WH_CTL_BOOT_SLOT (v / 8)
  match m with
  | .wellhead => (s.doIf (bit v 0) (·.heartbeat)).doIf (bit v 1) (·.whReady)
  | .debug => s
  | _ => s.doIf (bit v 2) (·.restartWrite)

/-- A write of a PORT_CFG: a port that changes its kind leaves its link (R428). -/
def State.portCfg (s : State) (p v : Nat) : State :=
  let old := s.portKind p
  let s := if v % 4 = old then s
    else if old = kindRunnel then (if s.lst p = lkDISABLED then (s.pput LNK_CTL_EN p 0).showFloor none else (s.pput LNK_CTL_EN p 0).linkDisable p)
    else if old = 0 then s else s.pcfgEn p false
  s.setPortCfg p v

/-- A write of LNK_CTL. -/
def State.lnkCtl (s : State) (p v : Nat) : State :=
  let was := s.pon LNK_CTL_EN p
  let s := (s.pput LNK_CTL_LD_SEL p (v / 4)).pput LNK_CTL_AUTO_NARROW p (v / 16)
  let s := if s.lst p = lkDISABLED then s.setSpare p (v / 32) else s
  let s := s.pput LNK_CTL_EN p v
  let s := if bit v 0 ∧ !was then s.linkEnable p else if !bit v 0 ∧ was then s.linkDisable p else s
  s.doIf (bit v 1) (·.retrainWrite p)

/-- A write of PCFG. -/
def State.pcfgWrite (s : State) (p v : Nat) : State :=
  let was := s.pon PCFG_EN p
  let s := s.wr (R_PCFG (portC p) (portK p)) ((v &&& pcfgMask) + b2n was)
  if bit v 0 = was then s else s.pcfgEn p (bit v 0)

/-- A write of VECv_CTL.MASK: a pending vector leaves when it is unmasked (R329). -/
def State.vecMask (s : State) (b v w : Nat) : State :=
  let s := s.put (VEC_CTL_MASK b v) w
  if bit w 0 ∨ !s.on (VEC_CTL_PENDING b v) then s
  else match (List.range 8).find? (fun i => s.get (BIND_CTL_VEC b i) == v && s.on (BIND_CTL_EN b i)) with
    | some i => (s.put (VEC_CTL_PENDING b v) 0).vecSend (s.get (BIND_CTL_ENG b i)) b v
    | none => s

/-- A write of an elimination entry resets it (R147). -/
def State.elimWrite (s : State) (t n v : Nat) : State :=
  let s := s.wr (R_NI_ELIM_CFG (elimBase t) n) (v % 2 ^ 16)
  let s := { s with mesh := { s.mesh with elimWin := tdel s.mesh.elimWin (t * 1024 + n) } }
  s.elimReset t n

/-- A burst hold is armed (R384). -/
def State.holdArm (s : State) (m n : Nat) : State :=
  let rest := s.wh.holds.filter (fun h => h.1 != m)
  if n = 0 then s else { s with wh := { s.wh with holds := rest ++ [(m, min n 16, none)] } }

/-- Effects in GLB, TM and PW. -/
def State.effectLow (s : State) (m : Master) (r : RegRow) (off v : Nat) : State :=
  if off = R_GLB_WH_CTL then s.whCtl m v
  else if off = R_GLB_FLT_RD then s.fltRd v
  else if inReg off 0x1010 0x11E0 then (s.store r off v).showOnB ((off - 0x1000) / 0x10)
  else if inReg off 0x2000 0x3000 ∧ off % 0x40 = 0 then s.slotCfg ((off - 0x2000) / 0x40) v
  else if inReg off 0x2000 0x3000 ∧ off % 0x40 = 0xC then
    let n := (off - 0x2000) / 0x40
    (if s.on (SLOT_CTL_POWER n) = bit v 0 then s else s.slotCtlPower n (bit v 0)).doIf (bit v 1) (·.slotClr n)
  else if off = R_TM_FRAME_PERIOD ∨ off = R_TM_FRAME_PHASE then (s.store r off v).anchorReset
  else if off = R_TM_HOLD_LIMIT then (s.store r off v).showBound
  else if off = R_PW_CTL then (s.store r off v).showLimits
  else if off = R_PW_THERM_CFG then (s.store r off v).newThresholds
  else if off = R_PW_SAFE then s.doIf (bit v 1) (·.safeClr)
  else if inReg off 0x21000 0x21FC0 then
    let d := (off - 0x21000) / 0x40
    if off % 0x40 = 0 then s.domCfg d v
    else if off % 0x40 = 4 then s.setVote (masterIdx m) d (bit v (masterIdx m))
    else if off % 0x40 = 8 then (s.store r off v).doIf (bit v 3) (·.supplyBack d)
    else if off % 0x40 = 0xC then (if bit v 0 ∧ d < 62 then s.edgeWake d else s)
    else s
  else s.store r off v

/-- Effects in CX and the mailboxes. -/
def State.effectCx (s : State) (m : Master) (r : RegRow) (off v : Nat) : State :=
  if off = R_CX_CFG then s.put CX_CFG_APT_TC (min 5 (v % 8))
  else if inReg off 0x30200 0x3020C then s.holdArm (masterIdx m) (v % 32)
  else if off = R_CX_WHBAR then s.whBarrier (v % 4)
  else if inReg off 0x40000 0x48000 then
    let mb := (off - 0x40000) / 0x4000
    let o := (off - 0x40000) % 0x4000
    if o = 4 then
      (if bit v 0 then s.doorbell mb (match m with | .portA h => h.val | _ => s.get (MB_ISSUER_HPART 0)) else s)
    else if o = 8 then
      (s.store { r with w1s := 0 } off v).doIf (bit v 3 && s.get (MB_STAT_STATE mb) == mbDONE) (·.put (MB_STAT_STATE mb) mbIDLE)
    else s.store r off v
  else s.store r off v

/-- Effects in a port tile. -/
def State.effectPt (s : State) (r : RegRow) (off v : Nat) : State :=
  let c := (off - 0x100000) / 0x10000
  let o := tileRel off
  if inReg o 0x800 0x820 then s.portCfg (blkPort off 0x800 4) v
  else if inReg o 0x820 0x840 then s.wr off (tcmapStore v)
  else if inReg o 0x4000 0x4800 ∧ o % 0x100 = 0 then s.store r off v
  else if inReg o 0x4000 0x4800 ∧ inReg (o % 0x100) 0x40 0xC0 then s.stageShp off (v &&& r.rw)
  else if inReg o 0x4800 0x5800 ∧ o % 0x40 = 0x20 then (s.store r off v).wr (off + 4) 0
  else if inReg o 0x6000 0x8000 ∧ o % 8 = 0 then s.elimWrite (ptTile c) ((o - 0x6000) / 8) v
  else if inReg o 0x8000 0x9000 then
    let p := blkPort off 0x8000 0x200
    if o % 0x200 = 0 then s.lnkCtl p v
    else if o % 0x200 = 0x98 then s.store r off v
    else (s.store r off v).showRpl p false
  else if inReg o 0xA000 0xA800 ∧ o % 0x100 = 0 then s.pcfgWrite (blkPort off 0xA000 0x100) v
  else s.store r off v

/-- Effects in routers, cistern, engines, routes and basins. -/
def State.effectHigh (s : State) (r : RegRow) (off v : Nat) : State :=
  if inReg off 0x200000 0x300000 then
    let p := (off - 0x200000) / 0x80000
    let t := (off - 0x200000) % 0x80000 / 0x2000
    if off % 0x2000 = 4 then (s.setRouterCtl p t v).2
    else if off % 0x2000 = 8 then (s.setRouterFence p t (v % 32)).2
    else s.store r off v
  else if inReg off 0x300000 0x3C0000 then
    let b := (off - 0x300000) / 0x8000
    let o := off % 0x8000
    if o = 0x14 then s.doIf (bit v 0) (·.returnGo b)
    else if inReg o 0x6000 0x8000 ∧ o % 8 = 0 then s.elimWrite (ctTile b) ((o - 0x6000) / 8) v
    else s.store r off v
  else if off = R_CT_RES_CFG then
    let s := s.store r off v
    { s with ord := { s.ord with resv := [] } }
  else if inKt off then
    let e := (off - 0x400000) / 0x10000
    let o := tileRel off
    if inReg o 0x6000 0x8000 ∧ o % 8 = 0 then s.elimWrite (ktTile e) ((o - 0x6000) / 8) v
    else if inReg o 0x4800 0x4C00 ∧ o % 0x40 = 0x20 then (s.store r off v).bindRestart e ((o - 0x4800) / 0x40)
    else if inReg o 0x8400 0x8800 then (s.store r off v).showFree e ((o - 0x8400) / 0x10)
    else s.store r off v
  else if inReg off 0x508000 0x510000 then (s.store r off v).put RTE_STAT_SYNC_BUSY 1
  else if inReg off 0x510000 0x512000 then
    if (off - 0x510000) % 0x1000 < 0x10 then s else (s.store r off v).put RTE_STAT_SYNC_BUSY 1
  else if inReg off 0x600000 0x700000 ∧ inReg (off % 0x400) 0x100 0x180 ∧ off % 0x10 = 0xC then
    s.vecMask ((off - 0x600000) / 0x400) ((off % 0x400 - 0x100) / 0x10) v
  else s.store r off v

/-- What a write that no rule refuses does. -/
def State.effect (s : State) (m : Master) (r : RegRow) (off v : Nat) : State :=
  if off < 0x30000 then s.effectLow m r off v
  else if off < 0x48000 then s.effectCx m r off v
  else if inReg off 0x50000 0x57800 then
    (if off % 0x400 = 0x204 then s.doIf (bit v 0) (·.swapGuard ((off - 0x50000) / 0x400)) else s.store r off v)
  else if off = R_TL_CFG then s.wr off (min 5 (v % 8))
  else if off = R_SC_LOCK then s.setLocks v
  else if inPt off then s.effectPt r off v
  else s.effectHigh r off v

/-- A write of the high word commits both halves of a 64-bit register (R12). -/
def State.commit64 (s : State) (m : Master) (r : RegRow) (off v : Nat) : State :=
  let k := masterIdx m * 2 ^ 24 + off - 4
  let lo := match tget s.staged k, regRow (off - 4) with
    | some w, some (q, _) => storeWord q (s.rd (off - 4)) w
    | _, _ => s.rd (off - 4)
  let s := { (s.wr (off - 4) lo).store r off v with staged := tdel s.staged k }
  if off = R_TM_FRAME_SWITCH_HI then s.armSwitch (s.rd64 R_TM_FRAME_SWITCH_LO)
  else if inPt off ∧ inReg (tileRel off) 0x4000 0x4800 then s.armGcl (blkPort off 0x4000 0x100) (s.rd64 (off - 4))
  else s

/-- GLB_PLANE_CTL: the two requests, A first, each refused or taken (R120, R463). -/
def State.planeCtl (s : State) (v : Nat) : Status × State :=
  let a := s.planeReqWrite 0 (v % 2)
  let b := a.2.planeReqWrite 1 (v / 2 % 2)
  (if a.1 ∧ b.1 then .ok else .busy, b.2)

/-- A write dropped with BUSY counts, a doorbell also in BUSY_DROP (R392, R437). -/
def State.refusal (s : State) (off : Nat) (st : Status) : State :=
  if st ≠ .busy then s
  else s.cfgBusy.doIf (inReg off 0x40000 0x48000 && (off - 0x40000) % 0x4000 == 4) (·.count (C_MB_BUSY_DROP ((off - 0x40000) / 0x4000)))

/-- Lowest set bit of a mask. -/
def lowBit (w : Nat) : Nat := ((List.range 32).find? (bit w)).getD 32

/-- The rule whose refused bits lie lowest. -/
def firstRule (want : Nat) : List (Nat × Status) → Status
  | [] => .ok
  | c :: r => (r.foldl (fun (a b : Nat × Status) => if lowBit (want &&& a.1) ≤ lowBit (want &&& b.1) then a else b) c).2

/-- A write of a plain register: the refusing rules of R463, then the effect. -/
def State.plainWrite (s : State) (m : Master) (r : RegRow) (off v : Nat) : Status × State :=
  let mm := masterMask m off
  let wm := (r.rw ||| r.w1c ||| r.w1s ||| r.wo) &&& mm
  let cov := s.covers m off v
  if wm = 0 then
    -- A read-only register: only the block of an enabled frame program refuses the write too (R228).
    (match (if inKt off then cov else []) with
     | c :: _ => (c.2, s.refusal off c.2)
     | [] => (.ok, s))
  else match cov.find? (fun c => (wm &&& c.1) == wm) with
  | some c => (c.2, s.refusal off c.2)
  | none =>
    if off = R_GLB_PLANE_CTL then s.planeCtl v
    else
      let old := s.rd off
      let want := mm &&& ((r.rw &&& (v ^^^ old)) ||| (r.w1c &&& v &&& old) ||| (r.w1s &&& v &&& (full32 ^^^ old)) ||| (r.wo &&& v))
      let bad := cov.filter (fun c => (want &&& c.1) != 0)
      let keep := cov.foldl (fun a c => a ||| c.1) (full32 ^^^ mm)
      let v' := (v &&& (full32 ^^^ keep)) ||| (old &&& r.rw &&& keep)
      let s := s.forEach bad (fun c u => u.refusal off c.2)
      let s := if lowOf64 off then { s with staged := tset s.staged (masterIdx m * 2 ^ 24 + off) v' }
        else if 4 ≤ off ∧ lowOf64 (off - 4) then s.commit64 m r off v'
        else s.effect m r off v'
      (firstRule want bad, s)

/-- A write that reaches its register: its status, and the state after. -/
def State.regWrite (s : State) (m : Master) (off v : Nat) : Status × State :=
  match decodeOffset off, regRow off with
  | some p, some (r, _) =>
    match r.kind with
    | .sem => (.ok, s.semWrite m ((off - 0x32000) / 4) v)
    | .cntHi => (.ok, s)
    | .pair | .cntLo => (.ok, if r.isHi p.rel then s else { s with ctrs := tdel s.ctrs off })
    | .plain => s.plainWrite m r off v
  | _, _ => (.unsupported, s)

end Sys2Proof.Machine
end

