-- ==== Sys2Proof/Machine/Crossbar.lean ====
section
/-! DEFINITION. The control crossbar: its paths, remap windows, holds, power check and queues, the two control ports and
the debug master (R348 to R350, R365, R380 to R388, R452). -/

namespace Sys2Proof.Machine

/-! ### Targets and rights (R380, R382, R385) -/

/-- The target of Table 14-1 that an offset belongs to. -/
def cxTarget (off : Nat) : Option Nat :=
  if off < 0x30000 then some 0 else if off < 0x40000 then some 1 else if off < 0x44000 then some 2
  else if off < 0x48000 then some 3 else if inReg off 0x50000 0x58000 then some 4 else if inReg off 0x60000 0x80000 then some 5
  else if inReg off 0x100000 0x700000 then some 6 else if inReg off 0x800000 0x1000000 then some 7 else none

/-- Has the crossbar a path from a master to a target? -/
def cxPath (m : Master) (t : Nat) : Bool :=
  match m with
  | .portA _ => t != 3
  | .portB => t != 2
  | .wellhead => t != 7
  | .debug => t != 2 && t != 3

/-- May a Port A partition make an access: a partition without PRIV reaches its own basins alone, and writes there only
the MASK of a vector (R385). -/
def State.portRight (s : State) (m : Master) (off : Nat) (write : Bool) : Bool :=
  match m with
  | .portA h => s.on (GLB_HPART_CTL_PRIV h.val) || (h.val != 0 && inReg off 0x600000 0x700000
      && s.get (BSN_CTL_HPART ((off - 0x600000) / 0x400)) == h.val
      && (!write || (inReg (off % 0x400) 0x100 0x180 && off % 0x10 == 0xC)))
  | _ => true

/-- The remap register of window `w` of a master. -/
def remapOff (m : Master) (w : Nat) : Nat :=
  match m with
  | .portA _ => R_CX_REMAP0 w
  | .portB => R_CX_REMAP1 w
  | _ => R_CX_REMAP3 w

/-- The cistern address an aperture offset stands for (R382). -/
def State.aptAddr (s : State) (m : Master) (off : Nat) : Option Nat :=
  let r := s.rd (remapOff m ((off - 0x800000) / 0x200000))
  let a := bits r 21 7 * 0x200000 + (off - 0x800000) % 0x200000
  if bit r 0 ∧ a < viewEnd ∧ off % 4 = 0 then some a else none

/-- The power domain that a cistern address resolves to; PD_AO where no bank is behind it. -/
def State.aptDom (s : State) (a : Nat) (write : Bool) : Nat :=
  match s.cisDecode a write false with
  | .at_ r copy part _ => 16 + bankOf (if write then r else s.readCopy r copy part)
  | _ => domAO

/-- What occupies an offset: the cistern address of an aperture access, and the domain; `none` where nothing does (R13). -/
def State.cxPlace (s : State) (m : Master) (off : Nat) (write : Bool) : Option (Option Nat × Nat) :=
  if 0x800000 ≤ off then (s.aptAddr m off).map (fun a => (some a, s.aptDom a write))
  else (regRow off).map (fun r => (none, r.2))

/-! ### Burst holds (R384) -/

/-- Does another master's standing hold keep master `i` from target `t`? -/
def State.heldByOther (s : State) (i t : Nat) : Bool := s.wh.holds.any (fun h => h.1 != i && h.2.2 == some t)

def State.setHolds (s : State) (l : List (Nat × Nat × Option Nat)) : State := { s with wh := { s.wh with holds := l } }

/-- Master `i` is granted target `t`: its hold takes the target, and ends at another one. A transfer of several dwords holds
its path in the same way. -/
def State.holdStart (s : State) (i t : Nat) (job : Bool) : State :=
  let rest := s.wh.holds.filter (fun h => h.1 != i)
  match s.wh.holds.find? (fun h => h.1 == i) with
  | some (_, n, none) => s.setHolds (rest ++ [(i, n, some t)])
  | some (_, _, some u) => if u = t then s else s.setHolds rest
  | none => match (if job then s.wh.jobs.find? (fun j => j.m == i) else none) with
    | some j => if j.got.isEmpty ∧ 1 < j.left then s.setHolds (rest ++ [(i, j.left, some t)]) else s
    | none => s

/-- A covered access of master `i` completes. -/
def State.holdUse (s : State) (i : Nat) : State :=
  s.setHolds (s.wh.holds.flatMap (fun h => if h.1 = i then (if h.2.1 ≤ 1 then [] else [(i, h.2.1 - 1, h.2.2)]) else [h]))

/-! ### One access -/

/-- What an attempt at an access comes to: it completes, its data-path access is out, or it waits. -/
inductive CxRes where
  | done (st : Status) (d : Nat) (s : State)
  | out (id : Nat) (s : State)
  | wait (s : State)

/-- An aperture access through CX's tile NI (R383). -/
def State.aptIssue (s : State) (a : Nat) (w : Option Word) (priv : Nat) (g : Option (Nat × Nat)) : Nat × State :=
  let tc := s.get CX_CFG_APT_TC
  let kind := if w.isSome then kWRITE_NP else kREAD
  let (id, s) := s.accOpen cxTile kind (if w.isSome then [] else [0]) .master
  let p : Pkt := { pkt0 kind tc (vnOf 1 tc) 1 0 (tileEid s.node cxTile) w.toList with addr := a, priv := priv }
  (id, (s.sendCis cxTile id false p 0 g).accSettle cxTile)

/-- A finished data-path access leaves CX's records. -/
def State.aptTake (s : State) (id : Nat) : Option (MAcc × State) :=
  match s.req.done.find? (fun a => a.id == id) with
  | some a => some (a, { s with req := { s.req with done := s.req.done.filter (fun x => x.id != id) } })
  | none => match s.req.accs.find? (fun a => a.id == id && a.left == 0) with
    | some a => some (a, { s with req := { s.req with accs := s.req.accs.filter (fun x => x.id != id) } })
    | none => none

/-- Data of a finished aperture access: a failed read returns 0. -/
def aptData (a : MAcc) : Nat := if a.status = .ok then (a.data.getD 0 0).toNat else 0

/-- Does an access to a domain wake it? -/
def State.woa (s : State) (d : Nat) : Bool := d != domAO && s.on (PW_DOM_CFG_WAKE_ON_ACCESS d)

/-- The register or aperture access itself, once every check has passed. -/
def State.cxPerform (s : State) (x : CxAcc) (apt : Option Nat) : CxRes :=
  match apt with
  | some a =>
    let (id, s) := s.aptIssue a x.w 1 none
    .out id s
  | none =>
    let s := s.holdUse (masterIdx x.m)
    match x.w with
    | none => let r := s.regRead x.m x.off; .done .ok r.1 r.2
    | some w => let r := s.regWrite x.m x.off w.toNat; .done r.1 0 r.2

/-- An access to a target that the crossbar has a path to (R365, R381, R384). -/
def State.cxAt (s : State) (x : CxAcc) (t : Nat) (apt : Option Nat) (d : Nat) : CxRes :=
  let i := masterIdx x.m
  if s.heldByOther i t ∨ (t = 7 ∧ s.wh.cxq.any (fun y => y.out.isSome)) then .wait s
  else if s.regAsleep d then
    (if s.woa d ∧ !s.pw.lost.contains d then .wait (s.castVote d (PW_DOM_VOTE_ACCESS d) 4)
    else .done .targetAsleep (if x.w.isNone then asleepWord else 0)
      (((s.holdStart i t x.job).holdUse i).count (C_PW_DOM_ASLEEP d)))
  else ((s.doIf (s.woa d && decide (d < 62)) (fun s => s.castVote d (PW_DOM_VOTE_ACCESS d) 4)).holdStart i t x.job).cxPerform x apt

/-- An attempt at the access at the head of an input: rights, path, decode, then the target (R13, R380, R385). -/
def State.cxServe (s : State) (x : CxAcc) : CxRes :=
  if !s.portRight x.m x.off x.w.isSome then .done .unsupported 0 s
  else match cxTarget x.off with
  | none => .done .unsupported 0 s
  | some t =>
    if !cxPath x.m t then .done .unsupported 0 (s.count C_CX_CONN_DENY)
    else match s.cxPlace x.m x.off x.w.isSome with
    | none => .done .unsupported 0 s
    | some (apt, d) => s.cxAt x t apt d

/-! ### Transfers of several dwords (R384 to R386) -/

/-- The first outcome that is not OK. -/
def firstAcc (l : List Acc) : Status := ((l.find? (fun a => a.status != .ok)).map (·.status)).getD .ok

/-- A transfer has ended: a TLP is answered, a Port B frame keeps or returns its outcome. -/
def State.finishJob (s : State) (j : CxJob) : State :=
  let st := firstAcc j.got
  match j.tlp with
  | some p =>
    if pktClass p ≠ 1 then s
    else s.answerAt cxTile (if j.read ∧ st = .ok then mkCplD p .ok (j.got.map (·.data)) else mkCpl p st)
  | none =>
    if j.read then
      let bs := j.got.flatMap (fun a => a.status.code :: leBytes 4 a.data.toNat)
      s.send (.pb (bs ++ [crc8 bs]))
    else
      let n := (j.got.filter (fun a => a.status == .ok)).length
      { s with wh := { s.wh with pbStat := st.code, pbCount := n } }

/-- An outcome for the transfer at input `i`. -/
def State.jobStep (s : State) (i : Nat) (a : Acc) : State :=
  match s.wh.jobs.find? (fun j => j.m == i) with
  | none => s
  | some j =>
    let j' : CxJob := { j with got := j.got ++ [a], left := j.left - 1 }
    let rest := dropFirst (fun (y : CxJob) => y.m == i) s.wh.jobs
    if j'.left = 0 then ({ s with wh := { s.wh with jobs := rest } }).finishJob j'
    else { s with wh := { s.wh with jobs := s.wh.jobs.map (fun y => if y == j then j' else y) } }

/-- An access has completed: its master hears, or its transfer goes on. -/
def State.cxDone (s : State) (x : CxAcc) (st : Status) (d : Nat) : State :=
  if x.job then s.jobStep (masterIdx x.m) ⟨st, BitVec.ofNat 32 d⟩ else s.answer x.m st d

/-! ### The inputs (R381) -/

/-- The access at the head of input `i`. -/
def State.cxFirst (s : State) (i : Nat) : Option CxAcc := s.wh.cxq.find? (fun x => masterIdx x.m == i)

def State.cxPop (s : State) (i : Nat) : State :=
  { s with wh := { s.wh with cxq := dropFirst (fun x => masterIdx x.m == i) s.wh.cxq } }

/-- The access at the head of an input now waits for a data-path access. -/
def State.cxOut (s : State) (x : CxAcc) (id : Nat) : State :=
  let x' : CxAcc := { x with out := some id }
  let rest := dropFirst (fun (y : CxAcc) => masterIdx y.m == masterIdx x.m) s.wh.cxq
  { s with wh := { s.wh with cxq := x' :: rest } }

/-- The target of an access has served its master. -/
def State.cxServed (s : State) (x : CxAcc) : State :=
  match cxTarget x.off with
  | some t => { s with wh := { s.wh with served := tset s.wh.served t (masterIdx x.m) } }
  | none => s

/-- Tries the head of input `i`: whether anything moved, and the state after. -/
def State.cxStep (s : State) (i : Nat) : Bool × State :=
  match s.cxFirst i with
  | none => (false, s)
  | some x => match x.out with
    | some id => match s.aptTake id with
      | some (a, s) => (true, ((s.holdUse i).cxPop i).cxDone x a.status (aptData a))
      | none => (false, s)
    | none => match s.cxServe x with
      | .done st d s => (true, ((s.cxServed x).cxPop i).cxDone x st d)
      | .out id s => (true, (s.cxServed x).cxOut x id)
      | .wait s => (false, s)

/-- The place of input `i` in its target's round: the master after the one served last comes first. -/
def State.cxTurn (s : State) (i : Nat) : Nat :=
  match (s.cxFirst i).bind (fun x => cxTarget x.off) with
  | some t => (i + 3 - tgetD s.wh.served t 3) % 4
  | none => 0

/-- One grant: the first input, in the order of the rounds, that can move. -/
def State.cxRound (s : State) : Bool × State :=
  let order := (List.range 4).flatMap (fun k => [0, 1, 2].filter (fun i => s.cxTurn i == k))
  order.foldl (fun (a : Bool × State) i => if a.1 then a else a.2.cxStep i) (false, s)

def State.cxDrain : Nat → State → State
  | 0, s => s
  | n + 1, s => let r := s.cxRound; if r.1 then State.cxDrain n r.2 else r.2

/-- Does CX run? It lies in PD_CORE. -/
def State.cxOn (s : State) : Bool := !s.pw.halted && decide (s.dom domCore ≤ dDRAINING)

/-- The debug master's aperture access completes when its response has come (R349). -/
def State.dbgDrain (s : State) : State :=
  match s.gd.dbgOut with
  | none => s
  | some id => match s.aptTake id with
    | none => s
    | some (a, s) => ({ s with gd := { s.gd with dbgOut := none, dbgDone := true } }).answer .debug a.status (aptData a)

/-- CX serves what it can. -/
def State.cxRun (s : State) : State := if s.cxOn then (State.cxDrain (2 * s.wh.cxq.length + 2) s).dbgDrain else s

/-- An access enters the input of its master. -/
def State.enter (s : State) (m : Master) (off : Nat) (w : Option Word) (job : Bool) : State :=
  { s with wh := { s.wh with cxq := s.wh.cxq ++ [(⟨m, off, w, job, none⟩ : CxAcc)] } }

/-- A transfer of several dwords enters the input of its master. -/
def State.enterJob (s : State) (m : Master) (off n : Nat) (data : Option (List Word)) (tlp : Option Pkt) : State :=
  let j : CxJob := ⟨masterIdx m, n, [], data.isNone, tlp⟩
  let s := { s with wh := { s.wh with jobs := s.wh.jobs ++ [j] } }
  (s.forEach (List.range n) (fun i u => u.enter m (off + 4 * i) (data.map (fun ws => ws.getD i 0)) true)).cxRun

/-! ### The debug master (R348 to R350, R452) -/

/-- A LOCKED answer to the debug master, counted and recorded (R350). -/
def State.dbgDeny (s : State) (off : Nat) (write : Bool) (reason : Nat) : State :=
  let s := s.count C_SC_DBG_DENY_CNT
  if s.on SC_DBG_DENY0_VALID then s
  else (s.wr R_SC_DBG_DENY0 (off % 2 ^ 24 + b2n write * 2 ^ 24 + reason * 2 ^ 25 + s.get SC_LIFECYCLE_STATE * 2 ^ 28 + 2 ^ 31)).put
    SC_DBG_DENY1_NS s.nowNs

/-- Does an aperture address resolve into a sealed partition? -/
def State.sealedView (s : State) (a : Nat) (write : Bool) : Bool :=
  match s.cisDecode a write false with
  | .at_ r _ _ _ => s.sealed r
  | _ => false

/-- The reason of the lock and seal step for a debug access, 0 if none applies (R350). -/
def State.dbgReason (s : State) (off : Nat) (apt : Option Nat) (w : Option Word) : Nat :=
  match apt with
  | some a => if s.sealedView a w.isSome then 2 else 0
  | none =>
    let part := inReg off 0x3F0000 0x3F0200
    let n := (off - 0x3F0000) / 0x10
    if w.isSome ∧ inReg off 0x70000 0x80000 then 3
    else if part && off % 0x10 == 8 && !s.on (PART_CTL_SEAL n) && (match w with | some v => bit v.toNat 9 | none => false) then 5
    else if (match lockGroup off with | some g => bit (s.get SC_LOCK_GROUPS) g | none => false) then 1
    else 0

def State.dbgAnswer (s : State) (st : Status) (d : Nat) : State :=
  ({ s with gd := { s.gd with dbgDone := true } }).answer .debug st d

/-- Steps 4 to 6 of R349. -/
def State.dbgLate (s : State) (off : Nat) (w : Option Word) (apt : Option Nat) (d : Nat) : State :=
  let life := s.get SC_LIFECYCLE_STATE
  let r := s.dbgReason off apt w
  if r ≠ 0 ∧ (w.isSome ∨ life ≠ 0) then (s.dbgDeny off w.isSome r).dbgAnswer .locked 0
  else if s.regAsleep d then
    (s.count (C_PW_DOM_ASLEEP d)).dbgAnswer .targetAsleep (if w.isNone then asleepWord else 0)
  else
    let now := s.ns
    let s := { s with pw := { s.pw with dbgAt := tset s.pw.dbgAt d now } }
    match apt with
    | some a =>
      let g := s.guardTag 29
      let (id, s) := (s.guardOpen g.1 g.2 true).aptIssue a w (if life = 2 then 0 else 1) (some g)
      ({ s with gd := { s.gd with dbgOut := some id, dbgDone := false } }).dbgDrain
    | none => match w with
      | none => let r := s.regRead .debug off; r.2.dbgAnswer .ok r.1
      | some v =>
        let r := s.regWrite .debug off v.toNat
        (r.2.doIf (r.1 == .locked) (·.dbgDeny off true 2)).dbgAnswer r.1 0

/-- One access of the debug master, settled in the order of R349. The shift that brings it has captured OVERRUN, which shows
whether this GO is ignored (R452). -/
def State.debugAccess (s : State) (off : Nat) (w : Option Word) : State :=
  let busy := s.gd.dbgOut.isSome
  let s := { s with gd := { s.gd with dbgOver := busy } }
  if busy then s
  else if !s.cxOn then s
  else match cxTarget off with
  | none => s.dbgAnswer .unsupported 0
  | some t =>
    if !cxPath .debug t then (s.count C_CX_CONN_DENY).dbgAnswer .unsupported 0
    else match s.cxPlace .debug off w.isSome with
    | none => s.dbgAnswer .unsupported 0
    | some (apt, d) =>
      if s.on SC_DBG_CTL_DIS then (s.dbgDeny off w.isSome 4).dbgAnswer .locked 0
      else
        let who : GuardWho := ⟨0, s.get SC_LIFECYCLE_STATE != 2, 0, 0, 0, s.node⟩
        let (ok, s) := s.guardCheck 29 (if w.isSome then .w else .r) false who [(off, 4)]
        if ok.isEmpty then s.dbgAnswer .guardFault 0 else s.dbgLate off w apt d

/-- DEBUG_ACCESS (R349, R452). -/
def execDebugAccess (off : Nat) (w : Option Word) (s : State) : Out := act s (s.debugAccess off w)

/-- DEBUG_ACCESS_TIMEOUT: 2 µs after its grant (R349). -/
def execDebugAccessTimeout (s : State) : Out :=
  act s (if s.gd.dbgOut.isNone then s.smIgnored
    else ({ s with gd := { s.gd with dbgOut := none } }).dbgAnswer .timeout 0)

/-! ### Accesses of control masters -/

/-- A control master issues one access. -/
def State.access (s : State) (m : Master) (off : Nat) (w : Option Word) : State :=
  match m with
  | .debug => s.debugAccess off w
  | _ => (s.enter m off w false).cxRun

/-- A write of one field: the other bits of the register are written as they read. -/
def State.accessFld (s : State) (m : Master) (f : Fld) (v : Nat) : State :=
  s.access m f.off (some (BitVec.ofNat 32 (insBits (s.rd f.off) f.lo f.w v)))

/-- A write of a whole word. -/
def State.accessWord (s : State) (m : Master) (off v : Nat) : State := s.access m off (some (BitVec.ofNat 32 v))

/-! ### Rows of the crossbar itself -/

/-- BURST_HOLD_EXPIRE: 2 µs after the grant of the first covered access of input `i` (R384). -/
def execBurstHoldExpire (i : Nat) (s : State) : Out :=
  act s (if s.wh.holds.any (fun h => h.1 == i && h.2.2.isSome) then
      ((s.setHolds (s.wh.holds.filter (fun h => h.1 != i))).count C_CX_HOLD_EXPIRE).cxRun
    else s.smIgnored)

/-- WAKE_ON_ACCESS_TIMEOUT: the access at the head of input `i` has stalled for 25 µs (R365). -/
def execWakeOnAccessTimeout (i : Nat) (s : State) : Out :=
  act s (match s.cxFirst i with
    | none => s.smIgnored
    | some x => match s.cxPlace x.m x.off x.w.isSome, cxTarget x.off with
      | some (_, d), some t =>
        if x.out.isSome ∨ !s.regAsleep d ∨ !s.woa d then s.smIgnored
        else
          let s := ((s.count (C_PW_DOM_WOA_TMO d)).count (C_PW_DOM_ASLEEP d)).pwEvt 11
          ((((s.holdStart i t x.job).holdUse i).cxPop i).cxDone x .targetAsleep (if x.w.isNone then asleepWord else 0)).cxRun
      | _, _ => s.smIgnored)

/-- WAKE_COMPLETE: the restored or initialised domain is ON and what was held for it is released (Table 13-4). A wake of
PD_WH from OFF is a restart of the Wellhead (R399). -/
def execWakeComplete (d : Nat) (s : State) : Out :=
  act s (if 62 ≤ d then s.smIgnored
    else if s.dom d ≠ dWAKING ∨ s.pw.lost.contains d then s.pwIgnored
    else
      let s := (s.doIf (s.bankBack d) (fun s => s.bankWipe (d - 16))).domUp d
      let again := d == 60 && s.wh.whLost
      let s := s.doIf again (fun s => ({ s with wh := { s.wh with whLost := false } }).doIf s.wh.booted (·.whRestart))
      s.cxRun)

/-! ### Control Port B (R386, R457) -/

/-- Is a Port B transfer unfinished? -/
def State.pbBusy (s : State) : Bool := s.wh.jobs.any (fun j => j.m == 1 && j.tlp.isNone)

/-- Does a frame end with the CRC-8 of its bytes, its command byte `c` first? -/
def frameOk (c : Nat) (body : List Nat) : Bool :=
  match body.getLast? with
  | none => false
  | some e => crc8 (c :: body.dropLast) == e

/-- A frame with a bad CRC or length performs nothing. -/
def State.frameErr (s : State) : State :=
  ({ s with wh := { s.wh with pbStat := 0x80, pbCount := 0, pbSetup := none } }).count C_CX_PB_FRAME_ERR

/-- A frame that reaches the block: the host die's target refuses it while CX sleeps. -/
def State.frame (s : State) (f : State → State) : State := if !s.cxOn then s else if s.pbBusy then s.smIgnored else f s

/-- PB_WRITE_FRAME: the bytes after the command byte, the CRC last. -/
def execPbWriteFrame (body : List Nat) (s : State) : Out :=
  act s (s.frame (fun s =>
    let n := body.length / 4 - 1
    if body.length % 4 ≠ 0 ∨ n = 0 ∨ 16 < n ∨ !frameOk 1 body then s.frameErr
    else s.enterJob .portB (ofLeBytes (body.take 3)) n (some (bytesWords ((body.drop 3).take (4 * n)))) none))

/-- PB_READ_SETUP. -/
def execPbReadSetup (body : List Nat) (s : State) : Out :=
  act s (s.frame (fun s =>
    let n := body.getD 3 0
    if body.length ≠ 5 ∨ 15 < n ∨ !frameOk 2 body then s.frameErr
    else { s with wh := { s.wh with pbSetup := some (some (ofLeBytes (body.take 3), n + 1)) } }))

/-- PB_STATUS_SETUP. -/
def execPbStatusSetup (body : List Nat) (s : State) : Out :=
  act s (s.frame (fun s =>
    if body.length ≠ 1 ∨ !frameOk 3 body then s.frameErr
    else { s with wh := { s.wh with pbSetup := some none } }))

/-- PB_READ_FRAME: what the last setup names; `n` bytes of 0xFF without one. -/
def execPbReadFrame (n : Nat) (s : State) : Out :=
  act s (s.frame (fun s =>
    let u := { s with wh := { s.wh with pbSetup := none } }
    match s.wh.pbSetup with
    | none => s.send (.pb (List.replicate n 0xFF))
    | some none =>
      let bs := [s.wh.pbStat, s.wh.pbCount]
      u.send (.pb (bs ++ [crc8 bs]))
    | some (some (off, k)) => u.enterJob .portB off k none none))

/-! ### Control Port A (R385) -/

/-- A memory TLP at CX is a transfer of its partition. -/
def State.portAJob (s : State) (p : Pkt) : State :=
  match p.tlp with
  | none => s
  | some x =>
    let m : Master := .portA ⟨x.part % 30, Nat.mod_lt _ (by decide)⟩
    if x.typ = tyMRd then s.enterJob m p.addr (reqLen p) none (some p)
    else s.enterJob m p.addr p.data.length (some p.data) (some p)

end Sys2Proof.Machine
end

