-- ==== Sys2Proof/Machine/Accesses.lean ====
section
/-! DEFINITION. The rows that are reads and writes of registers by a control master. Each is one access through the
crossbar; what it does at its register stands in Machine/Registers.lean. A row about one field writes the other bits of
its register as they read. An index outside its range names no register (R16). -/

namespace Sys2Proof.Machine

/-! ### Registers in general (00, 17) -/

def execRegisterRead (m : Master) (off : Nat) (s : State) : Out := act s (s.access m off none)

def execRegisterWrite (m : Master) (off : Nat) (w : Word) (s : State) : Out := act s (s.access m off (some w))

/-- COUNTER_SNAPSHOT_READ: the low word, with the high word latched for the master (R10). -/
def execCounterSnapshotRead (m : Master) (off : Nat) (s : State) : Out :=
  act s (if (counterAt off).isNone then s.smIgnored else s.access m off none)

/-- COUNTER_CLEAR: a write of the low word of an RS counter (R9, R445). -/
def execCounterClear (m : Master) (off : Nat) (s : State) : Out :=
  act s (if (counterAt off).isNone then s.smIgnored else s.access m off (some 0))

/-- STAGE_LOW_WORD (R12). -/
def execStageLowWord (m : Master) (off : Nat) (w : Word) (s : State) : Out :=
  act s (if !lowOf64 off then s.smIgnored else s.access m off (some w))

/-- COMMIT_HIGH_WORD (R12). -/
def execCommitHighWord (m : Master) (off : Nat) (w : Word) (s : State) : Out :=
  act s (if off < 4 ∨ !lowOf64 (off - 4) then s.smIgnored else s.access m off (some w))

/-- CISTERN_APERTURE_ACCESS (R382, R383). -/
def execCisternApertureAccess (m : Master) (off : Nat) (w : Option Word) (s : State) : Out :=
  act s (if !inReg off 0x800000 0x1000000 then s.smIgnored else s.access m off w)

/-! ### Time (02) -/

/-- TM_NOW_READ (R35). -/
def execTmNowRead (m : Master) (s : State) : Out := act s (s.access m R_TM_NOW_NS none)

/-- FRAME_SWITCH_ARM (R57). -/
def execFrameSwitchArm (m : Master) (v : Word) (s : State) : Out := act s (s.access m R_TM_FRAME_SWITCH_HI (some v))

/-- FRAME_PERIOD_WRITE: TM_FRAME_PHASE where `phase` is set, else TM_FRAME_PERIOD (R54). -/
def execFramePeriodWrite (m : Master) (phase : Bool) (v : Word) (s : State) : Out :=
  act s (s.access m (if phase then R_TM_FRAME_PHASE else R_TM_FRAME_PERIOD) (some v))

/-! ### Planes and routers (04) -/

/-- PLANE_REQ_CLEAR (R120). -/
def execPlaneReqClear (m : Master) (p : Nat) (s : State) : Out := act s (if 2 ≤ p then s.smIgnored else s.accessFld m (planeReq p) 0)

/-- PLANE_REQ_SET (R120). -/
def execPlaneReqSet (m : Master) (p : Nat) (s : State) : Out := act s (if 2 ≤ p then s.smIgnored else s.accessFld m (planeReq p) 1)

/-- ROUTER_FENCE_SET (R125). -/
def execRouterFenceSet (m : Master) (p t v : Nat) (s : State) : Out :=
  act s (if 2 ≤ p ∨ 64 ≤ t then s.smIgnored else s.accessFld m (RT_FENCE_PORTS p t) v)

/-- HI_WEIGHT_WRITE (R124). -/
def execHiWeightWrite (m : Master) (p t v : Nat) (s : State) : Out :=
  act s (if 2 ≤ p ∨ 64 ≤ t then s.smIgnored else s.accessFld m (RT_CTL_HI_WEIGHT p t) v)

/-- ELIM_ENTRY_WRITE: STREAM and EN of an entry (R147). -/
def execElimEntryWrite (m : Master) (t n v : Nat) (s : State) : Out :=
  act s (if elimBase t = 0 ∨ 1024 ≤ n then s.smIgnored else s.accessWord m (R_NI_ELIM_CFG (elimBase t) n) (v % 2 ^ 16))

/-! ### Gates, barriers, links and slots (06, 08, 09, 10) -/

/-- GCL_SWAP_ARM (R162). -/
def execGclSwapArm (m : Master) (p : Nat) (v : Word) (s : State) : Out :=
  act s (if 128 ≤ p then s.smIgnored else s.access m (R_GCL_SWAP_HI (portC p) (portK p)) (some v))

/-- WH_BARRIER_WRITE (R242). -/
def execWhBarrierWrite (scope : Nat) (s : State) : Out :=
  act s (if !s.whIssues then s.smIgnored else s.accessWord .wellhead R_CX_WHBAR (scope % 4))

/-- LINK_EN_SET (Table 9-10). -/
def execLinkEnSet (m : Master) (p : Nat) (s : State) : Out :=
  act s (if 128 ≤ p then s.smIgnored else s.accessFld m (LNK_CTL_EN (portC p) (portK p)) 1)

/-- LINK_EN_CLEAR (Table 9-10). -/
def execLinkEnClear (m : Master) (p : Nat) (s : State) : Out :=
  act s (if 128 ≤ p then s.smIgnored else s.accessFld m (LNK_CTL_EN (portC p) (portK p)) 0)

/-- LNK_RETRAIN_WRITE (Table 9-10). -/
def execLnkRetrainWrite (m : Master) (p : Nat) (s : State) : Out :=
  act s (if 128 ≤ p then s.smIgnored else s.accessFld m (LNK_CTL_RETRAIN (portC p) (portK p)) 1)

/-- SLOT_CFG_EN (Table 10-5). -/
def execSlotCfgEn (m : Master) (n : Nat) (en : Bool) (s : State) : Out :=
  act s (if 64 ≤ n then s.smIgnored else s.accessFld m (SLOT_CFG_EN n) (b2n en))

/-- SLOT_CLR_FAULT (Table 10-5). -/
def execSlotClrFault (m : Master) (n : Nat) (s : State) : Out :=
  act s (if 64 ≤ n then s.smIgnored else s.accessFld m (SLOT_CTL_CLR_FAULT n) 1)

/-- SLOT_POWER_OFF (Table 10-5). -/
def execSlotPowerOff (m : Master) (n : Nat) (s : State) : Out :=
  act s (if 64 ≤ n then s.smIgnored else s.accessFld m (SLOT_CTL_POWER n) 0)

/-! ### Basins, guards, power (11, 12, 13) -/

/-- VECTOR_UNMASK (R329). -/
def execVectorUnmask (m : Master) (b v : Nat) (s : State) : Out :=
  act s (if 1024 ≤ b ∨ 8 ≤ v then s.smIgnored else s.accessFld m (VEC_CTL_MASK b v) 0)

/-- GUARD_SWAP_GO (R344, R345). -/
def execGuardSwapGo (m : Master) (n : Nat) (s : State) : Out :=
  act s (if 30 ≤ n then s.smIgnored else s.accessWord m (R_GD_SWAP n) 1)

/-- LOCK_BIT_WRITE (R346). -/
def execLockBitWrite (m : Master) (g : Nat) (s : State) : Out :=
  act s (if 32 ≤ g then s.smIgnored else s.accessWord m R_SC_LOCK (2 ^ g))

/-- SEAL_BIT_WRITE (R194). -/
def execSealBitWrite (m : Master) (n : Nat) (s : State) : Out :=
  act s (if 32 ≤ n then s.smIgnored else s.accessFld m (PART_CTL_SEAL n) 1)

/-- EDGE_WAKE (R362). -/
def execEdgeWake (m : Master) (d : Nat) (s : State) : Out :=
  act s (if 62 ≤ d then s.smIgnored else s.accessWord m (R_PW_DOM_WAKE d) 1)

/-! ### The crossbar, semaphores, mailboxes and the Wellhead (14) -/

/-- BURST_HOLD_ARM: a write of the master's own CX_HOLD (R384). -/
def execBurstHoldArm (m : Master) (n : Nat) (s : State) : Out := act s (s.accessWord m (R_CX_HOLD (masterIdx m)) (n % 32))

/-- SEM_ACQUIRE (R387). -/
def execSemAcquire (m : Master) (n : Nat) (s : State) : Out := act s (if 32 ≤ n then s.smIgnored else s.access m (R_SEM n) none)

/-- SEM_RELEASE (R387). -/
def execSemRelease (m : Master) (n v : Nat) (s : State) : Out :=
  act s (if 32 ≤ n then s.smIgnored else s.accessWord m (R_SEM n) v)

/-- MAILBOX_DOORBELL (R392). -/
def execMailboxDoorbell (m : Master) (mb : Nat) (s : State) : Out :=
  act s (if 2 ≤ mb then s.smIgnored else s.accessWord m (R_MB_DB mb) 1)

/-- MAILBOX_ACK (R392). -/
def execMailboxAck (m : Master) (mb : Nat) (s : State) : Out :=
  act s (if 2 ≤ mb then s.smIgnored else s.accessWord m (R_MB_STAT mb) 8)

/-- The BOOT_SLOT bit of GLB_WH_CTL as it reads. -/
def State.slotBit (s : State) : Nat := 8 * s.get GLB_WH_CTL_BOOT_SLOT

/-- WH_READY (R398). -/
def execWhReady (s : State) : Out := act s (s.accessWord .wellhead R_GLB_WH_CTL (2 + s.slotBit))

/-- WH_HEARTBEAT (R399). -/
def execWhHeartbeat (s : State) : Out := act s (s.accessWord .wellhead R_GLB_WH_CTL (1 + s.slotBit))

/-- WH_RESTART (R399). -/
def execWhRestart (m : Master) (s : State) : Out := act s (s.accessWord m R_GLB_WH_CTL (4 + s.slotBit))

/-! ### Faults (15) -/

/-- FLT_RD_WRITE (R408). -/
def execFltRdWrite (m : Master) (v : Nat) (s : State) : Out := act s (s.accessWord m R_GLB_FLT_RD (v % 64))

/-- BANK_RETURN (R419). -/
def execBankReturn (m : Master) (b : Nat) (s : State) : Out :=
  act s (if 24 ≤ b then s.smIgnored else s.accessWord m (R_CT_RETURN b) 1)

end Sys2Proof.Machine
end

