-- ==== Sys2Proof/Machine/Tiles.lean ====
section
/-! DEFINITION. Reads and writes at their target tile, CX among them, and the completions of requests (R97, R184, R232,
R248, R339, R385, R413). -/

namespace Sys2Proof.Machine

/-- A memory TLP that reached CX: Control Port A (R385). -/
def atPortA (t : Nat) (p : Pkt) : Bool := t == cxTile && p.kind == kTLP

/-- READ (R232): the NI of tile `t` serves the oldest read delivered to it. -/
def execRead (t : Nat) (s : State) : Out :=
  act s (match s.takeArrived t (fun p => (p.kind == kREAD && p.len != 0) || isTlp p tyMRd) with
    | (none, s) => s.smIgnored
    | (some p, s) => if atPortA t p then s.portAJob p else (s.serveRead t p).cxRun)

/-- WRITE_P (R76, R233): a posted write has no response; a LOCKED one is counted at the bank. -/
def State.postedWrite (s : State) (t : Nat) (p : Pkt) : State :=
  let r := s.bankStore t p
  match bankAt t with
  | some b => r.2.doIf (r.1 == .locked) (·.count (C_CT_SEAL_DROP b))
  | none => r.2

def execWriteP (t : Nat) (s : State) : Out :=
  act s (match s.takeArrived t (fun p => p.kind == kWRITE_P || isTlp p tyMWr) with
    | (none, s) => s.smIgnored
    | (some p, s) => if atPortA t p then s.portAJob p else s.postedWrite t p)

/-- WRITE_NP (R76, R233): answered by CPL. -/
def execWriteNp (t : Nat) (s : State) : Out :=
  act s (match s.takeArrived t (fun p => p.kind == kWRITE_NP || isTlp p tyDMWr) with
    | (none, s) => s.smIgnored
    | (some p, s) =>
      if atPortA t p then s.portAJob p
      else
        let r := s.bankStore t p
        (r.2.cplBack t p r.1).cxRun)

/-! ### What finished accesses set going (R206, R272, R274, R325) -/

/-- A finished access goes to the unit that waits for it. -/
def State.handOver (s : State) (a : MAcc) : State :=
  match a.taker with
  | .ring b i => s.ringJob b i a
  | .flit p q => s.flitBack p q (a.status == .ok) (wordsBytes a.data)
  | .spilled p vn => s.spilledBack p vn (a.status == .ok) (wordsBytes a.data)
  | _ => s

/-- Is an access for the job of an engine? -/
def MAcc.ofJob (a : MAcc) : Bool := match a.taker with | .job _ => true | _ => false

/-- Rings, links and engines take what their accesses have brought, and engines go on (at most `n` rounds). -/
def State.advanceFor : Nat → State → State
  | 0, s => s
  | n + 1, s =>
    let rs := s.req.ready.filter (fun a => !a.ofJob)
    let s := { s with req := { s.req with ready := s.req.ready.filter MAcc.ofJob } }
    let s := s.forEach rs (fun a u => u.handOver a)
    let s := s.forEach (s.kt.run.map (·.e)) (fun e u => u.engResume e)
    if s.req.ready.isEmpty then s else State.advanceFor n s

def State.advance (s : State) : State := State.advanceFor 4 s

/-! ### Responses and receipts (R94 to R97, R117, R122) -/

/-- CPL (R97): a response that matches no outstanding entry is discarded. -/
def execCpl (t : Nat) (s : State) : Out :=
  act s (match s.takeArrived t (fun p => pktClass p == 2) with
    | (none, s) => s.smIgnored
    | (some c, s) => match s.roMatch t c with
      | none => s.count (C_NI_LATE_DISCARD (niBase t))
      | some e => ((s.response t c e).advance).cxRun)

/-- RECEIPT (R117): the oldest receipt word that has reached source tile `t`. What waits for room in the retention store, or
for posted data to be receipted, goes on (R211). -/
def execReceipt (t : Nat) (s : State) : Out :=
  act s (match s.mesh.rcpts.find? (fun r => r.tgt == t) with
    | none => s.smIgnored
    | some r => (({ s with mesh := { s.mesh with rcpts := dropFirst (fun x => x.tgt == t) s.mesh.rcpts } }).freeKept r).advance)

/-- END_WORD (R122). -/
def execEndWord (t d : Nat) (s : State) : Out :=
  act s (match s.mesh.ends.find? (fun e => e.2.1 == t && e.2.2 == d) with
    | none => s.smIgnored
    | some e => (s.endWord e.1 t d).advance)

/-- An outstanding entry retires without its response (R97): its requester hears `st`. -/
def State.entryLost (s : State) (t tag : Nat) (e : RoEntry) (st : Status) : State := (s.roRetire t tag).orgDone t e st []

end Sys2Proof.Machine
end

