-- ==== Sys2Proof/Machine/Resets.lean ====
section
/-! DEFINITION. Cold reset, warm reset with its drain, and the two events that may release a held warm reset (R66, R67, R179,
R250, R253, R256, R351, R377, R402, R422, R453 to R461). -/

namespace Sys2Proof.Machine

/-! ### Cold reset (R422, R453, R458 to R460) -/

/-- Every piece of the block returns to its reset value and every packet is discarded without a count (R254, Table 15-5). The
queue of commands, the record of what was sent and the counter of free values are the model's own. -/
def State.coldClear (s : State) : State :=
  let held := s.wh.imgHeld
  { State.reset with fv := s.fv, sent := s.sent, pending := s.pending, wh := { State.reset.wh with imgHeld := held } }

/-- COLD_RESET_ASSERT (R460): SAFE_OUT is high while COLD_RST_N is low (R458). -/
def execColdResetAssert (s : State) : Out :=
  fin (
    let s := s.coldClear
    { s with wh := { s.wh with imgHeld := none, coldLow := true, safeOut := true } })

/-- A fuse word: none where it failed to read. -/
def fuseWord (ws : List (Option Nat)) (i : Nat) : Option Nat := (ws[i]?).join

/-- LIFECYCLE by fuse word 0 (Table 18-4): 0 OPEN, 1 RESTRICTED, 2 CLOSED, and FUSE_ERR. -/
def lifecycleOf (w : Option Nat) : Nat × Nat :=
  match w with
  | none => (2, 1)
  | some v =>
    let a := bits v 0 8
    if bits v 8 8 ≠ 255 - a then (2, 1)
    else if a = 0x5A then (0, 0) else if a = 0xA5 then (1, 0) else if a = 0x3C then (2, 0) else (2, 1)

/-- The key hash of words 3 to 14; none if any of them failed. -/
def keyOf (ws : List (Option Nat)) : Option (List Word) :=
  let l := (List.range 12).map (fun i => fuseWord ws (3 + i))
  if l.all (·.isSome) then some (l.map (fun w => BitVec.ofNat 32 (w.getD 0))) else none

/-- The block takes the fuse words (R453, Table 18-4). -/
def State.fuses (s : State) (ws : List (Option Nat)) : State :=
  let (st, err) := lifecycleOf (fuseWord ws 0)
  let w1 := (fuseWord ws 1).getD 0
  let s := (s.put SC_LIFECYCLE_STATE st).put SC_LIFECYCLE_FUSE_ERR err
  let s := (s.put GLB_VENDOR_VID (bits w1 0 16)).put PW_VID_OFS (bits w1 16 4)
  let major := (fuseWord ws 2).map (fun w => w % 65536)
  let trims := (List.range 16).map (fun i => (fuseWord ws (15 + i)).isSome)
  let fio := (fuseWord ws 31).map (fun w => w % 1024)
  { s with wh := { s.wh with minMajor := major, keyHash := keyOf ws, tsTrim := trims, fioTrim := fio } }

/-- The sequence of Table 18-5, whole: fuses, VID, clocks, domains, image store, planes. `acked`: the VID acknowledgement came;
`unlocked`: the clocks of ON_FIO whose PLL has not locked. -/
def State.coldStart (s : State) (ws : List (Option Nat)) (acked : Bool) (unlocked : Nat) : State :=
  let s := s.coldClear.fuses ws
  let s := s.sendVid (s.vidOf 3)
  let s := if acked then s.put PW_VID_ACK 1 else s.put PW_STAT_VID_FAULT 1
  let s := s.forEach ((List.range 6).filter (bit unlocked)) (fun b u => u.setFio b true)
  let held := s.wh.imgHeld
  let s := { s with wh := { s.wh with imgReady := true } }
  let s := match held with | some slot => s.imgDone slot | none => s
  let s := s.forEach (planeDoms 0 ++ planeDoms 1) (fun d u => u.setDom d dON)
  s.forEach [0, 1] (fun p u => if u.on (planeReq p) then u.planeReturn p else u)

/-- COLD_RESET (R458, R459): COLD_RST_N is released. -/
def execColdReset (fuses : List (Option Nat)) (vidAck : Bool) (unlocked : Nat) (s : State) : Out :=
  fin (s.coldStart fuses vidAck unlocked)

/-! ### Warm reset: its start (R67, R402, R422, Table 18-6) -/

/-- The job that an engine runs stops at its next packet boundary and completes with OVERRUN (R422). -/
def State.warmEngine (s : State) (e : Nat) : State :=
  match s.runOf e with
  | none => s
  | some r =>
    if r.q = 0 then s.fpAbort e r.fp
    else
      let scat := s.kt.scat.filter (fun x => x.job.e != e || x.job.id != r.id)
      let s := { s with kt := { s.kt with scat := scat } }
      ((s.dropJob r).jobDone r jOVERRUN r.pst r.fin).engNext e

/-- An update in progress (R402, Table 14-10). -/
def State.warmUpdate (s : State) : State :=
  let u := s.upd
  let s := { s with wh := { s.wh with armS := none, hoBoot := false } }
  if u = uOPEN then s.put GLB_WH_STAT_UPD uIDLE
  else if u = uARMED ∨ u = uHANDOVER then s.put GLB_WH_STAT_UPD uVERIFIED
  else s

/-- What happens at the filtered falling edge (Table 18-6); a debug access in progress completes with TARGET_ABORT (R351). -/
def State.warmStart (s : State) : State :=
  let now := s.ns
  let s := { s with wh := { s.wh with rstBusy := true, rstAt := now, warmHeld := false, holds := [] } }
  let open_ := [0, 1].filter (fun m => s.get (MB_STAT_STATE m) != mbIDLE && s.get (MB_STAT_STATE m) != mbDONE)
  let s := s.forEach open_ (fun m u => u.abortMb m)
  let s := (s.forEach (List.range 32) (fun n u => if u.on (SEM_OWN_OWNER n) then u.freeSem n else u)).warmUpdate
  let s := s.doIf s.gd.dbgOut.isSome (fun u => ({ u with gd := { u.gd with dbgOut := none } }).dbgAnswer .targetAbort 0)
  let s := s.doIf (!s.wh.imgWait) (·.setWh whRESTARTING)
  let s := s.forEach ((List.range 63).filter (fun d => (s.dom d == dCLOSING || s.dom d == dDRAINING) && !s.bankBack d)) (fun d u => u.abortEntry d 4)
  let s := (s.wr R_TM_STATUS (s.rd R_TM_STATUS % 256)).wr R_TM_INT_EN (resetWord R_TM_INT_EN)
  s.forEach (List.range 12) (fun e u => u.warmEngine e)

/-- WARM_RESET (R460, R461): in full or forced retention the edge is held in PD_AO. -/
def execWarmReset (s : State) : Out :=
  fin (if s.wh.rstBusy ∨ s.wh.coldLow then s
    else if s.pw.full = 2 ∨ s.pw.halted then { s with wh := { s.wh with warmHeld := true } }
    else s.warmStart)

/-- A held warm reset acts once both planes are IN_SERVICE again (R461). -/
def State.warmRelease (s : State) : State :=
  if s.wh.warmHeld ∧ !s.pw.halted ∧ s.pw.full = 0 ∧ s.plane 0 = pIN ∧ s.plane 1 = pIN then s.warmStart else s

/-- PLANE_SELFTEST_DONE (Table 4-5). -/
def execPlaneSelftestDone (p : Nat) (pass : Bool) (s : State) : Out := act s (s.selftestDone p pass).warmRelease

/-- SAG_RELEASE (R374). -/
def execSagRelease (arefs : Nat) (s : State) : Out := fin (s.sagRelease arefs).warmRelease

/-! ### Warm reset: the drain (R253, Table 8-6) -/

/-- Is posted data left in an NI? -/
def State.postedLeft (s : State) : Bool := s.postedCount (fun _ => true) != 0

/-- What is left 10 µs after the edge is discarded and counted (Table 8-6). -/
def State.truncate (s : State) : State :=
  let n := s.postedCount (fun _ => true)
  ((s.discardPosted (fun _ => true)).bump C_GLB_RST_DISCARD n).put GLB_RST_STAT_TRUNC 1

/-! ### Warm reset: its end (R179, R250, R256, R377, R422) -/

/-- Open barriers complete with PATH_LOST at their NIs; CX forgets what it carries out; every reservation goes (R250, R256). -/
def State.warmBarriers (s : State) : State :=
  let ids := (s.ord.bars.filter (fun b => b.phase == 1)).map (·.fid) ++ (s.ord.orders.filter (fun o => o.phase == 1)).map (·.fid)
  let open_ := s.ord.bars
  let s := { s with ord := { s.ord with
    dieq := [], die := none, dieLeft := [], orders := [], sys := none, sysLeft := [], sysq := [], resv := [] } }
  ((s.forEach ids (fun i u => u.endFlush i)).forEach open_ (fun b u => u.barDone b .pathLost)).showDie

/-- Every outstanding reorder entry retires but one whose response has come (R412): a native master receives TARGET_ABORT, a
PCI Express requester Completer Abort (R97, R422). -/
def State.warmEntries (s : State) : State :=
  let out := s.req.ro.filter (fun x => x.2.st == 1 && !s.answered (x.1 / 65536) (x.1 % 65536) x.2)
  s.forEach out (fun x u => u.entryLost (x.1 / 65536) (x.1 % 65536) x.2 .targetAbort)

/-- Shaper tokens reload BURST and every virtual-time tag resets to V (R179). -/
def State.warmShapers (s : State) : State :=
  let s := s.forEach ((List.range 1024).filter (fun k => s.portKind (k / 8) != 0)) (fun k u =>
    u.setTokens (k / 8) (k % 8) (u.get (SHP_BURST_BYTES (portC (k / 8)) (portK (k / 8)) (k % 8)) : Int))
  let v (k : Nat) : Nat := tgetD s.sch.fqV (k / 8) 0
  { s with sch := { s.sch with fqTag := s.sch.fqTag.map (fun e => (e.1, { e.2 with s := v e.1, f := v e.1 })) } }

/-- Does an access that waits at an input of CX hold the ACCESS vote of a domain? -/
def State.accessHeld (s : State) (d : Nat) : Bool :=
  s.wh.cxq.any (fun x => match s.cxPlace x.m x.off x.w.isSome with | some (_, k) => k == d && s.woa d | none => false)

/-- TRAFFIC, ACCESS and DEP votes are cast anew by what remains (R377). -/
def State.warmVotes (s : State) : State :=
  s.forEach (List.range 62) (fun d u =>
    let u := if u.mesh.held.any (fun h => h.why == .domain d) then u else u.dropVote d (PW_DOM_VOTE_TRAFFIC d)
    let u := if u.accessHeld d then u else u.dropVote d (PW_DOM_VOTE_ACCESS d)
    u.syncVotes d)

/-- Does an NI try a held packet again when it accepts packets again? -/
def tryAgain (h : Held) : Bool :=
  match h.why with
  | .domain _ => false
  | .quiet => false
  | .noPlane => false
  | _ => true

/-- The end of the sequence of Table 18-6. -/
def State.warmEnd (s : State) : State :=
  let s := s.warmBarriers.warmEntries.warmShapers.warmVotes
  let s := ({ s with wh := { s.wh with rstBusy := false } }).retry tryAgain
  ((s.doIf (!s.wh.imgWait) (·.whRestart)).advance).cxRun

/-! ### Events that reach a reorder entry in one cycle (R411, R412, R413) -/

/-- Commands that bring time forward: what stands behind one of them is in a later cycle. -/
def takesTime (c : Instr) : Bool :=
  match c with
  | .tick | .fpStart _ _ | .fpWeirAbort _ _ | .scatterRecordTime _ | .publicationDecision _ | .streamHoldRelease _ _
  | .gclEntryChange _ | .holdLimitExceeded | .ppsLoss | .ppsOutStart | .ppsOutEnd | .tbHeartbeatLoss | .quietSwitchEnd _
  | .shaperRefill _ _ | .telemetrySample _ | .ackTimerExpiry _ | .nakResendExpiry _ | .semLeaseExpiry _ | .watchdogExpiry => true
  | _ => false

/-- Commands that stand behind this one in the queue and happen in the same cycle (assumption log 70). -/
def State.sameCycle (s : State) : List Instr := s.pending.takeWhile (fun c => !takesTime c)

/-- Does the warm reset that runs reach the entries in this cycle? -/
def State.resetNow (s : State) : Bool := s.wh.rstBusy && !s.postedLeft && s.sameCycle.contains .warmDrainEnd

/-- The retirements that win over a completion timeout in one cycle (R412). -/
def entryReset (s : State) (c : Instr) : Option Out :=
  match c with
  | .basinReset mb b => some (execBasinReset mb b s)
  | .basinDestroy mb b => some (execBasinDestroy mb b s)
  | _ => none

/-- FUNCTION_LEVEL_RESET (R319): the function's outstanding requests retire; a warm reset in the same cycle wins (R412). -/
def execFunctionLevelReset (p rid : Nat) (s : State) : Out :=
  act s (if !s.isDown p then s.smIgnored else if s.resetNow then s else s.retireTlps p true (fun x => x.rid == rid))

/-- Has a run left the entry at `key` not outstanding? -/
def retires (key : Nat) (o : Out) : Bool :=
  match o with
  | .next u => ((tget u.req.ro key).map (·.st)).getD 0 != 1
  | _ => false

/-- Does an event of higher rank than the timeout reach an outstanding entry in this cycle: its response, warm reset, basin
reset or Function Level Reset (R412)? -/
def State.outranked (s : State) (t tag : Nat) (e : RoEntry) : Bool :=
  s.answered t tag e || s.resetNow || s.sameCycle.any (fun c =>
    match c with
    | .functionLevelReset p rid => retires (roKey t tag) (execFunctionLevelReset p rid s)
    | _ => ((entryReset s c).map (retires (roKey t tag))).getD false)

/-- COMPLETION_TIMEOUT (R413, R416): PATH_LOST where GLB_FAULT_GEN has moved since the entry was allocated. It does nothing to an
entry that another event of R411 reaches in the same cycle (R99, R412). -/
def execCompletionTimeout (t tag : Nat) (s : State) : Out :=
  act s (match tget s.req.ro (roKey t tag) with
    | none => s.smIgnored
    | some e =>
      if e.st ≠ 1 ∨ 65536 ≤ tag then s.smIgnored
      else if s.outranked t tag e then s
      else ((s.entryLost t tag e (if e.fgen = s.get GLB_FAULT_GEN_GEN then .timeout else .pathLost)).advance).cxRun)

end Sys2Proof.Machine
end

