-- ==== Sys2Proof/Machine/Frame.lean ====
section
/-! DEFINITION. The tick and its order of actions (R53 to R62, R161, R162, R170, R177, R198, R221 to R226, R372, R374, R400,
R455), and what a TCLK cycle without a command does. -/

namespace Sys2Proof.Machine

/-- Orders 1 and 2 of Table 2-6: programs that still run are overruns, and each object is decided and published. -/
def State.tickPublish (s : State) (num : Nat) : State :=
  let s := s.abortPrograms
  s.forEach (List.range 64) (fun n u => (u.decideObj n).publish n num)

/-- Order 3: the frame number advances, and e starts again. -/
def State.tickNumber (s : State) (n : Int) : State :=
  let num := n.toNat % 2 ^ 64
  let at_ := s.nextTickNs
  let s := { s with tm := { s.tm with last := some num, hdl := n, lastNs := at_, e := 0, stepped := false } }
  (s.wr R_TM_FRAME_NUM_LO num).wr R_TM_FRAME_NUM_HI (num / 2 ^ 32)

/-- A gate list swap whose frame has come (R162). -/
def State.swapList (s : State) (p : Nat) : State :=
  let s := { s with sch := { s.sch with gclS := tdel s.sch.gclS p } }
  (s.put (GCL_STAT_ACTIVE (portC p) (portK p)) (1 - s.gclActive p)).put (GCL_STAT_PENDING (portC p) (portK p)) 0

/-- Lists restart from entry 0, pending swaps first; every stream may send again (R161, R162, R170). -/
def State.tickGates (s : State) (num : Nat) : State :=
  let due := (s.sch.gclS.filter (fun e => decide (e.2 ≤ num))).map (·.1)
  let s := s.forEach due (fun p u => u.swapList p)
  let s := { s with sch := { s.sch with accN := [], ktAcc := [], telAt := [] } }
  let bad (p : Nat) : Bool := s.gclUsed p && s.gclBad p (s.gclActive p) && (s.gcl p (s.gclActive p)).length == 1
  s.forEach ((List.range 128).filter bad) (fun p u => u.put (GCL_STAT_LIST_BAD (portC p) (portK p)) 1)

/-- The cascade suspends or resumes (R372, R374). -/
def State.tickSuspend (s : State) : State :=
  let stop := s.kt.suspend
  let s := { s with kt := { s.kt with stopped := stop } }
  s.forEach (List.range 12) (fun e u =>
    if u.ktState e = (if stop then ktIDLE else ktSUSPENDED) then u.put (KT_STAT_STATE e) u.restState else u)

/-- Frame programs of the new frame: swaps, outcomes, and the SHADOW frames left of the engines that ran twin programs (R224 to
R226). -/
def State.tickPrograms (s : State) (num : Nat) : State :=
  let s := s.fpSwapApply num
  let left := (s.kt.shadow.map (fun e => if s.kt.shRan.contains e.1 then (e.1, e.2 - 1) else e)).filter (fun e => e.2 != 0)
  ({ s with kt := { s.kt with outcome := [], decided := [], shadow := left, shRan := [] } }).tickSuspend

/-- Ports whose list in force a tick that follows a time step cuts (R177, assumption log 66). -/
def State.cutPorts (s : State) : List Nat := (List.range 128).filter (fun p => s.gclUsed p)

/-- The tick, in the order of Table 2-6. -/
def State.tick (s : State) : State :=
  let n := s.nextTick
  let num := n.toNat % 2 ^ 64
  let cut := if s.tm.stepped then s.cutPorts else []
  let s := (s.tickPublish num).tickNumber n
  let s := match s.tm.swS with | some k => if k ≤ num then s.loadSwitch k else s | none => s
  let s := ((s.tickGates num).tickPrograms num).hoTick n
  let s := s.forEach cut (fun p u => u.count (C_GCL_CUT (portC p) (portK p)))
  let s := s.put TM_STATUS_TICK 1
  s.doIf (s.on TM_FRAME_CTL_TICK_OUT) (·.send .tick)

/-- TICK (R53): fabric time reaches the next frame boundary. -/
def execTick (s : State) : Out :=
  act s (if s.ticking then
      let n := s.cyclesTo s.nextTickNs
      ((s.linksOut.cycles n).linksIdle n).tick.advance
    else s.smIgnored)

/-- `n` TCLK cycles pass, and each tick that comes due among them fires in the first cycle at or past its boundary (R53).
A frame lasts over 7,000 cycles, so fuel `n` / 7,000 + 2 is enough. -/
def State.passFor : Nat → Nat → State → State
  | 0, n, s => s.cycles n
  | f + 1, n, s =>
    let k := max 1 (s.cyclesTo s.nextTickNs)
    if !s.ticking ∨ n < k then s.cycles n else State.passFor f (n - k) (s.cycles k).tick

/-- `n` TCLK cycles pass. What the links have waiting leaves first, and IDLE flits fill the rest of the time (R261). -/
def State.pass (s : State) (n : Nat) : State := (State.passFor (n / 7000 + 2) n s.linksOut).linksIdle n

/-- Time passes until fabric time, in whole ns, reaches `x`. -/
def State.passTo (s : State) (x : Int) : State := s.pass (s.cyclesTo x)

/-- One TCLK cycle without a command: time passes, a tick that is due fires, engines, links and CX go on with what has come. -/
def State.idle (s : State) : State := (s.pass 1).advance.cxRun

end Sys2Proof.Machine
end

