-- ==== Sys2Proof/Machine/Timed.lean ====
section
/-! DEFINITION. Rows that are instants of fabric time: each brings time forward to its instant, past the ticks on the way, and
acts there (R48, R49, R51, R62, R150, R167, R180, R253, R267, R268, R387, R399). -/

namespace Sys2Proof.Machine

/-! ### Fabric time (R48, R49, R51, R62) -/

/-- HOLD_LIMIT_EXCEEDED: the instant at which TM_HOLD_ERR passes its limit (R51). -/
def execHoldLimitExceeded (s : State) : Out :=
  act s (if !s.tm.growing ∨ s.on TM_STATUS_OUT_OF_BOUND then s.smIgnored
    else
      let short := clampN 4 16000000 (s.get TM_HOLD_LIMIT_LIMIT) + 1 - s.get TM_HOLD_ERR_ERR
      s.pass (ceilDiv (short * 1000000000 - s.tm.holdFrac) (16 * clampN 1 10000 (s.get TM_HOLD_UNC_PPB))))

/-- PPS_LOSS: no edge for more than 1.5 s (R48). -/
def execPpsLoss (s : State) : Out :=
  act s (if s.tm.cls ≠ 0 then s.smIgnored
    else
      let s := s.pass (1500000001 - s.tm.ppsAge)
      let s := { s with tm := { s.tm with cls := 1 } }
      (s.doIf (s.tm.parent.isNone) (·.holdover)).chooseGm)

/-- PPS_OUT_START: the next whole second, shifted by the offset: TM_PPS_OUT rises (R49). -/
def execPpsOutStart (s : State) : Out :=
  act s (if !s.on TM_STATUS_VALID ∨ s.tm.ppsLeft ≠ 0 ∨ !s.tm.tclk then s.smIgnored
    else s.pass (s.cyclesIn (s.ppsAt (s.ppsNum s.tm.now + 1) - s.tm.now)))

/-- PPS_OUT_END: TM_PPSO_WIDTH after the rise: TM_PPS_OUT falls (R49). -/
def execPpsOutEnd (s : State) : Out := act s (if s.tm.ppsLeft = 0 then s.smIgnored else s.pass s.tm.ppsLeft)

/-- The heartbeat stops for 8 TCLK cycles (R62). -/
def execTbHeartbeatLoss (s : State) : Out :=
  act s (if s.tm.retired.length = 2 ∨ !s.tm.tclk then s.smIgnored else (s.pass 8).tbFail 2 false)

/-! ### Route epochs (R150) -/

/-- QUIET_SWITCH_END: RTE_QUIET has passed since the NI's last remote-bound packet of the old epoch. -/
def execQuietSwitchEnd (t : Nat) (s : State) : Out :=
  act s (if !s.mesh.unswitched.contains t then s.smIgnored
    else (s.passTo (tgetD s.mesh.recent t 0 + clampN 2000 10000000 (s.get RTE_QUIET_NS))).quietEnd t)

/-! ### Shapers and telemetry (R167, R180) -/

/-- SHAPER_REFILL: the next refill instant of the shaper of queue `q` of port `p` (R167). -/
def execShaperRefill (p q : Nat) (s : State) : Out :=
  act s (match (if 128 ≤ p ∨ 8 ≤ q ∨ !s.tm.tclk then none else tget s.sch.refAt (p * 8 + q)) with
    | none => s.smIgnored
    | some t => s.pass (t + s.refillPer p q - s.tm.cyc))

/-- TCLK cycles until the next sampling instant of port `p`, if this frame has one to come: every 2^INTV ns, counted from cold
reset (assumption log 86), or e = OFFSET once a frame. -/
def State.telNext (s : State) (p : Nat) : Option Nat :=
  let c := portC p
  let k := portK p
  if s.on (TEL_CFG_MODE c k) then
    let o := s.get (TEL_OFFSET_NS c k)
    if s.ticking ∧ s.tm.e ≤ o ∧ s.reaches o ∧ !s.sch.telAt.contains p then some (o - s.tm.e) else none
  else
    let per := 2 ^ clampN 8 20 (s.get (TEL_CFG_INTV c k))
    some (per - s.tm.cyc % per)

/-- TELEMETRY_SAMPLE: a sampling instant of port `p` (R180). -/
def execTelemetrySample (p : Nat) (s : State) : Out :=
  act s (match (if 128 ≤ p ∨ !s.tm.tclk ∨ !s.on (TEL_CFG_EN (portC p) (portK p)) then none else s.telNext p) with
    | none => s.smIgnored
    | some n =>
      let s := s.pass n
      ({ s with sch := { s.sch with telAt := p :: s.sch.telAt } }).telSend p)

/-! ### Links (R267, R268) -/

/-- ACK_TIMER_EXPIRY (R268): the oldest kept flit has gone T_ACK without an ACK. -/
def execAckTimerExpiry (p : Nat) (s : State) : Out :=
  act s (if !s.isRunnel p ∨ s.lst p ≠ lkACTIVE then s.smIgnored
    else match s.keptOf p with
      | [] => s.smIgnored
      | k :: _ => (s.passTo (k.at_ + s.tAck p)).replay p ((k.fseq + 65535) % 65536))

/-- T_ACK after the last NAK: it is sent again while NAK_PENDING stays set. -/
def State.nakAgain (s : State) (p : Nat) : State := if s.lst p = lkACTIVE ∧ (s.lk p).nak then s.sendAck p true else s

/-- NAK_RESEND_EXPIRY (R267). -/
def execNakResendExpiry (p : Nat) (s : State) : Out :=
  act s (if !s.isRunnel p ∨ s.lst p ≠ lkACTIVE ∨ !(s.lk p).nak then s.smIgnored else (s.passTo ((s.lk p).nakAt + s.tAck p)).nakAgain p)

/-! ### Control plane (R253, R387, R399) -/

/-- SEM_LEASE_EXPIRY (R387). -/
def execSemLeaseExpiry (n : Nat) (s : State) : Out :=
  act s (if 32 ≤ n ∨ s.get (SEM_OWN_OWNER n) = 0 then s.smIgnored
    else (s.passTo (tgetD s.wh.semAt n 0 + max 1 (s.get CX_SEM_LEASE_MS) * 1000000)).freeSem n)

/-- WATCHDOG_EXPIRY (R399). -/
def execWatchdogExpiry (s : State) : Out :=
  act s (if !s.whRuns then s.smIgnored else ((s.passTo s.wdtAt).heartbeat).whFault 1 0)

/-- The drain ends: its time is recorded, and what remains at its limit is discarded (R253). -/
def State.drainEnd (s : State) : State :=
  let s := s.put GLB_RST_STAT_TRUNC 0
  if s.postedLeft then ((s.passTo (s.wh.rstAt + 10000)).truncate).put GLB_RST_STAT_DRAIN_NS 10000
  else s.put GLB_RST_STAT_DRAIN_NS (min (s.ns - s.wh.rstAt) 10000)

/-- WARM_DRAIN_END (R253). -/
def execWarmDrainEnd (s : State) : Out := act s (if s.wh.rstBusy then s.drainEnd.warmEnd else s.smIgnored)

end Sys2Proof.Machine
end

