-- ==== Sys2Proof/Machine/Dispatch.lean ====
section
/-! DEFINITION. One arm per command: its meaning, or its name. -/

namespace Sys2Proof.Machine

def exec (i : Instr) (s : State) : Host.Outcome State Fault Refusal :=
  match i with
  | .registerWrite m off w => Sys2Proof.Machine.execRegisterWrite m off w s
  | .counterSnapshotRead m off => Sys2Proof.Machine.execCounterSnapshotRead m off s
  | .counterClear m off => Sys2Proof.Machine.execCounterClear m off s
  | .stageLowWord m off w => Sys2Proof.Machine.execStageLowWord m off w s
  | .commitHighWord m off w => Sys2Proof.Machine.execCommitHighWord m off w s
  | .tmNowRead m => Sys2Proof.Machine.execTmNowRead m s
  | .syncIntervalExpiry p => Sys2Proof.Machine.execSyncIntervalExpiry p s
  | .sync p => Sys2Proof.Machine.execSync p s
  | .dreq p => Sys2Proof.Machine.execDreq p s
  | .dresp p => Sys2Proof.Machine.execDresp p s
  | .announceIntervalExpiry => Sys2Proof.Machine.execAnnounceIntervalExpiry s
  | .announce p => Sys2Proof.Machine.execAnnounce p s
  | .parentLoss => Sys2Proof.Machine.execParentLoss s
  | .holdLimitExceeded => Sys2Proof.Machine.execHoldLimitExceeded s
  | .ppsInEdge => Sys2Proof.Machine.execPpsInEdge s
  | .ppsLoss => Sys2Proof.Machine.execPpsLoss s
  | .ppsOutStart => Sys2Proof.Machine.execPpsOutStart s
  | .ppsOutEnd => Sys2Proof.Machine.execPpsOutEnd s
  | .timeSetTod mb sec => Sys2Proof.Machine.execTimeSetTod mb sec s
  | .timeAdjust mb rate v => Sys2Proof.Machine.execTimeAdjust mb rate v s
  | .frameSet mb per ph frame => Sys2Proof.Machine.execFrameSet mb per ph frame s
  | .timePtpTs mb p => Sys2Proof.Machine.execTimePtpTs mb p s
  | .timeTbResync mb => Sys2Proof.Machine.execTimeTbResync mb s
  | .tick => Sys2Proof.Machine.execTick s
  | .frameSwitchArm m v => Sys2Proof.Machine.execFrameSwitchArm m v s
  | .framePeriodWrite m phase v => Sys2Proof.Machine.execFramePeriodWrite m phase v s
  | .tbCheckerFire both => Sys2Proof.Machine.execTbCheckerFire both s
  | .tbHeartbeatLoss => Sys2Proof.Machine.execTbHeartbeatLoss s
  | .tbDiverge => Sys2Proof.Machine.execTbDiverge s
  | .arefTrimWindow len => Sys2Proof.Machine.execArefTrimWindow len s
  | .masterAccess kind a len pasid data => Sys2Proof.Machine.execMasterAccess kind a len pasid data s
  | .packetInject t => Sys2Proof.Machine.execPacketInject t s
  | .read t => Sys2Proof.Machine.execRead t s
  | .flushingRead t => Sys2Proof.Machine.execFlushingRead t s
  | .writeP t => Sys2Proof.Machine.execWriteP t s
  | .writeNp t => Sys2Proof.Machine.execWriteNp t s
  | .atomic t => Sys2Proof.Machine.execAtomic t s
  | .reserveRead t => Sys2Proof.Machine.execReserveRead t s
  | .condWrite t => Sys2Proof.Machine.execCondWrite t s
  | .msg t => Sys2Proof.Machine.execMsg t s
  | .cpl t => Sys2Proof.Machine.execCpl t s
  | .completionTimeout t tag => Sys2Proof.Machine.execCompletionTimeout t tag s
  | .quarantineEnd t tag => Sys2Proof.Machine.execQuarantineEnd t tag s
  | .packetDelivery src dt p vc => Sys2Proof.Machine.execPacketDelivery src dt p vc s
  | .transitKeyAgeOut t tag seq => Sys2Proof.Machine.execTransitKeyAgeOut t tag seq s
  | .receipt t => Sys2Proof.Machine.execReceipt t s
  | .flowFenceRelease t d => Sys2Proof.Machine.execFlowFenceRelease t d s
  | .creditReturn p t d vc => Sys2Proof.Machine.execCreditReturn p t d vc s
  | .planeReqClear m p => Sys2Proof.Machine.execPlaneReqClear m p s
  | .planeReqSet m p => Sys2Proof.Machine.execPlaneReqSet m p s
  | .planeFenceDone p => Sys2Proof.Machine.execPlaneFenceDone p s
  | .planeHardFault p cause t port vc => Sys2Proof.Machine.execPlaneHardFault p cause t port vc s
  | .endWord t d => Sys2Proof.Machine.execEndWord t d s
  | .planeResendDone p => Sys2Proof.Machine.execPlaneResendDone p s
  | .planeSelftestDone p pass => Sys2Proof.Machine.execPlaneSelftestDone p pass s
  | .routerCe p t d vc => Sys2Proof.Machine.execRouterCe p t d vc s
  | .routerFenceSet m p t v => Sys2Proof.Machine.execRouterFenceSet m p t v s
  | .routerInputDrained p t d => Sys2Proof.Machine.execRouterInputDrained p t d s
  | .hiWeightWrite m p t v => Sys2Proof.Machine.execHiWeightWrite m p t v s
  | .routeSetNode mb node tier set => Sys2Proof.Machine.execRouteSetNode mb node tier set s
  | .routeNeighbours mb => Sys2Proof.Machine.execRouteNeighbours mb s
  | .routeLoad mb bank ents grps => Sys2Proof.Machine.execRouteLoad mb bank ents grps s
  | .routeCommit mb bank => Sys2Proof.Machine.execRouteCommit mb bank s
  | .routeFlip mb bank => Sys2Proof.Machine.execRouteFlip mb bank s
  | .routeDrainStat mb => Sys2Proof.Machine.execRouteDrainStat mb s
  | .routeFree mb bank => Sys2Proof.Machine.execRouteFree mb bank s
  | .quietSwitchEnd t => Sys2Proof.Machine.execQuietSwitchEnd t s
  | .helloIntervalExpiry p => Sys2Proof.Machine.execHelloIntervalExpiry p s
  | .hello p => Sys2Proof.Machine.execHello p s
  | .elimAgeExpiry t n => Sys2Proof.Machine.execElimAgeExpiry t n s
  | .elimEntryWrite m t n v => Sys2Proof.Machine.execElimEntryWrite m t n v s
  | .packetStart p => Sys2Proof.Machine.execPacketStart p s
  | .gclEntryChange p => Sys2Proof.Machine.execGclEntryChange p s
  | .gclSwapArm m p v => Sys2Proof.Machine.execGclSwapArm m p v s
  | .shaperRefill p q => Sys2Proof.Machine.execShaperRefill p q s
  | .streamHoldRelease c w => Sys2Proof.Machine.execStreamHoldRelease c w s
  | .streamAdd mb r => Sys2Proof.Machine.execStreamAdd mb r s
  | .streamDel mb stream role path => Sys2Proof.Machine.execStreamDel mb stream role path s
  | .streamQuery mb stream role path => Sys2Proof.Machine.execStreamQuery mb stream role path s
  | .gclLoad mb p ents => Sys2Proof.Machine.execGclLoad mb p ents s
  | .gclSwap mb ports frame => Sys2Proof.Machine.execGclSwap mb ports frame s
  | .shaperSet mb p q cfg quant burst => Sys2Proof.Machine.execShaperSet mb p q cfg quant burst s
  | .fqSet mb p w0 w1 => Sys2Proof.Machine.execFqSet mb p w0 w1 s
  | .telSet mb p cfg offset rings => Sys2Proof.Machine.execTelSet mb p cfg offset rings s
  | .telemetrySample p => Sys2Proof.Machine.execTelemetrySample p s
  | .traceRecord => Sys2Proof.Machine.execTraceRecord s
  | .scrub b => Sys2Proof.Machine.execScrub b s
  | .bankFault b => Sys2Proof.Machine.execBankFault b s
  | .snapshotCommit n => Sys2Proof.Machine.execSnapshotCommit n s
  | .publicationDecision n => Sys2Proof.Machine.execPublicationDecision n s
  | .cascadeJob e => Sys2Proof.Machine.execCascadeJob e s
  | .jobStart e => Sys2Proof.Machine.execJobStart e s
  | .jobComplete e => Sys2Proof.Machine.execJobComplete e s
  | .engineFault e code => Sys2Proof.Machine.execEngineFault e code s
  | .fpStart e p => Sys2Proof.Machine.execFpStart e p s
  | .fpComplete e => Sys2Proof.Machine.execFpComplete e s
  | .fpWeirAbort e p => Sys2Proof.Machine.execFpWeirAbort e p s
  | .plumePacket t => Sys2Proof.Machine.execPlumePacket t s
  | .ktQueueSet mb e q cfg basin => Sys2Proof.Machine.execKtQueueSet mb e q cfg basin s
  | .fpLoad mb e p pl ctl start weir est descs => Sys2Proof.Machine.execFpLoad mb e p pl ctl start weir est descs s
  | .fpSwap mb on_ off_ frame => Sys2Proof.Machine.execFpSwap mb on_ off_ frame s
  | .snapSet mb n base ctl => Sys2Proof.Machine.execSnapSet mb n base ctl s
  | .ktReset mb e => Sys2Proof.Machine.execKtReset mb e s
  | .plumeSet mb g body => Sys2Proof.Machine.execPlumeSet mb g body s
  | .partSet mb n base units ctl => Sys2Proof.Machine.execPartSet mb n base units ctl s
  | .partSeal mb n => Sys2Proof.Machine.execPartSeal mb n s
  | .partResync mb n => Sys2Proof.Machine.execPartResync mb n s
  | .ktQuery mb e => Sys2Proof.Machine.execKtQuery mb e s
  | .whBarrierWrite scope => Sys2Proof.Machine.execWhBarrierWrite scope s
  | .localBarrierComplete t => Sys2Proof.Machine.execLocalBarrierComplete t s
  | .barrier t => Sys2Proof.Machine.execBarrier t s
  | .dieFlushStart => Sys2Proof.Machine.execDieFlushStart s
  | .barrierAck t => Sys2Proof.Machine.execBarrierAck t s
  | .barrierTimeout n => Sys2Proof.Machine.execBarrierTimeout n s
  | .warmDrainEnd => Sys2Proof.Machine.execWarmDrainEnd s
  | .flitReceive p header payload crc par0 par1 par2 => Sys2Proof.Machine.execFlitReceive p header payload crc par0 par1 par2 s
  | .ack p a => Sys2Proof.Machine.execAck p a s
  | .nak p a => Sys2Proof.Machine.execNak p a s
  | .ackTimerExpiry p => Sys2Proof.Machine.execAckTimerExpiry p s
  | .nakResendExpiry p => Sys2Proof.Machine.execNakResendExpiry p s
  | .credit p vn cum => Sys2Proof.Machine.execCredit p vn cum s
  | .ingressRelease p vn => Sys2Proof.Machine.execIngressRelease p vn s
  | .mapReq p rid kind lane m node => Sys2Proof.Machine.execMapReq p rid kind lane m node s
  | .mapRsp p rid accept => Sys2Proof.Machine.execMapRsp p rid accept s
  | .lanesReady p rid => Sys2Proof.Machine.execLanesReady p rid s
  | .lanesReadyTimeout p => Sys2Proof.Machine.execLanesReadyTimeout p s
  | .mapMarkerSend p => Sys2Proof.Machine.execMapMarkerSend p s
  | .mapMarkerReceive p bytes => Sys2Proof.Machine.execMapMarkerReceive p bytes s
  | .laneIdleAfterMarker p => Sys2Proof.Machine.execLaneIdleAfterMarker p s
  | .laneFail p l => Sys2Proof.Machine.execLaneFail p l s
  | .laneLockLoss p l => Sys2Proof.Machine.execLaneLockLoss p l s
  | .lockCriterionExpiry p => Sys2Proof.Machine.execLockCriterionExpiry p s
  | .stop p => Sys2Proof.Machine.execStop p s
  | .retrainReq p => Sys2Proof.Machine.execRetrainReq p s
  | .linkEnSet m p => Sys2Proof.Machine.execLinkEnSet m p s
  | .linkEnClear m p => Sys2Proof.Machine.execLinkEnClear m p s
  | .lnkRetrainWrite m p => Sys2Proof.Machine.execLnkRetrainWrite m p s
  | .signalDetect p lanes => Sys2Proof.Machine.execSignalDetect p lanes s
  | .symbolLock p lanes => Sys2Proof.Machine.execSymbolLock p lanes s
  | .trainTmoExpiry p => Sys2Proof.Machine.execTrainTmoExpiry p s
  | .trainingBlock p l magic ctl node port nonce pnonce nextRx offers lanes tstamp echoed age rsv crc => Sys2Proof.Machine.execTrainingBlock p l magic ctl node port nonce pnonce nextRx offers lanes tstamp echoed age rsv crc s
  | .retrainTmoExpiry p => Sys2Proof.Machine.execRetrainTmoExpiry p s
  | .graceExpiry p => Sys2Proof.Machine.execGraceExpiry p s
  | .eidleRelease p => Sys2Proof.Machine.execEidleRelease p s
  | .recalPeriodExpiry p => Sys2Proof.Machine.execRecalPeriodExpiry p s
  | .recalAck p l => Sys2Proof.Machine.execRecalAck p l s
  | .recalTimeout p => Sys2Proof.Machine.execRecalTimeout p s
  | .linkSet mb p ctl crit mem rttEst en => Sys2Proof.Machine.execLinkSet mb p ctl crit mem rttEst en s
  | .linkRetrain mb p => Sys2Proof.Machine.execLinkRetrain mb p s
  | .linkWidth mb p w => Sys2Proof.Machine.execLinkWidth mb p w s
  | .linkRecal mb p l => Sys2Proof.Machine.execLinkRecal mb p l s
  | .linkLaneReturn mb p l => Sys2Proof.Machine.execLinkLaneReturn mb p l s
  | .linkQuery mb p => Sys2Proof.Machine.execLinkQuery mb p s
  | .hostTlp p x data => Sys2Proof.Machine.execHostTlp p x data s
  | .downstreamTlp p x data => Sys2Proof.Machine.execDownstreamTlp p x data s
  | .pctoExpiry p tag => Sys2Proof.Machine.execPctoExpiry p tag s
  | .configRequest p x data => Sys2Proof.Machine.execConfigRequest p x data s
  | .vdmBarrier p rid sub scope token => Sys2Proof.Machine.execVdmBarrier p rid sub scope token s
  | .dpcTrigger p cause => Sys2Proof.Machine.execDpcTrigger p cause s
  | .ptmRequest p => Sys2Proof.Machine.execPtmRequest p s
  | .secondaryBusReset h dev => Sys2Proof.Machine.execSecondaryBusReset h dev s
  | .functionLevelReset p rid => Sys2Proof.Machine.execFunctionLevelReset p rid s
  | .slotCfgEn m n en => Sys2Proof.Machine.execSlotCfgEn m n en s
  | .slotPrsntChange n lvl => Sys2Proof.Machine.execSlotPrsntChange n lvl s
  | .slotPowerOn n => Sys2Proof.Machine.execSlotPowerOn n s
  | .slotPgood n lvl => Sys2Proof.Machine.execSlotPgood n lvl s
  | .slotPgTimeout n => Sys2Proof.Machine.execSlotPgTimeout n s
  | .slotPerstTimer n => Sys2Proof.Machine.execSlotPerstTimer n s
  | .slotDlActive n width rate flit ten en => Sys2Proof.Machine.execSlotDlActive n width rate flit ten en s
  | .slotLinkTimeout n => Sys2Proof.Machine.execSlotLinkTimeout n s
  | .slotSurpriseDown n gone => Sys2Proof.Machine.execSlotSurpriseDown n gone s
  | .slotFlt n lvl => Sys2Proof.Machine.execSlotFlt n lvl s
  | .slotSettleExpiry n => Sys2Proof.Machine.execSlotSettleExpiry n s
  | .slotReinsert n => Sys2Proof.Machine.execSlotReinsert n s
  | .slotRetry n => Sys2Proof.Machine.execSlotRetry n s
  | .slotClrFault m n => Sys2Proof.Machine.execSlotClrFault m n s
  | .slotPowerOff m n => Sys2Proof.Machine.execSlotPowerOff m n s
  | .attentionButton n => Sys2Proof.Machine.execAttentionButton n s
  | .pmbusPoll n vin vout iout pin vmode => Sys2Proof.Machine.execPmbusPoll n vin vout iout pin vmode s
  | .portSet mb p cfg pcfg tcmap => Sys2Proof.Machine.execPortSet mb p cfg pcfg tcmap s
  | .hpartSet mb n ctl hostA hostB vs => Sys2Proof.Machine.execHpartSet mb n ctl hostA hostB vs s
  | .fnBind mb p ents => Sys2Proof.Machine.execFnBind mb p ents s
  | .slotSet mb n cfg timers timers2 pmb => Sys2Proof.Machine.execSlotSet mb n cfg timers timers2 pmb s
  | .slotPower mb n act => Sys2Proof.Machine.execSlotPower mb n act s
  | .portDpcRelease mb p => Sys2Proof.Machine.execPortDpcRelease mb p s
  | .portQuery mb p => Sys2Proof.Machine.execPortQuery mb p s
  | .doorbellPushWrite p h rid pasid ptc a desc => Sys2Proof.Machine.execDoorbellPushWrite p h rid pasid ptc a desc s
  | .doorbellRingWrite p h rid pasid ptc a tail => Sys2Proof.Machine.execDoorbellRingWrite p h rid pasid ptc a tail s
  | .ringDoorbellMsg e => Sys2Proof.Machine.execRingDoorbellMsg e s
  | .consWriteback b => Sys2Proof.Machine.execConsWriteback b s
  | .vectorUnmask m b v => Sys2Proof.Machine.execVectorUnmask m b v s
  | .dirtyMark b => Sys2Proof.Machine.execDirtyMark b s
  | .basinCreate mb b h pasid qbase qsize cons binds vecs => Sys2Proof.Machine.execBasinCreate mb b h pasid qbase qsize cons binds vecs s
  | .basinReset mb b => Sys2Proof.Machine.execBasinReset mb b s
  | .basinResetDone b => Sys2Proof.Machine.execBasinResetDone b s
  | .basinDestroy mb b => Sys2Proof.Machine.execBasinDestroy mb b s
  | .basinMapAdd mb b ents => Sys2Proof.Machine.execBasinMapAdd mb b ents s
  | .basinMapDel mb b ents => Sys2Proof.Machine.execBasinMapDel mb b ents s
  | .basinLogSet mb b base size buf0 buf1 en => Sys2Proof.Machine.execBasinLogSet mb b base size buf0 buf1 en s
  | .basinHarvest mb b => Sys2Proof.Machine.execBasinHarvest mb b s
  | .basinQuery mb b => Sys2Proof.Machine.execBasinQuery mb b s
  | .guardSwapGo m n => Sys2Proof.Machine.execGuardSwapGo m n s
  | .lockBitWrite m g => Sys2Proof.Machine.execLockBitWrite m g s
  | .sealBitWrite m n => Sys2Proof.Machine.execSealBitWrite m n s
  | .guardLoad mb n ctl rgns => Sys2Proof.Machine.execGuardLoad mb n ctl rgns s
  | .guardSwap mb mask limit => Sys2Proof.Machine.execGuardSwap mb mask limit s
  | .guardQuery mb n => Sys2Proof.Machine.execGuardQuery mb n s
  | .lockSet mb bits_ => Sys2Proof.Machine.execLockSet mb bits_ s
  | .scQuery mb => Sys2Proof.Machine.execScQuery mb s
  | .debugAccess off w => Sys2Proof.Machine.execDebugAccess off w s
  | .debugAccessTimeout => Sys2Proof.Machine.execDebugAccessTimeout s
  | .hysteresisExpiry d => Sys2Proof.Machine.execHysteresisExpiry d s
  | .entryRetry d => Sys2Proof.Machine.execEntryRetry d s
  | .domainClosed d => Sys2Proof.Machine.execDomainClosed d s
  | .domainDrained d => Sys2Proof.Machine.execDomainDrained d s
  | .drainTimeout d => Sys2Proof.Machine.execDrainTimeout d s
  | .retentionSaveDone d => Sys2Proof.Machine.execRetentionSaveDone d s
  | .retentionToOff d => Sys2Proof.Machine.execRetentionToOff d s
  | .domainWake d => Sys2Proof.Machine.execDomainWake d s
  | .entryAbort d => Sys2Proof.Machine.execEntryAbort d s
  | .wakeComplete d => Sys2Proof.Machine.execWakeComplete d s
  | .edgeWake m d => Sys2Proof.Machine.execEdgeWake m d s
  | .wakeOnAccessTimeout n => Sys2Proof.Machine.execWakeOnAccessTimeout n s
  | .accessHoldExpiry d => Sys2Proof.Machine.execAccessHoldExpiry d s
  | .powerVote mb mask set => Sys2Proof.Machine.execPowerVote mb mask set s
  | .powerDomainSet mb mask cfg => Sys2Proof.Machine.execPowerDomainSet mb mask cfg s
  | .powerLevel mb pl => Sys2Proof.Machine.execPowerLevel mb pl s
  | .levelChange => Sys2Proof.Machine.execLevelChange s
  | .vidAck => Sys2Proof.Machine.execVidAck s
  | .vidTimeout => Sys2Proof.Machine.execVidTimeout s
  | .powerFullRet mb => Sys2Proof.Machine.execPowerFullRet mb s
  | .wakeIn => Sys2Proof.Machine.execWakeIn s
  | .pllLock n arefs => Sys2Proof.Machine.execPllLock n arefs s
  | .pllLockLoss n => Sys2Proof.Machine.execPllLockLoss n s
  | .tclkLockLoss => Sys2Proof.Machine.execTclkLockLoss s
  | .sag1 => Sys2Proof.Machine.execSag1 s
  | .sag2 => Sys2Proof.Machine.execSag2 s
  | .sag3 => Sys2Proof.Machine.execSag3 s
  | .forcedRetention low => Sys2Proof.Machine.execForcedRetention low s
  | .sagRelease arefs => Sys2Proof.Machine.execSagRelease arefs s
  | .thermalSample vals => Sys2Proof.Machine.execThermalSample vals s
  | .thermalLimitStep => Sys2Proof.Machine.execThermalLimitStep s
  | .sensorTimeout n => Sys2Proof.Machine.execSensorTimeout n s
  | .powerLedger mb => Sys2Proof.Machine.execPowerLedger mb s
  | .powerQuery mb => Sys2Proof.Machine.execPowerQuery mb s
  | .thermalSet mb w => Sys2Proof.Machine.execThermalSet mb w s
  | .safeClear mb => Sys2Proof.Machine.execSafeClear mb s
  | .supplyLoss d => Sys2Proof.Machine.execSupplyLoss d s
  | .supplyGoodTimeout d => Sys2Proof.Machine.execSupplyGoodTimeout d s
  | .burstHoldArm m n => Sys2Proof.Machine.execBurstHoldArm m n s
  | .burstHoldExpire n => Sys2Proof.Machine.execBurstHoldExpire n s
  | .pbWriteFrame body => Sys2Proof.Machine.execPbWriteFrame body s
  | .pbReadSetup body => Sys2Proof.Machine.execPbReadSetup body s
  | .pbStatusSetup body => Sys2Proof.Machine.execPbStatusSetup body s
  | .pbReadFrame n => Sys2Proof.Machine.execPbReadFrame n s
  | .semAcquire m n => Sys2Proof.Machine.execSemAcquire m n s
  | .semRelease m n v => Sys2Proof.Machine.execSemRelease m n v s
  | .semLeaseExpiry n => Sys2Proof.Machine.execSemLeaseExpiry n s
  | .mailboxDoorbell m mb => Sys2Proof.Machine.execMailboxDoorbell m mb s
  | .commandTake => Sys2Proof.Machine.execCommandTake s
  | .mailboxAck m mb => Sys2Proof.Machine.execMailboxAck m mb s
  | .identify mb => Sys2Proof.Machine.execIdentify mb s
  | .caps mb => Sys2Proof.Machine.execCaps mb s
  | .echo mb body => Sys2Proof.Machine.execEcho mb body s
  | .fwLog mb => Sys2Proof.Machine.execFwLog mb s
  | .whBoot => Sys2Proof.Machine.execWhBoot s
  | .whReady => Sys2Proof.Machine.execWhReady s
  | .whHeartbeat => Sys2Proof.Machine.execWhHeartbeat s
  | .watchdogExpiry => Sys2Proof.Machine.execWatchdogExpiry s
  | .whLockstepFault => Sys2Proof.Machine.execWhLockstepFault s
  | .whRestart m => Sys2Proof.Machine.execWhRestart m s
  | .updateBegin mb => Sys2Proof.Machine.execUpdateBegin mb s
  | .updateWrite mb offset data => Sys2Proof.Machine.execUpdateWrite mb offset data s
  | .updateVerify mb => Sys2Proof.Machine.execUpdateVerify mb s
  | .updateActivate mb frame => Sys2Proof.Machine.execUpdateActivate mb frame s
  | .updateCancel mb => Sys2Proof.Machine.execUpdateCancel mb s
  | .updateStatus mb => Sys2Proof.Machine.execUpdateStatus mb s
  | .handoverBoot => Sys2Proof.Machine.execHandoverBoot s
  | .handoverCancelTimeout => Sys2Proof.Machine.execHandoverCancelTimeout s
  | .handoverFallback => Sys2Proof.Machine.execHandoverFallback s
  | .errRead mb => Sys2Proof.Machine.execErrRead mb s
  | .errClear mb mask => Sys2Proof.Machine.execErrClear mb mask s
  | .eventMap mb maps sat => Sys2Proof.Machine.execEventMap mb maps sat s
  | .counters mb offs => Sys2Proof.Machine.execCounters mb offs s
  | .errInject mb cls u kind place => Sys2Proof.Machine.execErrInject mb cls u kind place s
  | .fltRdWrite m v => Sys2Proof.Machine.execFltRdWrite m v s
  | .bankReturn m b => Sys2Proof.Machine.execBankReturn m b s
  | .bankSelftestDone b pass => Sys2Proof.Machine.execBankSelftestDone b pass s
  | .coldReset fuses vidAck unlocked => Sys2Proof.Machine.execColdReset fuses vidAck unlocked s
  | .warmReset => Sys2Proof.Machine.execWarmReset s
  | .imageLoadWrite slot addr lo hi => Sys2Proof.Machine.execImageLoadWrite slot addr lo hi s
  | .imageLoadDone slot => Sys2Proof.Machine.execImageLoadDone slot s
  | .mgmtPacket t => Sys2Proof.Machine.execMgmtPacket t s
  | .coldResetAssert => Sys2Proof.Machine.execColdResetAssert s
  | .hostLinkDown p => Sys2Proof.Machine.execHostLinkDown p s
  | .hostLinkUp p width rate flit ten en => Sys2Proof.Machine.execHostLinkUp p width rate flit ten en s
  | .scatterRecordTime e => Sys2Proof.Machine.execScatterRecordTime e s
  | .basinReleaseComplete b => Sys2Proof.Machine.execBasinReleaseComplete b s
  | .guardSwapLimitExpiry mb => Sys2Proof.Machine.execGuardSwapLimitExpiry mb s
  | .cisternApertureAccess m off w => Sys2Proof.Machine.execCisternApertureAccess m off w s
  | .registerRead m off => Sys2Proof.Machine.execRegisterRead m off s
  | .shedMissTimeout p => Sys2Proof.Machine.execShedMissTimeout p s
  | .eidleAckWaitExpiry p => Sys2Proof.Machine.execEidleAckWaitExpiry p s
  | .routeReplicaSync => Sys2Proof.Machine.execRouteReplicaSync s
  | .pcieCreditUpdate p cls hdr data => Sys2Proof.Machine.execPcieCreditUpdate p cls hdr data s

end Sys2Proof.Machine
end

