-- ==== Sys2Proof/WellFormed.lean ====
section
/-! DEFINITION. Which commands name a port, tile, domain, bank, slot or other part that the block has. A command that is not
well-formed names nothing that the block has. The body of a mailbox command may hold anything: its checks are the command's own. -/

namespace Sys2Proof

/-- Does each index of a command lie in the range the manual gives it? -/
def Instr.wf (i : Instr) : Bool :=
  match i with
  | .registerWrite _ off _ => decide (off < 2 ^ 24)
  | .counterSnapshotRead _ off => decide (off < 2 ^ 24)
  | .counterClear _ off => decide (off < 2 ^ 24)
  | .stageLowWord _ off _ => decide (off < 2 ^ 24)
  | .commitHighWord _ off _ => decide (off < 2 ^ 24)
  | .tmNowRead _ => true
  | .syncIntervalExpiry p => decide (p < 128)
  | .sync p => decide (p < 128)
  | .dreq p => decide (p < 128)
  | .dresp p => decide (p < 128)
  | .announceIntervalExpiry => true
  | .announce p => decide (p < 128)
  | .parentLoss => true
  | .holdLimitExceeded => true
  | .ppsInEdge => true
  | .ppsLoss => true
  | .ppsOutStart => true
  | .ppsOutEnd => true
  | .timeSetTod mb _ => decide (mb < 2)
  | .timeAdjust mb _ _ => decide (mb < 2)
  | .frameSet mb _ _ _ => decide (mb < 2)
  | .timePtpTs mb _ => decide (mb < 2)
  | .timeTbResync mb => decide (mb < 2)
  | .tick => true
  | .frameSwitchArm _ _ => true
  | .framePeriodWrite _ _ _ => true
  | .tbCheckerFire _ => true
  | .tbHeartbeatLoss => true
  | .tbDiverge => true
  | .arefTrimWindow _ => true
  | .masterAccess _ _ _ _ _ => true
  | .packetInject t => decide (t < 64)
  | .read t => decide (t < 64)
  | .flushingRead t => decide (t < 64)
  | .writeP t => decide (t < 64)
  | .writeNp t => decide (t < 64)
  | .atomic t => decide (t < 64)
  | .reserveRead t => decide (t < 64)
  | .condWrite t => decide (t < 64)
  | .msg t => decide (t < 64)
  | .cpl t => decide (t < 64)
  | .completionTimeout t tag => decide (t < 64 ∧ tag < 65536)
  | .quarantineEnd t tag => decide (t < 64 ∧ tag < 65536)
  | .packetDelivery src dt p vc => decide (src < 64 ∧ dt < 64 ∧ p < 2 ∧ vc < 8)
  | .transitKeyAgeOut t tag seq => decide (t < 64 ∧ tag < 65536 ∧ seq < 65536)
  | .receipt t => decide (t < 64)
  | .flowFenceRelease t d => decide (t < 64 ∧ d < 64)
  | .creditReturn p t d vc => decide (p < 2 ∧ t < 64 ∧ d < 5 ∧ vc < 8)
  | .planeReqClear _ p => decide (p < 2)
  | .planeReqSet _ p => decide (p < 2)
  | .planeFenceDone p => decide (p < 2)
  | .planeHardFault p _ t _ vc => decide (p < 2 ∧ t < 64 ∧ vc < 8)
  | .endWord t d => decide (t < 64 ∧ d < 64)
  | .planeResendDone p => decide (p < 2)
  | .planeSelftestDone p _ => decide (p < 2)
  | .routerCe p t d vc => decide (p < 2 ∧ t < 64 ∧ d < 5 ∧ vc < 8)
  | .routerFenceSet _ p t _ => decide (p < 2 ∧ t < 64)
  | .routerInputDrained p t d => decide (p < 2 ∧ t < 64 ∧ d < 5)
  | .hiWeightWrite _ p t _ => decide (p < 2 ∧ t < 64)
  | .routeSetNode mb _ _ _ => decide (mb < 2)
  | .routeNeighbours mb => decide (mb < 2)
  | .routeLoad mb _ _ _ => decide (mb < 2)
  | .routeCommit mb _ => decide (mb < 2)
  | .routeFlip mb _ => decide (mb < 2)
  | .routeDrainStat mb => decide (mb < 2)
  | .routeFree mb _ => decide (mb < 2)
  | .quietSwitchEnd t => decide (t < 64)
  | .helloIntervalExpiry p => decide (p < 128)
  | .hello p => decide (p < 128)
  | .elimAgeExpiry t n => decide (t < 64 ∧ n < 1024)
  | .elimEntryWrite _ t n _ => decide (t < 64 ∧ n < 1024)
  | .packetStart p => decide (p < 128)
  | .gclEntryChange p => decide (p < 128)
  | .gclSwapArm _ p _ => decide (p < 128)
  | .shaperRefill p q => decide (p < 128 ∧ q < 8)
  | .streamHoldRelease c w => decide (c < 16 ∧ w < 64)
  | .streamAdd mb _ => decide (mb < 2)
  | .streamDel mb _ _ _ => decide (mb < 2)
  | .streamQuery mb _ _ _ => decide (mb < 2)
  | .gclLoad mb _ _ => decide (mb < 2)
  | .gclSwap mb _ _ => decide (mb < 2)
  | .shaperSet mb _ _ _ _ _ => decide (mb < 2)
  | .fqSet mb _ _ _ => decide (mb < 2)
  | .telSet mb _ _ _ _ => decide (mb < 2)
  | .telemetrySample p => decide (p < 128)
  | .traceRecord => true
  | .scrub b => decide (b < 24)
  | .bankFault b => decide (b < 24)
  | .snapshotCommit n => decide (n < 64)
  | .publicationDecision n => decide (n < 64)
  | .cascadeJob e => decide (e < 12)
  | .jobStart e => decide (e < 12)
  | .jobComplete e => decide (e < 12)
  | .engineFault e _ => decide (e < 12)
  | .fpStart e p => decide (e < 12 ∧ p < 8)
  | .fpComplete e => decide (e < 12)
  | .fpWeirAbort e p => decide (e < 12 ∧ p < 8)
  | .plumePacket t => decide (t < 64)
  | .ktQueueSet mb _ _ _ _ => decide (mb < 2)
  | .fpLoad mb _ _ _ _ _ _ _ _ => decide (mb < 2)
  | .fpSwap mb _ _ _ => decide (mb < 2)
  | .snapSet mb _ _ _ => decide (mb < 2)
  | .ktReset mb _ => decide (mb < 2)
  | .plumeSet mb _ _ => decide (mb < 2)
  | .partSet mb _ _ _ _ => decide (mb < 2)
  | .partSeal mb _ => decide (mb < 2)
  | .partResync mb _ => decide (mb < 2)
  | .ktQuery mb _ => decide (mb < 2)
  | .whBarrierWrite scope => decide (scope < 4)
  | .localBarrierComplete t => decide (t < 64)
  | .barrier t => decide (t < 64)
  | .dieFlushStart => true
  | .barrierAck t => decide (t < 64)
  | .barrierTimeout n => decide (n < 4096)
  | .warmDrainEnd => true
  | .flitReceive p h b c x y z => decide (p < 128 ∧ h.length = 4 ∧ b.length = 296 ∧ c.length = 8 ∧ x.length = 4 ∧ y.length = 4 ∧ z.length = 4) &&
    (h ++ b ++ c ++ x ++ y ++ z).all (fun v => decide (v < 256))
  | .ack p a => decide (p < 128 ∧ a < 65536)
  | .nak p a => decide (p < 128 ∧ a < 65536)
  | .ackTimerExpiry p => decide (p < 128)
  | .nakResendExpiry p => decide (p < 128)
  | .credit p vn _ => decide (p < 128 ∧ vn < 5)
  | .ingressRelease p vn => decide (p < 128 ∧ vn < 5)
  | .mapReq p rid _ _ _ _ => decide (p < 128 ∧ rid < 65536)
  | .mapRsp p rid _ => decide (p < 128 ∧ rid < 65536)
  | .lanesReady p rid => decide (p < 128 ∧ rid < 65536)
  | .lanesReadyTimeout p => decide (p < 128)
  | .mapMarkerSend p => decide (p < 128)
  | .mapMarkerReceive p bs => decide (p < 128 ∧ bs.length = 16) && bs.all (fun b => decide (b < 256))
  | .laneIdleAfterMarker p => decide (p < 128)
  | .laneFail p _ => decide (p < 128)
  | .laneLockLoss p _ => decide (p < 128)
  | .lockCriterionExpiry p => decide (p < 128)
  | .stop p => decide (p < 128)
  | .retrainReq p => decide (p < 128)
  | .linkEnSet _ p => decide (p < 128)
  | .linkEnClear _ p => decide (p < 128)
  | .lnkRetrainWrite _ p => decide (p < 128)
  | .signalDetect p _ => decide (p < 128)
  | .symbolLock p _ => decide (p < 128)
  | .trainTmoExpiry p => decide (p < 128)
  | .trainingBlock p l magic ctl node port nonce pnonce nextRx offers lanes tstamp echoed age rsv crc =>
    decide (p < 128 ∧ l < 16 ∧ node < 2 ^ 12 ∧ port < 2 ^ 20 ∧ nextRx < 2 ^ 16 ∧ offers < 2 ^ 16 ∧ rsv.length = 5) &&
    ([magic, ctl, nonce, pnonce, lanes, tstamp, echoed, age, crc] ++ rsv).all (fun w => decide (w < 2 ^ 32))
  | .retrainTmoExpiry p => decide (p < 128)
  | .graceExpiry p => decide (p < 128)
  | .eidleRelease p => decide (p < 128)
  | .recalPeriodExpiry p => decide (p < 128)
  | .recalAck p _ => decide (p < 128)
  | .recalTimeout p => decide (p < 128)
  | .linkSet mb _ _ _ _ _ _ => decide (mb < 2)
  | .linkRetrain mb _ => decide (mb < 2)
  | .linkWidth mb _ _ => decide (mb < 2)
  | .linkRecal mb _ _ => decide (mb < 2)
  | .linkLaneReturn mb _ _ => decide (mb < 2)
  | .linkQuery mb _ => decide (mb < 2)
  | .hostTlp p _ _ => decide (p < 128)
  | .downstreamTlp p _ _ => decide (p < 128)
  | .pctoExpiry p tag => decide (p < 128 ∧ tag < 65536)
  | .configRequest p _ _ => decide (p < 128)
  | .vdmBarrier p rid _ scope _ => decide (p < 128 ∧ rid < 65536 ∧ scope < 4)
  | .dpcTrigger p _ => decide (p < 128)
  | .ptmRequest p => decide (p < 128)
  | .secondaryBusReset h _ => decide (h < 30)
  | .functionLevelReset p rid => decide (p < 128 ∧ rid < 65536)
  | .slotCfgEn _ n _ => decide (n < 64)
  | .slotPrsntChange n _ => decide (n < 64)
  | .slotPowerOn n => decide (n < 64)
  | .slotPgood n _ => decide (n < 64)
  | .slotPgTimeout n => decide (n < 64)
  | .slotPerstTimer n => decide (n < 64)
  | .slotDlActive n _ _ _ _ _ => decide (n < 64)
  | .slotLinkTimeout n => decide (n < 64)
  | .slotSurpriseDown n _ => decide (n < 64)
  | .slotFlt n _ => decide (n < 64)
  | .slotSettleExpiry n => decide (n < 64)
  | .slotReinsert n => decide (n < 64)
  | .slotRetry n => decide (n < 64)
  | .slotClrFault _ n => decide (n < 64)
  | .slotPowerOff _ n => decide (n < 64)
  | .attentionButton n => decide (n < 64)
  | .pmbusPoll n _ _ _ _ _ => decide (n < 64)
  | .portSet mb _ _ _ _ => decide (mb < 2)
  | .hpartSet mb _ _ _ _ _ => decide (mb < 2)
  | .fnBind mb _ _ => decide (mb < 2)
  | .slotSet mb _ _ _ _ _ => decide (mb < 2)
  | .slotPower mb _ _ => decide (mb < 2)
  | .portDpcRelease mb _ => decide (mb < 2)
  | .portQuery mb _ => decide (mb < 2)
  | .doorbellPushWrite p h rid _ _ _ _ => decide (p < 128 ∧ h < 30 ∧ rid < 65536)
  | .doorbellRingWrite p h rid _ _ _ _ => decide (p < 128 ∧ h < 30 ∧ rid < 65536)
  | .ringDoorbellMsg e => decide (e < 12)
  | .consWriteback b => decide (b < 1024)
  | .vectorUnmask _ b v => decide (b < 1024 ∧ v < 8)
  | .dirtyMark b => decide (b < 24)
  | .basinCreate mb _ _ _ _ _ _ _ _ => decide (mb < 2)
  | .basinReset mb _ => decide (mb < 2)
  | .basinResetDone b => decide (b < 1024)
  | .basinDestroy mb _ => decide (mb < 2)
  | .basinMapAdd mb _ _ => decide (mb < 2)
  | .basinMapDel mb _ _ => decide (mb < 2)
  | .basinLogSet mb _ _ _ _ _ _ => decide (mb < 2)
  | .basinHarvest mb _ => decide (mb < 2)
  | .basinQuery mb _ => decide (mb < 2)
  | .guardSwapGo _ n => decide (n < 30)
  | .lockBitWrite _ _ => true
  | .sealBitWrite _ n => decide (n < 32)
  | .guardLoad mb _ _ _ => decide (mb < 2)
  | .guardSwap mb _ _ => decide (mb < 2)
  | .guardQuery mb _ => decide (mb < 2)
  | .lockSet mb _ => decide (mb < 2)
  | .scQuery mb => decide (mb < 2)
  | .debugAccess off _ => decide (off < 2 ^ 24)
  | .debugAccessTimeout => true
  | .hysteresisExpiry d => decide (d < 63)
  | .entryRetry d => decide (d < 63)
  | .domainClosed d => decide (d < 63)
  | .domainDrained d => decide (d < 63)
  | .drainTimeout d => decide (d < 63)
  | .retentionSaveDone d => decide (d < 63)
  | .retentionToOff d => decide (d < 63)
  | .domainWake d => decide (d < 63)
  | .entryAbort d => decide (d < 63)
  | .wakeComplete d => decide (d < 63)
  | .edgeWake _ d => decide (d < 63)
  | .wakeOnAccessTimeout i => decide (i < 3)
  | .accessHoldExpiry d => decide (d < 63)
  | .powerVote mb _ _ => decide (mb < 2)
  | .powerDomainSet mb _ _ => decide (mb < 2)
  | .powerLevel mb _ => decide (mb < 2)
  | .levelChange => true
  | .vidAck => true
  | .vidTimeout => true
  | .powerFullRet mb => decide (mb < 2)
  | .wakeIn => true
  | .pllLock i _ => decide (i < 23)
  | .pllLockLoss i => decide (i < 23)
  | .tclkLockLoss => true
  | .sag1 => true
  | .sag2 => true
  | .sag3 => true
  | .forcedRetention _ => true
  | .sagRelease _ => true
  | .thermalSample _ => true
  | .thermalLimitStep => true
  | .sensorTimeout n => decide (n < 16)
  | .powerLedger mb => decide (mb < 2)
  | .powerQuery mb => decide (mb < 2)
  | .thermalSet mb _ => decide (mb < 2)
  | .safeClear mb => decide (mb < 2)
  | .supplyLoss d => decide (d < 63)
  | .supplyGoodTimeout d => decide (d < 63)
  | .burstHoldArm _ _ => true
  | .burstHoldExpire i => decide (i < 3)
  | .pbWriteFrame _ => true
  | .pbReadSetup _ => true
  | .pbStatusSetup _ => true
  | .pbReadFrame _ => true
  | .semAcquire _ n => decide (n < 32)
  | .semRelease _ n _ => decide (n < 32)
  | .semLeaseExpiry n => decide (n < 32)
  | .mailboxDoorbell _ mb => decide (mb < 2)
  | .commandTake => true
  | .mailboxAck _ mb => decide (mb < 2)
  | .identify mb => decide (mb < 2)
  | .caps mb => decide (mb < 2)
  | .echo mb _ => decide (mb < 2)
  | .fwLog mb => decide (mb < 2)
  | .whBoot => true
  | .whReady => true
  | .whHeartbeat => true
  | .watchdogExpiry => true
  | .whLockstepFault => true
  | .whRestart _ => true
  | .updateBegin mb => decide (mb < 2)
  | .updateWrite mb _ _ => decide (mb < 2)
  | .updateVerify mb => decide (mb < 2)
  | .updateActivate mb _ => decide (mb < 2)
  | .updateCancel mb => decide (mb < 2)
  | .updateStatus mb => decide (mb < 2)
  | .handoverBoot => true
  | .handoverCancelTimeout => true
  | .handoverFallback => true
  | .errRead mb => decide (mb < 2)
  | .errClear mb _ => decide (mb < 2)
  | .eventMap mb _ _ => decide (mb < 2)
  | .counters mb _ => decide (mb < 2)
  | .errInject mb _ _ _ _ => decide (mb < 2)
  | .fltRdWrite _ _ => true
  | .bankReturn _ b => decide (b < 24)
  | .bankSelftestDone b _ => decide (b < 24)
  | .coldReset _ _ unlocked => decide (unlocked < 64)
  | .warmReset => true
  | .imageLoadWrite slot addr lo hi => decide (slot < 2 ∧ addr < 131072 ∧ lo < 2 ^ 32 ∧ hi < 2 ^ 32)
  | .imageLoadDone slot => decide (slot < 2)
  | .mgmtPacket t => decide (t < 64)
  | .coldResetAssert => true
  | .hostLinkDown p => decide (p < 128)
  | .hostLinkUp p _ _ _ _ _ => decide (p < 128)
  | .scatterRecordTime e => decide (e < 12)
  | .basinReleaseComplete b => decide (b < 1024)
  | .guardSwapLimitExpiry mb => decide (mb < 2)
  | .cisternApertureAccess _ off _ => decide (off < 2 ^ 24)
  | .registerRead _ off => decide (off < 2 ^ 24)
  | .shedMissTimeout p => decide (p < 128)
  | .eidleAckWaitExpiry p => decide (p < 128)
  | .routeReplicaSync => true
  | .pcieCreditUpdate p _ _ _ => decide (p < 128)

end Sys2Proof
end

