-- ==== Sys2Proof/Safety.lean ====
section
/-! DEFINITION. The terms in which claims about the block are made: settled interrupts, canonical memories, and when a command of a
mailbox, an access of a control master or a packet at a tile is in a position to act. -/

namespace Sys2Proof.Machine

/-- Every source and mailbox level that rose has sent its message (R392, R410): the levels last looked at are the levels now. -/
abbrev State.settled (s : State) : Prop := s.irq.prev = s.levels

/-- The addressed memories are in their canonical form: the cistern, the local stores and the Wellhead's RAM. -/
def State.memOk (s : State) : Bool := memWf s.cis.mem && memWf s.kt.ls && memWf s.wh.ram

/-- Mailbox `mb` has the command `c` of opcode `op` RUNNING, so that its row may act (R393). -/
abbrev State.runs (s : State) (mb op : Nat) (c : OpenCmd) : Prop :=
  s.openCmd mb = some c ∧ c.op = op ∧ c.wait = none ∧ s.get (MB_STAT_STATE mb) = mbRUNNING

/-- Port `p` carries a Runnel link in state ACTIVE. -/
abbrev State.linkActive (s : State) (p : Nat) : Prop := s.lst p = lkACTIVE

/-- The state in which FRAME_SET has written its values and asked for the switch (R58). -/
def State.frameAsked (s : State) (per ph frame : Nat) : State :=
  ((((s.put TM_FRAME_NEXT_PERIOD_NS per).put TM_FRAME_NEXT_PHASE_NS ph).wr R_TM_FRAME_SWITCH_LO frame).wr R_TM_FRAME_SWITCH_HI
    (frame / 2 ^ 32)).armSwitch frame

/-- The oldest packet at tile `t` that satisfies a test is `p`, and `u` is the state without it. -/
abbrev State.gives (s : State) (t : Nat) (f : Pkt → Bool) (p : Pkt) (u : State) : Prop := s.takeArrived t f = (some p, u)

/-- An access of a control master other than the debug master finds CX awake with nothing waiting, a path, a register or the
cistern address `apt` at the offset, the right to it and its domain awake: it is then performed at once (R13, R365, R380,
R381, R384, R385). -/
abbrev State.cxReady (s : State) (m : Master) (off : Nat) (write : Bool) (t : Nat) (apt : Option Nat) (d : Nat) : Prop :=
  m ≠ .debug ∧ s.cxOn = true ∧ s.wh.cxq = [] ∧ s.wh.holds = [] ∧ s.wh.jobs = []
    ∧ s.portRight m off write = true ∧ cxTarget off = some t ∧ cxPath m t = true
    ∧ s.cxPlace m off write = some (apt, d) ∧ s.regAsleep d = false

/-- The access stands at its target: its master's input holds it, and an access to a domain with WAKE_ON_ACCESS has cast that
domain's ACCESS vote (R365). -/
def State.cxBegin (s : State) (m : Master) (off : Nat) (w : Option Word) (d : Nat) : State :=
  (s.enter m off w false).doIf (s.woa d && decide (d < 62)) (fun u => u.castVote d (PW_DOM_VOTE_ACCESS d) 4)

/-- The register at `off`, in domain `d`, takes the write of `v` by master `m`, which no rule of R463 refuses, and `u` is the
state after. -/
abbrev State.takes (s : State) (m : Master) (off : Nat) (v : Word) (d : Nat) (u : State) : Prop :=
  (s.cxBegin m off (some v) d).regWrite m off v.toNat = (.ok, u)

/-- CX looks for what else it can serve: `n` more rounds, and the debug master's answer. -/
def State.cxLook (s : State) (n : Nat) : State := (State.cxDrain n s).dbgDrain

/-- The end of an access: its target has served the master, it leaves the master's input and the master hears. -/
def State.cxEnd (s : State) (m : Master) (off : Nat) (w : Option Word) (st : Status) (d : Nat) : State :=
  (((s.cxServed ⟨m, off, w, false, none⟩).cxPop (masterIdx m)).answer m st d).cxLook 3

/-- What a write leaves that the register takes with state `u`. -/
def State.wrote (u : State) (m : Master) (off : Nat) (v : Word) : State := u.cxEnd m off (some v) .ok 0

/-- What a read leaves. -/
def State.didRead (s : State) (m : Master) (off d : Nat) : State :=
  let r := (s.cxBegin m off none d).regRead m off
  r.2.cxEnd m off none .ok r.1

/-- What an access of the cistern address `a` through an aperture leaves: it has gone out, and waits for its completion (R383). -/
def State.apertureOut (s : State) (m : Master) (off : Nat) (w : Option Word) (a d : Nat) : State :=
  let x : CxAcc := ⟨m, off, w, false, none⟩
  let r := (s.cxBegin m off w d).aptIssue a w 1 none
  ((r.2.cxServed x).cxOut x r.1).cxLook 3

/-- The word that a write of `v` to one field writes: the other bits as they read. -/
def State.fldWord (s : State) (f : Fld) (v : Nat) : Word := BitVec.ofNat 32 (insBits (s.rd f.off) f.lo f.w v)

/-- A 64-bit register of type RW or RWL, `lo` its low word, whose two words are writable and which no rule covers now (R12). -/
def Pair64 (s : State) (m : Master) (lo : Nat) (q r : RegRow) : Prop :=
  lowOf64 lo = true ∧ lowOf64 (lo + 4) = false ∧ (regRow lo).map (·.1) = some q ∧ (regRow (lo + 4)).map (·.1) = some r ∧
    q.kind = .plain ∧ r.kind = .plain ∧ q.rw &&& masterMask m lo ≠ 0 ∧ r.rw &&& masterMask m (lo + 4) ≠ 0 ∧
    masterMask m lo = full32 ∧ masterMask m (lo + 4) = full32 ∧ lo + 4 ≠ R_GLB_PLANE_CTL ∧
    (∀ v, s.covers m lo v = []) ∧ (∀ v, s.covers m (lo + 4) v = [])

end Sys2Proof.Machine

/-- Does a command reach logic whose clock never stops: the resets and the image input, the always-on supplies, PLLs, VID and
the SAG release, and what wakes the die (assumption log 112)? Every other row happens in logic that stands still with the
clocks. -/
def Sys2Proof.Instr.reachesSleepers (c : Sys2Proof.Instr) : Bool :=
  match c with
  | .coldReset .. | .coldResetAssert .. | .forcedRetention .. | .imageLoadDone .. | .imageLoadWrite .. | .pllLock .. | .pllLockLoss .. | .sagRelease .. | .supplyGoodTimeout .. | .supplyLoss .. | .tclkLockLoss .. | .vidAck .. | .vidTimeout .. | .wakeIn .. | .warmReset .. => true
  | _ => false
end

