-- ==== Sys2Proof/Certificates/Slice0/Obligations.lean ====
section
/-! DEFINITION. The statements for the provers. -/

section

open Sys2Proof Sys2Proof.Machine

/-! ### What a step is, what reset leaves, and the rules of single units -/

/-- For every command c and state s, a step with c at the front of the queue is exec of c on s with the rest of the queue
(the model's queue; assumption log 25 says what a step is). -/
def Obligations.StepRunsTheFrontCommand : Prop :=
  ∀ (c : Instr) (rest : List Instr) (s : State), step { s with pending := c :: rest } = exec c { s with pending := rest }

/-- With no command waiting, one TCLK cycle passes, and nothing at all while the clocks stand still: the model's choice of
assumption log 25. -/
def Obligations.EmptyQueueLetsOneCyclePass : Prop :=
  ∀ s : State, s.pending = [] → (s.stopped = false → step s = .next s.idle.settle) ∧ (s.stopped = true → step s = .next s)

/-- While the clocks stand still (full or forced retention with PD_CORE asleep) every command leaves every register, counter,
buffer and memory as it is, but for the rows that reach logic whose clock runs or that wake the die. Logic held in retention
keeps its state by R373; which rows reach it is the model's reading of R366, R373 and R407, assumption log 112. -/
def Obligations.StoppedClocksKeepEveryValue : Prop :=
  ∀ (c : Instr) (s : State), s.stopped = true → c.reachesSleepers = false → exec c s = .next s

/-- What reset leaves, where the register tables give a value: the frame period of 62,500 ns and phase 0 (R53), level PL3, both
mailboxes IDLE, no lock bit, no semaphore owner, no unread fault record, an empty error summary, and every counter 0. The queue of
commands, the model's own, is empty. -/
def Obligations.ResetRegistersReadTheirStatedValues : Prop :=
  State.reset.get TM_FRAME_PERIOD_NS = 62500 ∧ State.reset.get TM_FRAME_PHASE_NS = 0 ∧ State.reset.get PW_STAT_PL_CUR = 3 ∧
    State.reset.get SC_LOCK_GROUPS = 0 ∧ State.reset.get GLB_FLT_WR_UNREAD = 0 ∧ State.reset.rd R_GLB_ERR_SUM = 0 ∧
    (∀ m < 2, State.reset.get (MB_STAT_STATE m) = mbIDLE) ∧ (∀ n < 32, State.reset.get (SEM_OWN_OWNER n) = 0) ∧
    (∀ off, State.reset.cnt off = 0) ∧ State.reset.pending = []

/-- The state after reset has nothing left to signal and its memories are in canonical form. -/
def Obligations.ResetIsSettledAndCanonical : Prop :=
  State.reset.settled ∧ State.reset.memOk = true

/-- A credit that returns to a counter already at its buffer's depth stops the machine (assumption log 76: the manual states
no effect for it): on every link of the grid whose far input is not fenced, and on every local port. -/
def Obligations.CreditReturnToAFullCounterFaults : Prop :=
  ∀ (s : State) (p ti dd vc : Nat), p < 2 → hasPort ti dd = true → vc < 8 →
    (dd < 4 → bit (s.get (RT_FENCE_PORTS p (nextTile ti dd))) (backDir dd) = false) → s.stopped = false →
    tgetD s.mesh.credUsed (credKey p ti dd vc) 0 = 0 → exec (.creditReturn p ti dd vc) s = .fault .creditOverflow

/-- In every state, reached or not, in which the clocks run, and in every settled state: after any step that goes on, every level
that rose has sent its messages and the levels last looked at are the levels now. -/
def Obligations.EveryStepSettlesTheInterrupts : Prop :=
  ∀ s t : State, step s = .next t → s.stopped = false ∨ s.settled → t.settled

/-- The end of a step with no GUARD_SWAP left to answer: exactly the sources (0 to 15) and mailboxes (16, 17) whose level was
low and is high now send what R410 and R392 say; a level that stays high, or falls, sends nothing; nothing sent before is lost;
no register, counter or memory changes. -/
def Obligations.MessagesGoOutOnRisesAlone : Prop :=
  ∀ s : State, s.guardWaits = s →
    ∃ out : List Sent, s.settle = { s with irq := { prev := s.levels }, sent := out ++ s.sent } ∧
      (∀ x, x ∈ out ↔ ∃ n < 18, bit s.levels n = true ∧ bit s.irq.prev n = false ∧ x ∈ s.rise n) ∧
      (s.irq.prev = s.levels → out = [])

/-- Snapshot reads, register by register. A low word returns its value and latches the high word for the reader alone; a high
word returns what its reader latched; of another master's latches, counters and registers nothing changes. -/
def Obligations.SnapshotReadsLatchForTheirReader : Prop :=
  (∀ (s : State) (m : Master) (off : Nat) (p : RegPlace) (r : RegRow) (d : Nat),
    decodeOffset off = some p → regRow off = some (r, d) → r.kind = .pair ∨ r.kind = .cntLo → r.isHi p.rel = false →
      (s.regRead m off).1 = s.cnt off % 2 ^ 32 ∧
      (∀ (k : Nat), tgetD (s.regRead m off).2.latch k 0 =
        if k = masterIdx m * 2 ^ 24 + highOf off then s.ctrHi off else tgetD s.latch k 0) ∧
      (s.regRead m off).2 = { s with latch := (s.regRead m off).2.latch }) ∧
  (∀ (s : State) (m : Master) (off : Nat) (p : RegPlace) (r : RegRow) (d : Nat),
    decodeOffset off = some p → regRow off = some (r, d) → r.isHi p.rel = true →
      s.regRead m off = (tgetD s.latch (masterIdx m * 2 ^ 24 + off) 0, s)) ∧
  (∀ (s : State) (m : Master) (k : Nat),
    (s.regRead m R_TM_NOW_NS).1 = s.nowNs ∧
    tgetD (s.regRead m R_TM_NOW_NS).2.latch k 0 =
      if k = masterIdx m * 2 ^ 24 + R_TM_NOW_SEC_HI then s.nowSec / 2 ^ 32 % 2 ^ 16 + s.nowFrac * 2 ^ 16
      else if k = masterIdx m * 2 ^ 24 + R_TM_NOW_SEC_LO then s.nowSec % 2 ^ 32 else tgetD s.latch k 0) ∧
  (∀ (s : State) (m : Master) (k : Nat),
    (s.regRead m R_TM_FRAME_NUM_LO).1 = s.rd R_TM_FRAME_NUM_LO ∧
    tgetD (s.regRead m R_TM_FRAME_NUM_LO).2.latch k 0 =
      if k = masterIdx m * 2 ^ 24 + R_TM_FRAME_NUM_HI then s.rd R_TM_FRAME_NUM_HI else tgetD s.latch k 0)

/-- A read that the debug master makes of any register leaves everything but its own latches as it was. -/
def Obligations.DebugReadsChangeNothingElse : Prop :=
  ∀ (s : State) (off : Nat),
    (s.regRead .debug off).2 = { s with latch := (s.regRead .debug off).2.latch } ∧
    (∀ k, k < 3 * 2 ^ 24 → tgetD (s.regRead .debug off).2.latch k 0 = tgetD s.latch k 0)

/-- A low write is staged for its master and changes no register. A high write commits the master's staged low word, or the
register's own low word where nothing is staged, together with the high word, and forgets what was staged. Other masters' staged
words stay. -/
def Obligations.LowWritesStageAndHighWritesCommit : Prop :=
  (∀ (s : State) (m : Master) (lo v : Nat) (q r : RegRow), Pair64 s m lo q r → v < 2 ^ 32 →
    s.regWrite m lo v = (.ok, { s with staged := tset s.staged (masterIdx m * 2 ^ 24 + lo) v })) ∧
  (∀ (s : State) (m : Master) (lo v : Nat) (q r : RegRow), Pair64 s m lo q r → v < 2 ^ 32 →
    (s.regWrite m (lo + 4) v).1 = .ok ∧
    (s.regWrite m (lo + 4) v).2.rd lo =
      (match tget s.staged (masterIdx m * 2 ^ 24 + lo) with
       | some w => storeWord q (s.rd lo) w
       | none => s.rd lo) % 2 ^ 32 ∧
    (s.regWrite m (lo + 4) v).2.rd (lo + 4) = storeWord r (s.rd (lo + 4)) v % 2 ^ 32 ∧
    (s.regWrite m (lo + 4) v).2.staged = tdel s.staged (masterIdx m * 2 ^ 24 + lo))

/-- A read of an offset that no register occupies completes at once with UNSUPPORTED and 0, and a write there is dropped with
UNSUPPORTED, whatever the power state of the region. -/
def Obligations.UnoccupiedOffsetsAnswerUnsupported : Prop :=
  (∀ (s : State) (m : Master) (off t : Nat), m ≠ .debug → s.cxOn = true → s.stopped = false → s.wh.cxq = [] →
    s.portRight m off false = true → cxTarget off = some t → cxPath m t = true → off < 0x800000 → regRow off = none →
      exec (.registerRead m off) s = .next ((s.enter m off none false).cxEnd m off none .unsupported 0).settle) ∧
  (∀ (s : State) (m : Master) (off t : Nat) (w : Word), m ≠ .debug → s.cxOn = true → s.stopped = false → s.wh.cxq = [] →
    s.portRight m off true = true → cxTarget off = some t → cxPath m t = true → off < 0x800000 → regRow off = none →
      exec (.registerWrite m off w) s = .next ((s.enter m off (some w) false).cxEnd m off (some w) .unsupported 0).settle)

/-- A write of a register all of whose writable bits lie in a set lock group is dropped with LOCKED, whoever writes and whatever
the value: nothing changes. Setting lock bits never clears one. -/
def Obligations.LockedRegistersDropEveryWrite : Prop :=
  (∀ (s : State) (m : Master) (off v g d : Nat) (r : RegRow),
    regRow off = some (r, d) → r.kind = .plain → lockGroup off = some g → bit (s.get SC_LOCK_GROUPS) g = true →
    (r.rw ||| r.w1c ||| r.w1s ||| r.wo) &&& masterMask m off ≠ 0 →
    ((r.rw ||| r.w1c ||| r.w1s ||| r.wo) &&& masterMask m off) &&& lockMask off = (r.rw ||| r.w1c ||| r.w1s ||| r.wo) &&& masterMask m off →
      s.regWrite m off v = (.locked, s)) ∧
  (∀ (s : State) (v g : Nat), g < 7 → bit (s.get SC_LOCK_GROUPS) g = true ∨ bit v g = true →
    bit ((s.setLocks v).get SC_LOCK_GROUPS) g = true)

/-- Counting stops at 2^48 - 1, where the count reads with SAT set; the increment that reaches it sets the bit of the counter's
group in GLB_SAT_EVT; later increments change no count; no other counter changes. -/
def Obligations.CountersStopAtTheirLargestCount : Prop :=
  ∀ (s : State) (off n : Nat), s.cnt off ≤ ctrMax →
    (s.bump off n).cnt off ≤ ctrMax ∧
    (s.cnt off + n ≤ ctrMax → (s.bump off n).cnt off = s.cnt off + n) ∧
    (bit ((s.bump off n).ctrHi off) 31 = true ↔ (s.bump off n).cnt off = ctrMax) ∧
    (s.cnt off = ctrMax → (s.bump off n).cnt off = ctrMax ∧ (s.bump off n).regs = s.regs) ∧
    (s.cnt off < ctrMax → ctrMax ≤ s.cnt off + n → bit ((s.bump off n).rd R_GLB_SAT_EVT) (satGroup off) = true) ∧
    (∀ o, o ≠ off → (s.bump off n).cnt o = s.cnt o)

/-- A read by a control master acquires a free semaphore, or one it owns, and returns 0; a read of another's returns the owner
and changes nothing. A write of the owner's own ID frees it; any other write is counted in CX_SEM_BAD. The debug master reads
the owner and changes nothing. -/
def Obligations.SemaphoresBelongToTheirOwner : Prop :=
  ∀ (s : State) (m : Master) (n v : Nat), n < 32 →
    (m ≠ .debug → s.get (SEM_OWN_OWNER n) = 0 ∨ s.get (SEM_OWN_OWNER n) = ownerId m →
      (s.regRead m (R_SEM n)).1 = 0 ∧ (s.regRead m (R_SEM n)).2.get (SEM_OWN_OWNER n) = ownerId m ∧
        tget (s.regRead m (R_SEM n)).2.wh.semAt n = some s.ns) ∧
    (m ≠ .debug → s.get (SEM_OWN_OWNER n) ≠ 0 → s.get (SEM_OWN_OWNER n) ≠ ownerId m →
      s.regRead m (R_SEM n) = (s.get (SEM_OWN_OWNER n), s)) ∧
    (s.regRead .debug (R_SEM n) = (s.get (SEM_OWN_OWNER n), s)) ∧
    (m ≠ .debug → s.get (SEM_OWN_OWNER n) = ownerId m → v % 256 = ownerId m →
      (s.regWrite m (R_SEM n) v).2.get (SEM_OWN_OWNER n) = 0) ∧
    (s.get (SEM_OWN_OWNER n) ≠ ownerId m ∨ v % 256 ≠ ownerId m →
      (s.regWrite m (R_SEM n) v).2 = s.count C_CX_SEM_BAD)

/-- A write of 1 to DB.RING moves an IDLE mailbox to PENDING and rings the Wellhead; in any other state it is dropped with BUSY
and counted in BUSY_DROP and GLB_CFG_BUSY, and the mailbox keeps its state. -/
def Obligations.DoorbellsRingOnlyIdleMailboxes : Prop :=
  (∀ (s : State) (m : Master) (mb v : Nat), mb < 2 → bit v 0 = true → (mb = 0 → s.sem0Other m = false) →
    s.get (MB_STAT_STATE mb) = mbIDLE → s.whState = whUP ∨ s.whState = whBOOTING →
      (s.regWrite m (R_MB_DB mb) v).1 = .ok ∧ (s.regWrite m (R_MB_DB mb) v).2.get (MB_STAT_STATE mb) = mbPENDING ∧
        (s.regWrite m (R_MB_DB mb) v).2.wh.rung = s.wh.rung ++ [mb]) ∧
  (∀ (s : State) (m : Master) (mb v : Nat), mb < 2 → s.get (MB_STAT_STATE mb) ≠ mbIDLE →
      s.regWrite m (R_MB_DB mb) v = (.busy, (s.count C_GLB_CFG_BUSY).count (C_MB_BUSY_DROP mb)))

/-- A fault either folds, and then only the newest record's COUNT changes, up to 255; or it is a new record, and then NEXT moves
on, its class shows in GLB_ERR_SUM, and UNREAD grows by 1 up to 64, past which the oldest record is given up and counted. -/
def Obligations.FaultRecordsFoldOrAdvanceTheRing : Prop :=
  (∀ (s : State) (c u detail flags : Nat), s.folds c u = true →
    (∀ o, o ≠ fltOff ((s.get GLB_FLT_WR_NEXT + 63) % 64) 0 → (s.logFault c u detail flags).rd o = s.rd o) ∧
    bits ((s.logFault c u detail flags).rd (fltOff ((s.get GLB_FLT_WR_NEXT + 63) % 64) 0)) 16 8 =
      min (bits (s.rd (fltOff ((s.get GLB_FLT_WR_NEXT + 63) % 64) 0)) 16 8 + 1) 255 ∧
    (s.logFault c u detail flags).ctrs = s.ctrs) ∧
  (∀ (s : State) (c u detail flags : Nat), c < 12 → s.folds c u = false → s.get GLB_FLT_WR_NEXT < 64 → s.get GLB_FLT_WR_UNREAD ≤ 64 →
    (s.logFault c u detail flags).get GLB_FLT_WR_NEXT = (s.get GLB_FLT_WR_NEXT + 1) % 64 ∧
    (s.logFault c u detail flags).get GLB_FLT_WR_UNREAD = min (s.get GLB_FLT_WR_UNREAD + 1) 64 ∧
    bits ((s.logFault c u detail flags).rd (fltOff (s.get GLB_FLT_WR_NEXT) 0)) 0 8 = c ∧
    bits ((s.logFault c u detail flags).rd (fltOff (s.get GLB_FLT_WR_NEXT) 0)) 8 8 = u % 256 ∧
    (s.logFault c u detail flags).rd (fltOff (s.get GLB_FLT_WR_NEXT) 3) = detail % 2 ^ 32 ∧
    bit ((s.logFault c u detail flags).rd R_GLB_ERR_SUM) c = true ∧
    (s.get GLB_FLT_WR_UNREAD = 64 → (s.logFault c u detail flags).get GLB_FLT_RD_OLDEST = (s.get GLB_FLT_RD_OLDEST + 1) % 64 ∧
      (s.logFault c u detail flags).ctrs = (s.count C_GLB_FLT_OVF).ctrs))

/-- A bank's answer to a COND_WRITE of one granule of an unmirrored, unsealed range in service: with a valid entry of its owner
key it writes, clears every entry of the granule and answers OK; without one it writes nothing and answers RESERVATION_LOST. -/
def Obligations.ConditionalWritesNeedTheirReservation : Prop :=
  ∀ (s : State) (a : Nat) (bs : List Nat) (k : ResKey), s.resOk a bs.length = true →
    s.rowsOk (bankOf a) (a % 0x400000) bs.length = true → s.sealed a = false → s.sealed (a + bs.length - 1) = false →
    ((∃ r ∈ s.ord.resv, r.bank = bankOf a ∧ r.granule = a % 0x400000 / 2 ^ s.granLog ∧ r.src = k.src ∧ r.pasid = k.pasid ∧ r.basin = k.basin) →
        (s.bankCond a bs k).1 = .ok ∧ (s.bankCond a bs k).2.cis.mem = memWrite s.cis.mem a bs ∧
          (∀ r ∈ (s.bankCond a bs k).2.ord.resv, ¬ (r.bank = bankOf a ∧ r.granule = a % 0x400000 / 2 ^ s.granLog))) ∧
    ((∀ r ∈ s.ord.resv, ¬ (r.bank = bankOf a ∧ r.granule = a % 0x400000 / 2 ^ s.granLog ∧ r.src = k.src ∧ r.pasid = k.pasid ∧ r.basin = k.basin)) →
      s.bankCond a bs k = (.reservationLost, s))

/-- A bank that takes a write holds the bytes written where they were written and every other byte as before, in canonical form;
a bank that refuses it (a row out of service, a sealed range) changes nothing at all. -/
def Obligations.BankWritesStoreTheirBytesAndNoOthers : Prop :=
  ∀ (s : State) (a : Nat) (bs : List Nat) (bad : Bool) (own : Option ResKey), memWf s.cis.mem = true →
    ((s.bankWrite a bs bad own).1 = .ok →
      (∀ i < bs.length, memByte (s.bankWrite a bs bad own).2.cis.mem (a + i) = bs.getD i 0 % 256) ∧
      (∀ b, b < a ∨ a + bs.length ≤ b → memByte (s.bankWrite a bs bad own).2.cis.mem b = memByte s.cis.mem b) ∧
      memWf (s.bankWrite a bs bad own).2.cis.mem = true) ∧
    ((s.bankWrite a bs bad own).1 ≠ .ok → (s.bankWrite a bs bad own).2 = s)

/-- Zeroing or copying a range of the cistern (a harvest, a reset, a resync) keeps the memory canonical. A zeroed range reads
zero, a copied range reads as its source did, and every other byte reads as before. A sealed piece and a retired bank take
nothing. -/
def Obligations.CisternRangesZeroAndCopy : Prop :=
  (∀ (s : State) (a n : Nat), memWf s.cis.mem = true →
    memWf (s.cisClear a n).cis.mem = true ∧
    (∀ b, memByte (s.cisClear a n).cis.mem b = if a ≤ b ∧ b < a + n then 0 else memByte s.cis.mem b)) ∧
  (∀ (s : State) (a n : Nat), 0 < n → a % 65536 + n ≤ 65536 →
    (s.bankRetired (bankOf a) = true → s.cisZero a n = s) ∧
    (s.bankRetired (bankOf a) = false → s.sealed a = true → s.cisZero a n = s.count (C_CT_SEAL_DROP (bankOf a))) ∧
    (s.bankRetired (bankOf a) = false → s.sealed a = false → (s.cisZero a n).cis.mem = (s.cisClear a n).cis.mem)) ∧
  (∀ (s : State) (src dst n : Nat), memWf s.cis.mem = true → src + n ≤ dst ∨ dst + n ≤ src →
    memWf (s.cisCopy src dst n).cis.mem = true ∧
    (∀ b, memByte (s.cisCopy src dst n).cis.mem b = if dst ≤ b ∧ b < dst + n then memByte s.cis.mem (src + (b - dst)) else memByte s.cis.mem b))

/-- Of two copies with one (TAG, SEQ) the transit filter passes the first and discards the second, and is then as it was; while
the other plane is not in service it passes a copy and keeps nothing. A copy whose twin's key has aged out passes and is counted. -/
def Obligations.TransitFilterPassesOneOfTwoCopies : Prop :=
  ∀ (s : State) (c : Nat) (p : Pkt), c < 16 →
    s.mesh.transit.any (fun e => e.1 == ptTile c && e.2.1 == p.tag && e.2.2.1 == p.seq) = false →
    (∀ o, (s.transitFilter (ptTile c) o p).1 = true) ∧
    ((s.transitFilter (ptTile c) true p).2.transitFilter (ptTile c) true p).1 = false ∧
    (s.mesh.aged.contains (ptTile c, p.tag, p.seq, p.stamp) = false →
      ((s.transitFilter (ptTile c) true p).2.transitFilter (ptTile c) true p).2 = s ∧
      s.transitFilter (ptTile c) false p = (true, s)) ∧
    (s.mesh.aged.contains (ptTile c, p.tag, p.seq, p.stamp) = true →
      (s.transitFilter (ptTile c) false p).2.ctrs = (s.count (C_PT_NI_ELIM_PASS c)).ctrs)

/-- A target sees each SEQ of a stream at most once: the copy that follows an accepted one with the same SEQ is discarded. A
stream with no enabled entry is discarded and counted. -/
def Obligations.EliminationDeliversEachNumberOnce : Prop :=
  (∀ (s : State) (ti stream seq : Nat), seq < 65536 → (s.eliminate ti stream seq).1 = true →
    ((s.eliminate ti stream seq).2.eliminate ti stream seq).1 = false) ∧
  (∀ (s : State) (ti stream seq : Nat), s.elimEntry ti stream = none →
    s.eliminate ti stream seq = (false, s.count (C_NI_ELIM_STALE (elimBase ti))))

/-- An entry that retires without its response takes the next GEN and waits in quarantine: no response matches it, whatever its
GEN, and every other entry is unchanged. It is the newest of the retired entries, and while the quarantine lasts no request of
its NI takes it once every entry has been used. -/
def Obligations.RetiredEntriesMatchNoResponse : Prop :=
  ∀ (s : State) (ti tag : Nat) (e : RoEntry), tget s.req.ro (roKey ti tag) = some e →
    tget (s.roRetire ti tag).req.ro (roKey ti tag) = some { e with st := 2, gen := (e.gen + 1) % 256 } ∧
    (∀ c : Pkt, c.tag = tag → (s.roRetire ti tag).roMatch ti c = none) ∧
    (∀ k, k ≠ roKey ti tag → tget (s.roRetire ti tag).req.ro k = tget s.req.ro k) ∧
    (s.roRetire ti tag).req.roFree = s.req.roFree ++ [(ti, tag)] ∧
    (roSize ti ≤ tgetD s.req.roNext ti 0 → (s.roRetire ti tag).roPick ti ≠ some tag)

/-- At a refill instant the tokens of a shaper rise by the quantum and stop at BURST; a shaper just enabled starts at BURST. The
values are those in force after the instant, staged writes among them. -/
def Obligations.RefillsStopAtTheBurst : Prop :=
  ∀ (s : State) (p q : Nat), p < 128 → q < 8 →
    (s.shpOn p q = true →
      (s.refill p q).tokens p q = min (s.tokens p q + (s.refill p q).get (SHP_QUANT_BYTES (portC p) (portK p) q))
        ((s.refill p q).get (SHP_BURST_BYTES (portC p) (portK p) q))) ∧
    (s.shpOn p q = false → (s.refill p q).shpOn p q = true →
      (s.refill p q).tokens p q = (s.refill p q).get (SHP_BURST_BYTES (portC p) (portK p) q))

/-- An edge wake is latched in CLKSTOP, RETAINED and OFF; it aborts an entry in CLOSING or DRAINING, which the ledger and the
domain's ABORTS count; in ISOLATED it leaves no trace; in ON and WAKING, for which Table 13-4 has no row, PW_EVT_IGNORED counts
it and nothing else changes. -/
def Obligations.EdgeWakesActByTheDomainsState : Prop :=
  (∀ (s : State) (d : Nat), d < 62 → s.dom d = dCLKSTOP ∨ s.dom d = dRETAINED ∨ s.dom d = dOFF →
    (s.edgeWake d).on (PW_DOM_VOTE_EDGE d) = true ∧ (s.edgeWake d).dom d = s.dom d) ∧
  (∀ (s : State) (d : Nat), d < 62 → s.dom d = dCLOSING ∨ s.dom d = dDRAINING → s.bankBack d = false →
    (s.edgeWake d).dom d = dON ∧ (s.cnt (C_PW_DOM_ABORTS d) < ctrMax →
      (s.edgeWake d).cnt (C_PW_DOM_ABORTS d) = s.cnt (C_PW_DOM_ABORTS d) + 1)) ∧
  (∀ (s : State) (d : Nat), d < 62 → s.dom d = dISOLATED → s.edgeWake d = s) ∧
  (∀ (s : State) (d : Nat), d < 62 → s.dom d = dON ∨ s.dom d = dWAKING → s.edgeWake d = s.count C_PW_EVT_IGNORED)

/-- GO makes the inactive set of a guard active and the active one previous: FENCE.OLD counts its open accesses and DONE shows
whether there are none. A second GO brings the first set back. Writes to the active set's regions are dropped with BUSY and
counted. -/
def Obligations.GuardSwapsExchangeTheSets : Prop :=
  (∀ (s : State) (n : Nat), n < 30 →
    (s.swapGuard n).activeSet n = 1 - s.activeSet n ∧ ((s.swapGuard n).swapGuard n).activeSet n = s.activeSet n ∧
    (s.swapGuard n).on (GD_FENCE_DONE n) = (s.guardCount n (s.activeSet n) == 0)) ∧
  (∀ (s : State) (m : Master) (n r k v : Nat), n < 30 → r < 16 → k < 3 → s.guardLocked n = false →
    s.regWrite m (rgnBase n (s.activeSet n) r + 4 * k) v = (.busy, s.count C_GLB_CFG_BUSY))

/-- GUARD_LOAD writes the inactive set alone: every register outside that set's 16 regions and its CTL keeps its word, and a
region that the body does not list is disabled with all its words 0. -/
def Obligations.GuardLoadsWriteTheInactiveSetAlone : Prop :=
  (∀ (s : State) (n ctl o : Nat) (l : List RgnArg), n < 30 → (∀ x ∈ l, x.1 < 16) → o ≠ R_GD_SCTL n (1 - s.activeSet n) →
    o < rgnBase n (1 - s.activeSet n) 0 ∨ rgnBase n (1 - s.activeSet n) 0 + 0x100 ≤ o → (s.writeSet n ctl l).rd o = s.rd o) ∧
  (∀ (s : State) (n ctl r k : Nat) (l : List RgnArg), n < 30 → r < 16 → k < 3 → (∀ x ∈ l, x.1 < 16 ∧ x.1 ≠ r) →
    (s.writeSet n ctl l).rd (rgnBase n (1 - s.activeSet n) r + 4 * k) = 0)

/-- A fall of COLD_RST_N acts at once in every state: every register reads its reset value, every counter 0, the memories are
empty. WARM_RST_N is ignored while COLD_RST_N is low and while RST_BUSY is high. -/
def Obligations.ColdResetActsAtOnceAndMasksWarmReset : Prop :=
  (∀ s : State, ∃ t, exec .coldResetAssert s = .next t ∧ t.wh.coldLow = true ∧ (∀ off, t.rd off = resetWord off) ∧
    (∀ off, t.cnt off = 0) ∧ t.cis.mem = [] ∧ t.kt.ls = [] ∧ t.wh.ram = [] ∧ t.mesh = State.reset.mesh ∧ t.ord = State.reset.ord ∧
    t.pw = State.reset.pw ∧ t.tm = State.reset.tm ∧ t.pending = s.pending) ∧
  (∀ s : State, s.wh.coldLow = true ∨ s.wh.rstBusy = true → exec .warmReset s = .next s.settle)

/-- The ticks of the schedule in force fall on the instants whose distance from T0 is a multiple of the period, and the tick at
such an instant bears the number F0 + (B - T0) / period. -/
def Obligations.TicksFallOnTheFrameGrid : Prop :=
  ∀ (s : State) (n : Int), 0 < s.baseSched.per ∧ (s.baseSched.instant n - s.baseSched.t0) % s.baseSched.per = 0 ∧
    s.baseSched.number (s.baseSched.instant n) = n ∧
    (∀ x, s.baseSched.instant n ≤ x → x < s.baseSched.instant (n + 1) → s.baseSched.number x = n)

/-- The mailbox commands of the timebase (group 8) complete: in every state in which the mailbox holds the command RUNNING and
the clocks run, with operands in the ranges that R48, R50, R58 and R63 give, the command has its effect and the mailbox answers
OK. TIME_SET_TOD needs a 1PPS edge of the last 900 ms, FRAME_SET a period that every admitted stream and enabled program meets
and a switch that can be armed, TIME_TB_RESYNC a live timebase tile. -/
def Obligations.TimeCommandsComplete : Prop :=
  (∀ (s : State) (mb : Nat) (c : OpenCmd) (sec e : Nat), s.runs mb 0x0801 c → s.stopped = false → sec < 2 ^ 48 →
    s.tm.ppsEdge = some e → s.tm.ppsAge ≤ 900000000 →
      exec (.timeSetTod mb sec) s = .next ((s.todStep sec e).ok mb []).settle) ∧
  (∀ (s : State) (mb : Nat) (c : OpenCmd) (v : Int), s.runs mb 0x0802 c → s.stopped = false →
      exec (.timeAdjust mb false v) s = .next ((s.stepTime (v * 2 ^ 16) false).ok mb []).settle) ∧
  (∀ (s : State) (mb : Nat) (c : OpenCmd) (v : Int), s.runs mb 0x0802 c → s.stopped = false → -(2 ^ 31) ≤ v → v < 2 ^ 31 →
      exec (.timeAdjust mb true v) s = .next ((s.put TM_RATE_ADJ (fromSigned 32 (clampI (-858993) 858993 v))).ok mb []).settle) ∧
  (∀ (s : State) (mb : Nat) (c : OpenCmd) (per ph frame : Nat), s.runs mb 0x0803 c → s.stopped = false →
    8000 ≤ per → per ≤ 4096000 → ph < per → frame < 2 ^ 64 → s.periodFail per = 0 →
    (s.frameAsked per ph frame).on TM_FRAME_CTL_SWITCH_ARMED = true →
      exec (.frameSet mb per ph frame) s = .next ((s.frameAsked per ph frame).ok mb []).settle) ∧
  (∀ (s : State) (mb : Nat) (c : OpenCmd) (p : Nat), s.runs mb 0x0804 c → s.stopped = false → p < 128 →
      exec (.timePtpTs mb p) s =
        .next (s.okQuery mb ((s.tm.ptpq.filter (fun e => e.1 == p)).flatMap (fun e => e.2.1 :: timeWords e.2.2))).settle) ∧
  (∀ (s : State) (mb : Nat) (c : OpenCmd), s.runs mb 0x0805 c → s.stopped = false → s.tm.retired.length ≠ 2 →
      exec (.timeTbResync mb) s = .next (({ s with tm := { s.tm with retired := [] } }).ok mb []).settle)

/-! ### Every command has its effect

A clause holds for every state and operands that meet its hypotheses; it writes out the whole next state, so what it does not
name is unchanged. The messages that rising interrupt levels send stand outside the clause, in `State.settle`, which
`MessagesGoOutOnRisesAlone` describes. A row of logic that a clock runs acts while the clocks run (`s.stopped = false`, assumption
log 112); `StoppedClocksKeepEveryValue` says what it does while they stand still. -/

/-- A read, a write, a snapshot read, a counter clear, a staged low word and a committing high word of a control master that CX
can serve at once (CX awake, nothing waiting, a path, a right, an occupied offset, its domain awake) is performed at its
register, ends with status OK and the master hears; an access through an aperture goes out to the cistern and waits; a debug
access is the access of the debug master, and its timeout answers TIMEOUT. Where the manual leaves a point open the clause
follows the model's choice: assumption log 26, 27, 29, 77, 114. -/
def Obligations.RegisterAccessesActAtTheirRegister : Prop :=
  (∀ (s : State) (m : Master) (off : Nat) (t : Nat) (d : Nat),
    s.cxReady m off false t none d →
    s.stopped = false →
    exec (.registerRead m off) s = .next (s.didRead m off d).settle) ∧
  (∀ (s : State) (off : Nat),
    s.stopped = false →
    exec (.registerRead .debug off) s = .next (s.debugAccess off none).settle) ∧
  (∀ (s : State) (m : Master) (off : Nat) (t : Nat) (d : Nat) (w : Word) (u : State),
    s.cxReady m off true t none d →
    s.takes m off w d u →
    s.stopped = false →
    exec (.registerWrite m off w) s = .next (u.wrote m off w).settle) ∧
  (∀ (s : State) (off : Nat) (w : Word),
    s.stopped = false →
    exec (.registerWrite .debug off w) s = .next (s.debugAccess off (some w)).settle) ∧
  (∀ (s : State) (m : Master) (off : Nat) (t : Nat) (d : Nat),
    (counterAt off).isSome = true →
    s.cxReady m off false t none d →
    s.stopped = false →
    exec (.counterSnapshotRead m off) s = .next (s.didRead m off d).settle) ∧
  (∀ (s : State) (m : Master) (off : Nat) (t : Nat) (d : Nat) (u : State),
    (counterAt off).isSome = true →
    s.cxReady m off true t none d →
    s.takes m off 0 d u →
    s.stopped = false →
    exec (.counterClear m off) s = .next (u.wrote m off 0).settle) ∧
  (∀ (s : State) (m : Master) (off : Nat) (t : Nat) (d : Nat) (w : Word) (u : State),
    lowOf64 off = true →
    s.cxReady m off true t none d →
    s.takes m off w d u →
    s.stopped = false →
    exec (.stageLowWord m off w) s = .next (u.wrote m off w).settle) ∧
  (∀ (s : State) (m : Master) (off : Nat) (t : Nat) (d : Nat) (w : Word) (u : State),
    4 ≤ off →
    lowOf64 (off - 4) = true →
    s.cxReady m off true t none d →
    s.takes m off w d u →
    s.stopped = false →
    exec (.commitHighWord m off w) s = .next (u.wrote m off w).settle) ∧
  (∀ (s : State) (m : Master) (off : Nat) (t : Nat) (d : Nat) (a : Nat) (w : Option Word),
    inReg off 0x800000 0x1000000 = true →
    s.cxReady m off w.isSome t (some a) d →
    s.stopped = false →
    exec (.cisternApertureAccess m off w) s = .next (s.apertureOut m off w a d).settle) ∧
  (∀ (s : State) (m : Master) (t : Nat) (d : Nat),
    s.cxReady m R_TM_NOW_NS false t none d →
    s.stopped = false →
    exec (.tmNowRead m) s = .next (s.didRead m R_TM_NOW_NS d).settle) ∧
  (∀ (s : State) (off : Nat) (w : Option Word),
    s.stopped = false →
    exec (.debugAccess off w) s = .next (s.debugAccess off w).settle) ∧
  (∀ (s : State) (i : Nat),
    s.gd.dbgOut = some i →
    s.stopped = false →
    exec (.debugAccessTimeout) s = .next (({ s with gd := { s.gd with dbgOut := none } }).dbgAnswer .timeout 0).settle)

/-- Each of these rows, once CX can serve it and no rule refuses the word, leaves the state that the register takes with the word
the row stands for (the named field changed, the other bits as they read), then ends the access with OK. Where the manual
leaves a point open the clause follows the model's choice: assumption log 71, 77, 115. -/
def Obligations.NamedRegisterWritesAct : Prop :=
  (∀ (s : State) (m : Master) (v : Word) (t : Nat) (d : Nat) (u : State),
    s.cxReady m R_TM_FRAME_SWITCH_HI true t none d →
    s.takes m R_TM_FRAME_SWITCH_HI v d u →
    s.stopped = false →
    exec (.frameSwitchArm m v) s = .next (u.wrote m R_TM_FRAME_SWITCH_HI v).settle) ∧
  (∀ (s : State) (m : Master) (ph : Bool) (v : Word) (t : Nat) (d : Nat) (u : State),
    s.cxReady m (if ph then R_TM_FRAME_PHASE else R_TM_FRAME_PERIOD) true t none d →
    s.takes m (if ph then R_TM_FRAME_PHASE else R_TM_FRAME_PERIOD) v d u →
    s.stopped = false →
    exec (.framePeriodWrite m ph v) s = .next (u.wrote m (if ph then R_TM_FRAME_PHASE else R_TM_FRAME_PERIOD) v).settle) ∧
  (∀ (s : State) (m : Master) (p : Nat) (t : Nat) (d : Nat) (u : State),
    p < 2 →
    s.cxReady m (planeReq p).off true t none d →
    s.takes m (planeReq p).off (s.fldWord (planeReq p) 0) d u →
    s.stopped = false →
    exec (.planeReqClear m p) s = .next (u.wrote m (planeReq p).off (s.fldWord (planeReq p) 0)).settle) ∧
  (∀ (s : State) (m : Master) (p : Nat) (t : Nat) (d : Nat) (u : State),
    p < 2 →
    s.cxReady m (planeReq p).off true t none d →
    s.takes m (planeReq p).off (s.fldWord (planeReq p) 1) d u →
    s.stopped = false →
    exec (.planeReqSet m p) s = .next (u.wrote m (planeReq p).off (s.fldWord (planeReq p) 1)).settle) ∧
  (∀ (s : State) (m : Master) (p : Nat) (rt : Nat) (v : Nat) (t : Nat) (d : Nat) (u : State),
    p < 2 →
    rt < 64 →
    s.cxReady m (RT_FENCE_PORTS p rt).off true t none d →
    s.takes m (RT_FENCE_PORTS p rt).off (s.fldWord (RT_FENCE_PORTS p rt) v) d u →
    s.stopped = false →
    exec (.routerFenceSet m p rt v) s = .next (u.wrote m (RT_FENCE_PORTS p rt).off (s.fldWord (RT_FENCE_PORTS p rt) v)).settle) ∧
  (∀ (s : State) (m : Master) (p : Nat) (rt : Nat) (v : Nat) (t : Nat) (d : Nat) (u : State),
    p < 2 →
    rt < 64 →
    s.cxReady m (RT_CTL_HI_WEIGHT p rt).off true t none d →
    s.takes m (RT_CTL_HI_WEIGHT p rt).off (s.fldWord (RT_CTL_HI_WEIGHT p rt) v) d u →
    s.stopped = false →
    exec (.hiWeightWrite m p rt v) s = .next (u.wrote m (RT_CTL_HI_WEIGHT p rt).off (s.fldWord (RT_CTL_HI_WEIGHT p rt) v)).settle) ∧
  (∀ (s : State) (m : Master) (ti : Nat) (n : Nat) (v : Nat) (t : Nat) (d : Nat) (u : State),
    elimBase ti ≠ 0 →
    n < 1024 →
    s.cxReady m (R_NI_ELIM_CFG (elimBase ti) n) true t none d →
    s.takes m (R_NI_ELIM_CFG (elimBase ti) n) (BitVec.ofNat 32 (v % 2 ^ 16)) d u →
    s.stopped = false →
    exec (.elimEntryWrite m ti n v) s = .next (u.wrote m (R_NI_ELIM_CFG (elimBase ti) n) (BitVec.ofNat 32 (v % 2 ^ 16))).settle) ∧
  (∀ (s : State) (m : Master) (p : Nat) (v : Word) (t : Nat) (d : Nat) (u : State),
    p < 128 →
    s.cxReady m (R_GCL_SWAP_HI (portC p) (portK p)) true t none d →
    s.takes m (R_GCL_SWAP_HI (portC p) (portK p)) v d u →
    s.stopped = false →
    exec (.gclSwapArm m p v) s = .next (u.wrote m (R_GCL_SWAP_HI (portC p) (portK p)) v).settle) ∧
  (∀ (s : State) (sc : Nat) (t : Nat) (d : Nat) (u : State),
    s.whIssues = true →
    s.cxReady .wellhead R_CX_WHBAR true t none d →
    s.takes .wellhead R_CX_WHBAR (BitVec.ofNat 32 (sc % 4)) d u →
    s.stopped = false →
    exec (.whBarrierWrite sc) s = .next (u.wrote .wellhead R_CX_WHBAR (BitVec.ofNat 32 (sc % 4))).settle)

/-- Each of these rows, once CX can serve it and no rule refuses the word, leaves the state that the register takes with the word
the row stands for, then ends the access with OK. Where the manual leaves a point open the clause follows the model's choice:
assumption log 27, 71, 77. -/
def Obligations.LinkSlotAndPowerRegisterRowsAct : Prop :=
  (∀ (s : State) (m : Master) (p : Nat) (t : Nat) (d : Nat) (u : State),
    p < 128 →
    s.cxReady m (LNK_CTL_EN (portC p) (portK p)).off true t none d →
    s.takes m (LNK_CTL_EN (portC p) (portK p)).off (s.fldWord (LNK_CTL_EN (portC p) (portK p)) 1) d u →
    s.stopped = false →
    exec (.linkEnSet m p) s = .next (u.wrote m (LNK_CTL_EN (portC p) (portK p)).off (s.fldWord (LNK_CTL_EN (portC p) (portK p)) 1)).settle) ∧
  (∀ (s : State) (m : Master) (p : Nat) (t : Nat) (d : Nat) (u : State),
    p < 128 →
    s.cxReady m (LNK_CTL_EN (portC p) (portK p)).off true t none d →
    s.takes m (LNK_CTL_EN (portC p) (portK p)).off (s.fldWord (LNK_CTL_EN (portC p) (portK p)) 0) d u →
    s.stopped = false →
    exec (.linkEnClear m p) s = .next (u.wrote m (LNK_CTL_EN (portC p) (portK p)).off (s.fldWord (LNK_CTL_EN (portC p) (portK p)) 0)).settle) ∧
  (∀ (s : State) (m : Master) (p : Nat) (t : Nat) (d : Nat) (u : State),
    p < 128 →
    s.cxReady m (LNK_CTL_RETRAIN (portC p) (portK p)).off true t none d →
    s.takes m (LNK_CTL_RETRAIN (portC p) (portK p)).off (s.fldWord (LNK_CTL_RETRAIN (portC p) (portK p)) 1) d u →
    s.stopped = false →
    exec (.lnkRetrainWrite m p) s = .next (u.wrote m (LNK_CTL_RETRAIN (portC p) (portK p)).off (s.fldWord (LNK_CTL_RETRAIN (portC p) (portK p)) 1)).settle) ∧
  (∀ (s : State) (m : Master) (n : Nat) (en : Bool) (t : Nat) (d : Nat) (u : State),
    n < 64 →
    s.cxReady m (SLOT_CFG_EN n).off true t none d →
    s.takes m (SLOT_CFG_EN n).off (s.fldWord (SLOT_CFG_EN n) (b2n en)) d u →
    s.stopped = false →
    exec (.slotCfgEn m n en) s = .next (u.wrote m (SLOT_CFG_EN n).off (s.fldWord (SLOT_CFG_EN n) (b2n en))).settle) ∧
  (∀ (s : State) (m : Master) (n : Nat) (t : Nat) (d : Nat) (u : State),
    n < 64 →
    s.cxReady m (SLOT_CTL_CLR_FAULT n).off true t none d →
    s.takes m (SLOT_CTL_CLR_FAULT n).off (s.fldWord (SLOT_CTL_CLR_FAULT n) 1) d u →
    s.stopped = false →
    exec (.slotClrFault m n) s = .next (u.wrote m (SLOT_CTL_CLR_FAULT n).off (s.fldWord (SLOT_CTL_CLR_FAULT n) 1)).settle) ∧
  (∀ (s : State) (m : Master) (n : Nat) (t : Nat) (d : Nat) (u : State),
    n < 64 →
    s.cxReady m (SLOT_CTL_POWER n).off true t none d →
    s.takes m (SLOT_CTL_POWER n).off (s.fldWord (SLOT_CTL_POWER n) 0) d u →
    s.stopped = false →
    exec (.slotPowerOff m n) s = .next (u.wrote m (SLOT_CTL_POWER n).off (s.fldWord (SLOT_CTL_POWER n) 0)).settle) ∧
  (∀ (s : State) (m : Master) (b : Nat) (v : Nat) (t : Nat) (d : Nat) (u : State),
    b < 1024 →
    v < 8 →
    s.cxReady m (VEC_CTL_MASK b v).off true t none d →
    s.takes m (VEC_CTL_MASK b v).off (s.fldWord (VEC_CTL_MASK b v) 0) d u →
    s.stopped = false →
    exec (.vectorUnmask m b v) s = .next (u.wrote m (VEC_CTL_MASK b v).off (s.fldWord (VEC_CTL_MASK b v) 0)).settle) ∧
  (∀ (s : State) (m : Master) (n : Nat) (t : Nat) (d : Nat) (u : State),
    n < 30 →
    s.cxReady m (R_GD_SWAP n) true t none d →
    s.takes m (R_GD_SWAP n) (BitVec.ofNat 32 1) d u →
    s.stopped = false →
    exec (.guardSwapGo m n) s = .next (u.wrote m (R_GD_SWAP n) (BitVec.ofNat 32 1)).settle) ∧
  (∀ (s : State) (m : Master) (g : Nat) (t : Nat) (d : Nat) (u : State),
    g < 32 →
    s.cxReady m R_SC_LOCK true t none d →
    s.takes m R_SC_LOCK (BitVec.ofNat 32 (2 ^ g)) d u →
    s.stopped = false →
    exec (.lockBitWrite m g) s = .next (u.wrote m R_SC_LOCK (BitVec.ofNat 32 (2 ^ g))).settle) ∧
  (∀ (s : State) (m : Master) (n : Nat) (t : Nat) (d : Nat) (u : State),
    n < 32 →
    s.cxReady m (PART_CTL_SEAL n).off true t none d →
    s.takes m (PART_CTL_SEAL n).off (s.fldWord (PART_CTL_SEAL n) 1) d u →
    s.stopped = false →
    exec (.sealBitWrite m n) s = .next (u.wrote m (PART_CTL_SEAL n).off (s.fldWord (PART_CTL_SEAL n) 1)).settle) ∧
  (∀ (s : State) (m : Master) (n : Nat) (t : Nat) (d : Nat) (u : State),
    n < 62 →
    s.cxReady m (R_PW_DOM_WAKE n) true t none d →
    s.takes m (R_PW_DOM_WAKE n) (BitVec.ofNat 32 1) d u →
    s.stopped = false →
    exec (.edgeWake m n) s = .next (u.wrote m (R_PW_DOM_WAKE n) (BitVec.ofNat 32 1)).settle) ∧
  (∀ (s : State) (m : Master) (b : Nat) (t : Nat) (d : Nat) (u : State),
    b < 24 →
    s.cxReady m (R_CT_RETURN b) true t none d →
    s.takes m (R_CT_RETURN b) (BitVec.ofNat 32 1) d u →
    s.stopped = false →
    exec (.bankReturn m b) s = .next (u.wrote m (R_CT_RETURN b) (BitVec.ofNat 32 1)).settle)

/-- Burst holds, semaphore reads and writes, doorbells, acknowledgements, READY, HB, RESTART and the fault read pointer are
accesses that CX serves; a hold that expires ends and is counted; a wake-on-access timeout answers TARGET_ASLEEP; a lease that
runs out frees its semaphore at that instant; Port B frames with a good CRC set up or start transfers, and a read frame
answers what its setup named. Where the manual leaves a point open the clause follows the model's choice: assumption log 3,
23, 27, 30, 61, 71. -/
def Obligations.CrossbarRowsAct : Prop :=
  (∀ (s : State) (m : Master) (n : Nat) (t : Nat) (d : Nat) (u : State),
    s.cxReady m (R_CX_HOLD (masterIdx m)) true t none d →
    s.takes m (R_CX_HOLD (masterIdx m)) (BitVec.ofNat 32 (n % 32)) d u →
    s.stopped = false →
    exec (.burstHoldArm m n) s = .next (u.wrote m (R_CX_HOLD (masterIdx m)) (BitVec.ofNat 32 (n % 32))).settle) ∧
  (∀ (s : State) (m : Master) (n : Nat) (t : Nat) (d : Nat),
    n < 32 →
    s.cxReady m (R_SEM n) false t none d →
    s.stopped = false →
    exec (.semAcquire m n) s = .next (s.didRead m (R_SEM n) d).settle) ∧
  (∀ (s : State) (m : Master) (n : Nat) (v : Nat) (t : Nat) (d : Nat) (u : State),
    n < 32 →
    s.cxReady m (R_SEM n) true t none d →
    s.takes m (R_SEM n) (BitVec.ofNat 32 v) d u →
    s.stopped = false →
    exec (.semRelease m n v) s = .next (u.wrote m (R_SEM n) (BitVec.ofNat 32 v)).settle) ∧
  (∀ (s : State) (m : Master) (mb : Nat) (t : Nat) (d : Nat) (u : State),
    mb < 2 →
    s.cxReady m (R_MB_DB mb) true t none d →
    s.takes m (R_MB_DB mb) (BitVec.ofNat 32 1) d u →
    s.stopped = false →
    exec (.mailboxDoorbell m mb) s = .next (u.wrote m (R_MB_DB mb) (BitVec.ofNat 32 1)).settle) ∧
  (∀ (s : State) (m : Master) (mb : Nat) (t : Nat) (d : Nat) (u : State),
    mb < 2 →
    s.cxReady m (R_MB_STAT mb) true t none d →
    s.takes m (R_MB_STAT mb) (BitVec.ofNat 32 8) d u →
    s.stopped = false →
    exec (.mailboxAck m mb) s = .next (u.wrote m (R_MB_STAT mb) (BitVec.ofNat 32 8)).settle) ∧
  (∀ (s : State) (t : Nat) (d : Nat) (u : State),
    s.cxReady .wellhead R_GLB_WH_CTL true t none d →
    s.takes .wellhead R_GLB_WH_CTL (BitVec.ofNat 32 (2 + s.slotBit)) d u →
    s.stopped = false →
    exec (.whReady) s = .next (u.wrote .wellhead R_GLB_WH_CTL (BitVec.ofNat 32 (2 + s.slotBit))).settle) ∧
  (∀ (s : State) (t : Nat) (d : Nat) (u : State),
    s.cxReady .wellhead R_GLB_WH_CTL true t none d →
    s.takes .wellhead R_GLB_WH_CTL (BitVec.ofNat 32 (1 + s.slotBit)) d u →
    s.stopped = false →
    exec (.whHeartbeat) s = .next (u.wrote .wellhead R_GLB_WH_CTL (BitVec.ofNat 32 (1 + s.slotBit))).settle) ∧
  (∀ (s : State) (m : Master) (t : Nat) (d : Nat) (u : State),
    s.cxReady m R_GLB_WH_CTL true t none d →
    s.takes m R_GLB_WH_CTL (BitVec.ofNat 32 (4 + s.slotBit)) d u →
    s.stopped = false →
    exec (.whRestart m) s = .next (u.wrote m R_GLB_WH_CTL (BitVec.ofNat 32 (4 + s.slotBit))).settle) ∧
  (∀ (s : State) (m : Master) (v : Nat) (t : Nat) (d : Nat) (u : State),
    s.cxReady m R_GLB_FLT_RD true t none d →
    s.takes m R_GLB_FLT_RD (BitVec.ofNat 32 (v % 64)) d u →
    s.stopped = false →
    exec (.fltRdWrite m v) s = .next (u.wrote m R_GLB_FLT_RD (BitVec.ofNat 32 (v % 64))).settle) ∧
  (∀ (s : State) (i : Nat),
    s.wh.holds.any (fun h => h.1 == i && h.2.2.isSome) = true →
    s.stopped = false →
    exec (.burstHoldExpire i) s = .next (((s.setHolds (s.wh.holds.filter (fun h => h.1 != i))).count C_CX_HOLD_EXPIRE).cxRun).settle) ∧
  (∀ (s : State) (i : Nat) (x : CxAcc) (apt : Option Nat) (d : Nat) (t : Nat),
    s.cxFirst i = some x →
    s.cxPlace x.m x.off x.w.isSome = some (apt, d) →
    cxTarget x.off = some t →
    x.out = none →
    s.regAsleep d = true →
    s.woa d = true →
    s.stopped = false →
    exec (.wakeOnAccessTimeout i) s = .next ((((((((s.count (C_PW_DOM_WOA_TMO d)).count (C_PW_DOM_ASLEEP d)).pwEvt 11).holdStart i t x.job).holdUse i).cxPop i).cxDone x .targetAsleep (if x.w.isNone then asleepWord else 0)).cxRun).settle) ∧
  (∀ (s : State) (n : Nat),
    n < 32 →
    s.get (SEM_OWN_OWNER n) ≠ 0 →
    s.stopped = false →
    exec (.semLeaseExpiry n) s = .next ((s.passTo (tgetD s.wh.semAt n 0 + max 1 (s.get CX_SEM_LEASE_MS) * 1000000)).freeSem n).settle) ∧
  (∀ (s : State) (bs : List Nat),
    s.cxOn = true →
    s.pbBusy = false →
    bs.length % 4 = 0 →
    2 ≤ bs.length / 4 →
    bs.length / 4 ≤ 17 →
    frameOk 1 bs = true →
    s.stopped = false →
    exec (.pbWriteFrame bs) s = .next (s.enterJob .portB (ofLeBytes (bs.take 3)) (bs.length / 4 - 1) (some (bytesWords ((bs.drop 3).take (4 * (bs.length / 4 - 1))))) none).settle) ∧
  (∀ (s : State) (bs : List Nat),
    s.cxOn = true →
    s.pbBusy = false →
    bs.length = 5 →
    bs.getD 3 0 ≤ 15 →
    frameOk 2 bs = true →
    s.stopped = false →
    exec (.pbReadSetup bs) s = .next ({ s with wh := { s.wh with pbSetup := some (some (ofLeBytes (bs.take 3), bs.getD 3 0 + 1)) } }).settle) ∧
  (∀ (s : State) (bs : List Nat),
    s.cxOn = true →
    s.pbBusy = false →
    bs.length = 1 →
    frameOk 3 bs = true →
    s.stopped = false →
    exec (.pbStatusSetup bs) s = .next ({ s with wh := { s.wh with pbSetup := some none } }).settle) ∧
  (∀ (s : State) (n : Nat),
    s.cxOn = true →
    s.pbBusy = false →
    s.wh.pbSetup = none →
    s.stopped = false →
    exec (.pbReadFrame n) s = .next (s.send (.pb (List.replicate n 0xFF))).settle) ∧
  (∀ (s : State) (n : Nat),
    s.cxOn = true →
    s.pbBusy = false →
    s.wh.pbSetup = some none →
    s.stopped = false →
    exec (.pbReadFrame n) s = .next (({ s with wh := { s.wh with pbSetup := none } }).send (.pb [s.wh.pbStat, s.wh.pbCount, crc8 [s.wh.pbStat, s.wh.pbCount]])).settle) ∧
  (∀ (s : State) (n : Nat) (off : Nat) (k : Nat),
    s.cxOn = true →
    s.pbBusy = false →
    s.wh.pbSetup = some (some (off, k)) →
    s.stopped = false →
    exec (.pbReadFrame n) s = .next (({ s with wh := { s.wh with pbSetup := none } }).enterJob .portB off k none none).settle)

/-- SYNC, DREQ, DRESP, ANNOUNCE and Hello packets and their interval timers act as the clauses write out: stamps taken and sent,
the servo fed, candidates set or dropped, the grandmaster chosen again, and the loss of the parent starts holdover. Where the
manual leaves a point open the clause follows the model's choice: assumption log 3, 22, 51, 52, 54, 73, 82, 83, 109. -/
def Obligations.TimeExchangeRowsAct : Prop :=
  (∀ (s : State) (p : Nat),
    s.portUp p = true →
    s.tm.parent ≠ some p →
    s.stopped = false →
    exec (.syncIntervalExpiry p) s = .next (let x := (tgetD s.tm.xseq p 0 + 1) % 65536; ({ s with tm := { s.tm with xseq := tset s.tm.xseq p x } }).sendTime p 1 x 0).settle) ∧
  (∀ (s : State) (p : Nat) (a : Nat) (k : Pkt) (u : State),
    s.takeOwn p (fun k => timeSub k == 1) = (some (a, k), u) →
    u.tm.parent = some p →
    s.stopped = false →
    exec (.sync p) s = .next (({ u with tm := { u.tm with exch := tset u.tm.exch p ⟨timeSeq k, timeStamp k, u.rxTime p a, 0⟩ } }).sendTime p 2 (timeSeq k) 0).settle) ∧
  (∀ (s : State) (p : Nat) (a : Nat) (k : Pkt) (u : State),
    s.takeOwn p (fun k => timeSub k == 2) = (some (a, k), u) →
    s.stopped = false →
    exec (.dreq p) s = .next (u.sendTime p 3 (timeSeq k) (u.rxTime p a)).settle) ∧
  (∀ (s : State) (p : Nat) (a : Nat) (k : Pkt) (u : State) (x : Exch),
    s.takeOwn p (fun k => timeSub k == 3) = (some (a, k), u) →
    tget u.tm.exch p = some x →
    x.xseq = timeSeq k →
    u.tm.parent = some p →
    s.stopped = false →
    exec (.dresp p) s = .next (let v := { u with tm := { u.tm with exch := tdel u.tm.exch p } }; v.servo (exchOffset x.t1 x.t2 x.t3 (timeStamp k) (v.asym p)) 1).settle) ∧
  (∀ (s : State),
    s.stopped = false →
    exec (.announceIntervalExpiry) s = .next (let u := s.chooseGm; u.forEach (u.fabricPorts.filter (u.portUp ·)) (fun p v => v.sendNear p (v.timePkt p 4 0 u.announceWords))).settle) ∧
  (∀ (s : State) (p : Nat) (k : Pkt) (u : State),
    s.takeAnnounce p = (some (u.tbTile, k), u) →
    (gmOf k).node ≠ u.node →
    s.stopped = false →
    exec (.announce p) s = .next (({ u with tm := { u.tm with cands := tset u.tm.cands p (gmOf k) } }).chooseGm).settle) ∧
  (∀ (s : State) (p : Nat) (k : Pkt) (u : State),
    s.takeAnnounce p = (some (u.tbTile, k), u) →
    (gmOf k).node = u.node →
    s.stopped = false →
    exec (.announce p) s = .next (({ u with tm := { u.tm with cands := tdel u.tm.cands p } }).chooseGm).settle) ∧
  (∀ (s : State) (p : Nat),
    s.tm.parent = some p →
    s.stopped = false →
    exec (.parentLoss) s = .next ((({ s with tm := { s.tm with cands := tdel s.tm.cands p, exch := tdel s.tm.exch p } }).holdover).chooseGm).settle) ∧
  (∀ (s : State) (p : Nat),
    s.isRunnel p = true →
    s.linkIsUp p = true →
    s.stopped = false →
    exec (.helloIntervalExpiry p) s = .next (s.hello p).settle) ∧
  (∀ (s : State) (p : Nat) (a : Nat) (k : Pkt) (u : State),
    s.takeOwn p (fun k => k.kind == kMGMT) = (some (a, k), u) →
    s.stopped = false →
    exec (.hello p) s = .next (u.helloIn p k).settle) ∧
  (∀ (s : State) (p : Nat) (t : Nat) (k : Pkt) (u : State),
    s.takeAnnounce p = (some (t, k), u) →
    t ≠ u.tbTile →
    s.stopped = false →
    exec (.announce p) s = .next (u).settle)

/-- The hold limit, 1PPS input and output events, the frame tick, the two timebase tiles with their checkers and the trim window
leave the states that the clauses write out; an event whose instant is fixed brings fabric time to it. Where the manual leaves
a point open the clause follows the model's choice: assumption log 3, 23, 51, 52, 73, 82, 85. -/
def Obligations.TimebaseRowsAct : Prop :=
  (∀ (s : State),
    s.tm.growing = true →
    s.on TM_STATUS_OUT_OF_BOUND = false →
    s.stopped = false →
    exec (.holdLimitExceeded) s = .next (s.pass (ceilDiv ((clampN 4 16000000 (s.get TM_HOLD_LIMIT_LIMIT) + 1 - s.get TM_HOLD_ERR_ERR) * 1000000000 - s.tm.holdFrac) (16 * clampN 1 10000 (s.get TM_HOLD_UNC_PPB)))).settle) ∧
  (∀ (s : State) (u : State),
    u = ({ s with tm := { s.tm with ppsEdge := some (s.ns * 65536), ppsAge := 0, cls := 0 } }).chooseGm →
    u.on TM_STATUS_VALID = true →
    u.tm.parent = none →
    s.stopped = false →
    exec (.ppsInEdge) s = .next (u.servo ((((s.ns + 500000000) % 1000000000 : Nat) - 500000000 : Int) * 2 ^ 32) 2).settle) ∧
  (∀ (s : State) (u : State),
    u = ({ s with tm := { s.tm with ppsEdge := some (s.ns * 65536), ppsAge := 0, cls := 0 } }).chooseGm →
    (u.on TM_STATUS_VALID = false ∨ u.tm.parent ≠ none) →
    s.stopped = false →
    exec (.ppsInEdge) s = .next (u).settle) ∧
  (∀ (s : State) (u : State),
    s.tm.cls = 0 →
    u = s.pass (1500000001 - s.tm.ppsAge) →
    s.stopped = false →
    exec (.ppsLoss) s = .next ((({ u with tm := { u.tm with cls := 1 } }).doIf u.tm.parent.isNone (·.holdover)).chooseGm).settle) ∧
  (∀ (s : State),
    s.on TM_STATUS_VALID = true →
    s.tm.ppsLeft = 0 →
    s.tm.tclk = true →
    s.stopped = false →
    exec (.ppsOutStart) s = .next (s.pass (s.cyclesIn (s.ppsAt (s.ppsNum s.tm.now + 1) - s.tm.now))).settle) ∧
  (∀ (s : State),
    s.tm.ppsLeft ≠ 0 →
    s.stopped = false →
    exec (.ppsOutEnd) s = .next (s.pass s.tm.ppsLeft).settle) ∧
  (∀ (s : State) (n : Nat),
    s.ticking = true →
    n = s.cyclesTo s.nextTickNs →
    s.stopped = false →
    exec (.tick) s = .next (((s.linksOut.cycles n).linksIdle n).tick.advance).settle) ∧
  (∀ (s : State) (both : Bool),
    s.tm.retired.length ≠ 2 →
    s.stopped = false →
    exec (.tbCheckerFire both) s = .next (s.tbFail 1 both).settle) ∧
  (∀ (s : State),
    s.tm.retired.length ≠ 2 →
    s.tm.tclk = true →
    s.stopped = false →
    exec (.tbHeartbeatLoss) s = .next ((s.pass 8).tbFail 2 false).settle) ∧
  (∀ (s : State),
    s.tm.retired = [] →
    s.tm.tclk = true →
    s.stopped = false →
    exec (.tbDiverge) s = .next (((s.count C_TM_TB_DIVERGE).put TM_STATUS_TB_FAULT 1).fault 8 (1 - s.get TM_STATUS_TB_ACTIVE) 3).settle) ∧
  (∀ (s : State) (len : Nat),
    s.tm.tclk = true →
    s.stopped = false →
    exec (.arefTrimWindow len) s = .next (s.put TM_AREF_TRIM_PPB (fromSigned 32 (((len : Int) - 2 ^ 25 * 40 * 65536) * 1000000000 / (2 ^ 25 * 40 * 65536)))).settle)

/-- TIME_SET_TOD, TIME_ADJUST (rate and offset), FRAME_SET, TIME_PTP_TS and TIME_TB_RESYNC, running in their mailbox with a body
inside its limits, have their effect and answer OK; a body outside them, a stale 1PPS edge, a period that a stream or program
does not fit and a node with both tiles lost are refused with the reason written out. Where the manual leaves a point open the
clause follows the model's choice: assumption log 8, 21, 51, 53, 84. -/
def Obligations.TimeCommandsAct : Prop :=
  (∀ (s : State) (mb : Nat) (c : OpenCmd) (sec : Nat) (e : Nat),
    s.runs mb 0x0801 c →
    sec < 2 ^ 48 →
    s.tm.ppsEdge = some e →
    s.tm.ppsAge ≤ 900000000 →
    s.on TM_STATUS_VALID = false →
    s.stopped = false →
    exec (.timeSetTod mb sec) s = .next (((s.put TM_STATUS_SOURCE 2).stepTime ((sec : Int) * 1000000000 * 2 ^ 32 - (e : Int) * 2 ^ 16) true).ok mb []).settle) ∧
  (∀ (s : State) (mb : Nat) (c : OpenCmd) (sec : Nat) (e : Nat),
    s.runs mb 0x0801 c →
    sec < 2 ^ 48 →
    s.tm.ppsEdge = some e →
    s.tm.ppsAge ≤ 900000000 →
    s.on TM_STATUS_VALID = true →
    sec ≠ (e / 65536 + 500000000) / 1000000000 →
    s.stopped = false →
    exec (.timeSetTod mb sec) s = .next ((s.stepTime (((sec : Int) - ((e / 65536 + 500000000) / 1000000000 : Nat)) * 1000000000 * 2 ^ 32) false).ok mb []).settle) ∧
  (∀ (s : State) (mb : Nat) (c : OpenCmd) (v : Int),
    s.runs mb 0x0802 c →
    -(2 ^ 31) ≤ v →
    v < 2 ^ 31 →
    s.stopped = false →
    exec (.timeAdjust mb true v) s = .next ((s.put TM_RATE_ADJ (fromSigned 32 (clampI (-858993) 858993 v))).ok mb []).settle) ∧
  (∀ (s : State) (mb : Nat) (c : OpenCmd) (v : Int),
    s.runs mb 0x0802 c →
    s.stopped = false →
    exec (.timeAdjust mb false v) s = .next ((s.stepTime (v * 2 ^ 16) false).ok mb []).settle) ∧
  (∀ (s : State) (mb : Nat) (c : OpenCmd) (per : Nat) (ph : Nat) (frame : Nat) (u : State),
    s.runs mb 0x0803 c →
    8000 ≤ per →
    per ≤ 4096000 →
    ph < per →
    frame < 2 ^ 64 →
    s.periodFail per = 0 →
    u = ((((s.put TM_FRAME_NEXT_PERIOD_NS per).put TM_FRAME_NEXT_PHASE_NS ph).wr R_TM_FRAME_SWITCH_LO frame).wr R_TM_FRAME_SWITCH_HI (frame / 2 ^ 32)).armSwitch frame →
    u.on TM_FRAME_CTL_SWITCH_ARMED = true →
    s.stopped = false →
    exec (.frameSet mb per ph frame) s = .next (u.ok mb []).settle) ∧
  (∀ (s : State) (mb : Nat) (c : OpenCmd) (p : Nat),
    s.runs mb 0x0804 c →
    p < 128 →
    s.stopped = false →
    exec (.timePtpTs mb p) s = .next (s.okQuery mb ((s.tm.ptpq.filter (fun e => e.1 == p)).flatMap (fun e => e.2.1 :: timeWords e.2.2))).settle) ∧
  (∀ (s : State) (mb : Nat) (c : OpenCmd),
    s.runs mb 0x0805 c →
    s.tm.retired.length ≠ 2 →
    s.stopped = false →
    exec (.timeTbResync mb) s = .next (({ s with tm := { s.tm with retired := [] } }).ok mb []).settle) ∧
  (∀ (s : State) (mb : Nat) (c : OpenCmd) (sec : Nat) (e : Nat),
    s.runs mb 0x0801 c →
    sec < 2 ^ 48 →
    s.tm.ppsEdge = some e →
    s.tm.ppsAge ≤ 900000000 →
    s.on TM_STATUS_VALID = true →
    sec = (e / 65536 + 500000000) / 1000000000 →
    s.stopped = false →
    exec (.timeSetTod mb sec) s = .next (s.ok mb []).settle) ∧
  (∀ (s : State) (mb : Nat) (c : OpenCmd) (sec : Nat),
    s.runs mb 0x0801 c →
    sec < 2 ^ 48 →
    (s.tm.ppsEdge = none ∨ 900000000 < s.tm.ppsAge) →
    s.stopped = false →
    exec (.timeSetTod mb sec) s = .next (s.refuse mb 1 0).settle) ∧
  (∀ (s : State) (mb : Nat) (c : OpenCmd) (per : Nat) (ph : Nat) (frame : Nat),
    s.runs mb 0x0803 c →
    (per < 8000 ∨ 4096000 < per ∨ per ≤ ph ∨ 2 ^ 64 ≤ frame) →
    s.stopped = false →
    exec (.frameSet mb per ph frame) s = .next (s.refuse mb 0 0).settle) ∧
  (∀ (s : State) (mb : Nat) (c : OpenCmd) (per : Nat) (ph : Nat) (frame : Nat),
    s.runs mb 0x0803 c →
    8000 ≤ per →
    per ≤ 4096000 →
    ph < per →
    frame < 2 ^ 64 →
    s.periodFail per ≠ 0 →
    s.stopped = false →
    exec (.frameSet mb per ph frame) s = .next (s.refuse mb (s.periodFail per + 16) 0).settle) ∧
  (∀ (s : State) (mb : Nat) (c : OpenCmd),
    s.runs mb 0x0805 c →
    s.tm.retired.length = 2 →
    s.stopped = false →
    exec (.timeTbResync mb) s = .next (s.refuse mb 0 0).settle)

/-- A Wellhead access goes out, or waits behind its barrier; a packet injection retries what waits; a READ, flushing READ,
WRITE_P, WRITE_NP, ATOMIC, RESERVE_READ, COND_WRITE, MSG or MGMT packet that has arrived at a tile leaves the queue of the
tile and is served as the clause for its kind writes out. Where the manual leaves a point open the clause follows the model's
choice: assumption log 14, 16, 18, 35, 74, 105. -/
def Obligations.MasterAndDeliveryRowsAct : Prop :=
  (∀ (s : State) (kind : Nat) (a : Nat) (len : Nat) (pasid : Nat) (data : List Word),
    s.whIssues = true →
    s.ord.bars.any (fun b => b.tile == whTile) = false →
    s.wh.accq = [] →
    s.stopped = false →
    exec (.masterAccess kind a len pasid data) s = .next (s.whAccess ⟨kind, a, len, pasid, data⟩).settle) ∧
  (∀ (s : State) (kind : Nat) (a : Nat) (len : Nat) (pasid : Nat) (data : List Word),
    s.whIssues = true →
    (s.ord.bars.any (fun b => b.tile == whTile) = true ∨ s.wh.accq ≠ []) →
    s.stopped = false →
    exec (.masterAccess kind a len pasid data) s = .next ({ s with wh := { s.wh with accq := s.wh.accq ++ [(⟨kind, a, len, pasid, data⟩ : WAcc)] } }).settle) ∧
  (∀ (s : State) (ti : Nat) (u : State),
    u = (s.resendAt ti).retry (fun h => h.tile == ti && retryable h) →
    (ti ≠ whTile ∨ u.ord.bars.any (fun b => b.tile == whTile) = true ∨ u.wh.accq = []) →
    s.stopped = false →
    exec (.packetInject ti) s = .next ((u.waitNext ti).getD u).settle) ∧
  (∀ (s : State) (u : State) (x : WAcc) (rest : List WAcc),
    u = (s.resendAt whTile).retry (fun h => h.tile == whTile && retryable h) →
    u.ord.bars.any (fun b => b.tile == whTile) = false →
    u.wh.accq = x :: rest →
    s.stopped = false →
    exec (.packetInject whTile) s = .next (({ u with wh := { u.wh with accq := rest } }).whAccess x).settle) ∧
  (∀ (s : State) (ti : Nat) (p : Pkt) (u : State),
    s.gives ti (fun p => (p.kind == kREAD && p.len != 0) || isTlp p tyMRd) p u →
    atPortA ti p = false →
    s.stopped = false →
    exec (.read ti) s = .next ((u.serveRead ti p).cxRun).settle) ∧
  (∀ (s : State) (ti : Nat) (p : Pkt) (u : State),
    s.gives ti (fun p => (p.kind == kREAD && p.len != 0) || isTlp p tyMRd) p u →
    atPortA ti p = true →
    s.stopped = false →
    exec (.read ti) s = .next (u.portAJob p).settle) ∧
  (∀ (s : State) (ti : Nat) (p : Pkt) (u : State),
    s.gives ti flushRead p u →
    s.stopped = false →
    exec (.flushingRead ti) s = .next (u.answerAt ti (mkCplD p .ok [])).settle) ∧
  (∀ (s : State) (ti : Nat) (p : Pkt) (u : State),
    s.gives ti (fun p => p.kind == kWRITE_P || isTlp p tyMWr) p u →
    atPortA ti p = false →
    s.stopped = false →
    exec (.writeP ti) s = .next (u.postedWrite ti p).settle) ∧
  (∀ (s : State) (ti : Nat) (p : Pkt) (u : State),
    s.gives ti (fun p => p.kind == kWRITE_NP || isTlp p tyDMWr) p u →
    atPortA ti p = false →
    s.stopped = false →
    exec (.writeNp ti) s = .next (((u.bankStore ti p).2.cplBack ti p (u.bankStore ti p).1).cxRun).settle) ∧
  (∀ (s : State) (ti : Nat) (a : Nat) (op : Nat) (size : Nat) (o1 : Nat) (o2 : Nat) (p : Pkt) (u : State) (v : State) (old : Nat) (st : Status),
    s.gives ti (fun p => p.kind == kATOMIC || isTlp p tyAtomic) p u →
    (¬ (p.kind = kTLP ∧ bit ((p.data.getD 0 0).toNat) 5 = true)) →
    atomicArgs p = (op, size, o1, o2) →
    bankRange ti p size = some a →
    u.bankAtomic a size op o1 o2 = (old, st, v) →
    s.stopped = false →
    exec (.atomic ti) s = .next (v.dataBack ti p st (leBytes 8 old)).settle) ∧
  (∀ (s : State) (ti : Nat) (a : Nat) (p : Pkt) (u : State) (v : State) (bs : List Nat) (st : Status),
    s.gives ti (fun p => p.kind == kRESERVE) p u →
    bankRange ti p (4 * p.len) = some a →
    u.bankReserve a (4 * p.len) (resKey p) = (bs, st, v) →
    s.stopped = false →
    exec (.reserveRead ti) s = .next (v.dataBack ti p st bs).settle) ∧
  (∀ (s : State) (ti : Nat) (a : Nat) (p : Pkt) (u : State) (v : State) (st : Status),
    s.gives ti (fun p => p.kind == kCOND) p u →
    bankRange ti p (4 * p.data.length) = some a →
    u.bankCond a (wordsBytes p.data) (resKey p) = (st, v) →
    s.stopped = false →
    exec (.condWrite ti) s = .next (v.cplBack ti p st).settle) ∧
  (∀ (s : State) (ti : Nat) (e : Nat) (p : Pkt) (u : State),
    s.gives ti (fun p => p.kind == kMSG) p u →
    tileUnit ti = .kt e →
    p.addr % 65536 = 0x0601 →
    s.stopped = false →
    exec (.msg ti) s = .next (u.ringMsg e p).settle) ∧
  (∀ (s : State) (ti : Nat) (b : Nat) (p : Pkt) (u : State),
    s.gives ti (fun p => p.kind == kMSG) p u →
    tileUnit ti = .ct b →
    p.addr % 65536 = 0x0602 →
    s.stopped = false →
    exec (.msg ti) s = .next (u.dirtyMsg b p).settle) ∧
  (∀ (s : State) (ti : Nat) (p : Pkt) (u : State),
    s.gives ti (fun k => k.kind == kMGMT) p u →
    ti = cxTile →
    p.addr % 65536 = 0x10 →
    s.stopped = false →
    exec (.mgmtPacket ti) s = .next (u.takeReport p).settle) ∧
  (∀ (s : State) (ti : Nat) (p : Pkt) (u : State),
    s.gives ti (fun p => p.kind == kWRITE_P || isTlp p tyMWr) p u →
    atPortA ti p = true →
    s.stopped = false →
    exec (.writeP ti) s = .next (u.portAJob p).settle) ∧
  (∀ (s : State) (ti : Nat) (p : Pkt) (u : State),
    s.gives ti (fun p => p.kind == kWRITE_NP || isTlp p tyDMWr) p u →
    atPortA ti p = true →
    s.stopped = false →
    exec (.writeNp ti) s = .next (u.portAJob p).settle)

/-- A response retires the entry it matches and a late one is counted; a timeout retires its entry; quarantine ends; the mesh of a
plane in service runs until the packet named has left or nothing moves; transit keys age out; receipts free retained packets;
a flow fence opens; a credit returns to a counter that lacks one; a timeout that an event of higher rank meets in its cycle
does nothing. Where the manual leaves a point open the clause follows the model's choice: assumption log 19, 39, 70, 92, 94,
95, 98. -/
def Obligations.MeshRowsAct : Prop :=
  (∀ (s : State) (ti : Nat) (c : Pkt) (u : State) (e : RoEntry),
    s.gives ti (fun p => pktClass p == 2) c u →
    u.roMatch ti c = some e →
    s.stopped = false →
    exec (.cpl ti) s = .next (((u.response ti c e).advance).cxRun).settle) ∧
  (∀ (s : State) (ti : Nat) (c : Pkt) (u : State),
    s.gives ti (fun p => pktClass p == 2) c u →
    u.roMatch ti c = none →
    s.stopped = false →
    exec (.cpl ti) s = .next (u.count (C_NI_LATE_DISCARD (niBase ti))).settle) ∧
  (∀ (s : State) (ti : Nat) (tag : Nat) (e : RoEntry),
    tget s.req.ro (roKey ti tag) = some e →
    e.st = 1 →
    tag < 65536 →
    s.outranked ti tag e = false →
    e.fgen = s.get GLB_FAULT_GEN_GEN →
    s.stopped = false →
    exec (.completionTimeout ti tag) s = .next (((s.entryLost ti tag e .timeout).advance).cxRun).settle) ∧
  (∀ (s : State) (ti : Nat) (tag : Nat) (e : RoEntry),
    tget s.req.ro (roKey ti tag) = some e →
    e.st = 1 →
    tag < 65536 →
    s.outranked ti tag e = false →
    e.fgen ≠ s.get GLB_FAULT_GEN_GEN →
    s.stopped = false →
    exec (.completionTimeout ti tag) s = .next (((s.entryLost ti tag e .pathLost).advance).cxRun).settle) ∧
  (∀ (s : State) (ti : Nat) (tag : Nat) (e : RoEntry),
    tget s.req.ro (roKey ti tag) = some e →
    e.st = 2 →
    tag < 65536 →
    s.stopped = false →
    exec (.quarantineEnd ti tag) s = .next (({ s with req := { s.req with ro := tset s.req.ro (roKey ti tag) { e with st := 0 } } }).roNextWait ti).settle) ∧
  (∀ (s : State) (src : Nat) (dt : Nat) (p : Nat) (vc : Nat) (f : Flight),
    s.mesh.fly.find? (fun f => f.src == src && f.dtile == dt && f.plane == p && f.vc == vc) = some f →
    s.planeRuns p = true →
    s.stopped = false →
    exec (.packetDelivery src dt p vc) s = .next (State.meshRun s.meshFuel p (fun u => !u.mesh.fly.any (fun g => g.id == f.id && g.plane == p)) s).settle) ∧
  (∀ (s : State) (src : Nat) (dt : Nat) (p : Nat) (vc : Nat) (f : Flight),
    s.mesh.fly.find? (fun f => f.src == src && f.dtile == dt && f.plane == p && f.vc == vc) = some f →
    s.planeRuns p = false →
    s.stopped = false →
    exec (.packetDelivery src dt p vc) s = .next (s).settle) ∧
  (∀ (s : State) (ti : Nat) (tag : Nat) (seq : Nat) (x : Nat × Nat × Nat × Nat),
    s.mesh.transit.find? (fun e => e.1 == ti && e.2.1 == tag && e.2.2.1 == seq) = some x →
    s.stopped = false →
    exec (.transitKeyAgeOut ti tag seq) s = .next ({ s with mesh := { s.mesh with transit := dropFirst (fun e => e.1 == ti && e.2.1 == tag && e.2.2.1 == seq) s.mesh.transit, aged := s.mesh.aged ++ [x] } }).settle) ∧
  (∀ (s : State) (ti : Nat) (r : Receipt),
    s.mesh.rcpts.find? (fun r => r.tgt == ti) = some r →
    s.stopped = false →
    exec (.receipt ti) s = .next ((({ s with mesh := { s.mesh with rcpts := dropFirst (fun x => x.tgt == ti) s.mesh.rcpts } }).freeKept r).advance).settle) ∧
  (∀ (s : State) (ti : Nat) (dt : Nat),
    s.mesh.fences.any (fun f => f.tile == ti && f.dtile == dt && s.fenceOpen f) = true →
    s.stopped = false →
    exec (.flowFenceRelease ti dt) s = .next (({ s with mesh := { s.mesh with fences := s.mesh.fences.filter (fun f => !(f.tile == ti && f.dtile == dt && s.fenceOpen f)) } }).retry (fun (h : Held) => h.tile == ti && h.why == HoldWhy.fence)).settle) ∧
  (∀ (s : State) (p : Nat) (ti : Nat) (dd : Nat) (vc : Nat),
    p < 2 →
    hasPort ti dd = true →
    (dd < 4 →
    bit (s.get (RT_FENCE_PORTS p (nextTile ti dd))) (backDir dd) = false) →
    vc < 8 →
    tgetD s.mesh.credUsed (credKey p ti dd vc) 0 ≠ 0 →
    s.stopped = false →
    exec (.creditReturn p ti dd vc) s = .next (({ s with mesh := { s.mesh with crBack := dropFirst (fun e => e.1 == credKey p ti dd vc) s.mesh.crBack } }).creditUp (credKey p ti dd vc)).settle) ∧
  (∀ (s : State) (ti : Nat) (tag : Nat) (e : RoEntry),
    tget s.req.ro (roKey ti tag) = some e →
    e.st = 1 →
    tag < 65536 →
    s.outranked ti tag e = true →
    s.stopped = false →
    exec (.completionTimeout ti tag) s = .next (s).settle)

/-- A plane fences, fails, resends, self-tests and returns; routers count corrected errors and drain their inputs; tiles switch
bank; the route replicas synchronise; an elimination entry ages back to its initial state. Where the manual leaves a point
open the clause follows the model's choice: assumption log 39, 43, 95. -/
def Obligations.PlaneRowsAct : Prop :=
  (∀ (s : State) (p : Nat),
    p < 2 →
    s.plane p = pFENCING →
    s.mesh.kept.any (fun k => k.plane == p) = false →
    s.mesh.fly.any (fun f => f.plane == p) = false →
    s.stopped = false →
    exec (.planeFenceDone p) s = .next (s.planeTo p pOUT).settle) ∧
  (∀ (s : State) (p : Nat) (cause : Nat) (ti : Nat) (port : Nat) (vc : Nat) (f : Fld),
    p < 2 →
    1 ≤ cause →
    cause ≤ 6 →
    hasPort ti port = true →
    s.plane p ≠ pOUT →
    s.plane p ≠ pFAILED →
    rtErrBit p ti cause = some f →
    s.stopped = false →
    exec (.planeHardFault p cause ti port vc) s = .next ((s.rtErr p ti f port vc).planeFail p cause 0).settle) ∧
  (∀ (s : State) (p : Nat) (cause : Nat) (ti : Nat) (port : Nat) (vc : Nat),
    p < 2 →
    1 ≤ cause →
    cause ≤ 6 →
    hasPort ti port = true →
    s.plane p ≠ pOUT →
    s.plane p ≠ pFAILED →
    rtErrBit p ti cause = none →
    s.stopped = false →
    exec (.planeHardFault p cause ti port vc) s = .next (s.planeFail p cause 0).settle) ∧
  (∀ (s : State) (ti : Nat) (dt : Nat) (p : Nat),
    s.mesh.ends.find? (fun e => e.2.1 == ti && e.2.2 == dt) = some (p, ti, dt) →
    s.stopped = false →
    exec (.endWord ti dt) s = .next ((s.endWord p ti dt).advance).settle) ∧
  (∀ (s : State) (p : Nat),
    p < 2 →
    s.plane p = pFAILED →
    s.mesh.ends.any (fun e => e.1 == p) = false →
    s.mesh.kept.any (fun k => k.plane == p) = false →
    s.stopped = false →
    exec (.planeResendDone p) s = .next ((s.planeTo p pOUT).put (planeFault p) 1).settle) ∧
  (∀ (s : State) (p : Nat),
    p < 2 →
    s.plane p = pRETURNING →
    (planeDoms p).any (fun d => s.dom d != dON) = false →
    s.stopped = false →
    exec (.planeSelftestDone p true) s = .next ((s.planeUp p).warmRelease).settle) ∧
  (∀ (s : State) (p : Nat),
    p < 2 →
    s.plane p = pRETURNING →
    s.stopped = false →
    exec (.planeSelftestDone p false) s = .next (((((s.put (planeCause p) 7).planeTo p pOUT).put (planeFault p) 1).fault 1 p 7).warmRelease).settle) ∧
  (∀ (s : State) (p : Nat) (ti : Nat) (dd : Nat) (vc : Nat),
    p < 2 →
    hasPort ti dd = true →
    vc < 8 →
    s.stopped = false →
    exec (.routerCe p ti dd vc) s = .next ((s.count (C_RT_CE_CNT p ti)).rtErr p ti (RT_ERR_CE p ti) dd vc).settle) ∧
  (∀ (s : State) (p : Nat) (ti : Nat) (dd : Nat) (u : State),
    p < 2 →
    hasPort ti dd = true →
    bit (s.get (RT_FENCE_PORTS p ti)) dd = true →
    bit (s.get (RT_FENCE_STAT_DONE p ti)) dd = false →
    u = State.meshRun s.meshFuel p (fun v => v.inputEmpty p ti dd) s →
    u.inputEmpty p ti dd = true →
    s.stopped = false →
    exec (.routerInputDrained p ti dd) s = .next (u.put (RT_FENCE_STAT_DONE p ti) (u.get (RT_FENCE_STAT_DONE p ti) ||| 2 ^ dd)).settle) ∧
  (∀ (s : State) (ti : Nat) (u : State),
    s.mesh.unswitched.contains ti = true →
    u = s.passTo (tgetD s.mesh.recent ti 0 + clampN 2000 10000000 (s.get RTE_QUIET_NS)) →
    s.stopped = false →
    exec (.quietSwitchEnd ti) s = .next ((({ u with mesh := { u.mesh with unswitched := u.mesh.unswitched.filter (· != ti) } }).put RTE_STAT_SWITCHED (b2n (u.mesh.unswitched.filter (· != ti)).isEmpty)).retry (fun h => h.tile == ti && h.why == HoldWhy.quiet)).settle) ∧
  (∀ (s : State),
    s.on RTE_STAT_SYNC_BUSY = true →
    s.stopped = false →
    exec (.routeReplicaSync) s = .next (s.put RTE_STAT_SYNC_BUSY 0).settle) ∧
  (∀ (s : State) (ti : Nat) (n : Nat),
    elimBase ti ≠ 0 →
    n < 1024 →
    s.stopped = false →
    exec (.elimAgeExpiry ti n) s = .next (s.put (NI_ELIM_ST_INIT (elimBase ti) n) 1).settle) ∧
  (∀ (s : State) (p : Nat) (ti : Nat) (dd : Nat) (u : State),
    p < 2 →
    hasPort ti dd = true →
    bit (s.get (RT_FENCE_PORTS p ti)) dd = true →
    bit (s.get (RT_FENCE_STAT_DONE p ti)) dd = false →
    u = State.meshRun s.meshFuel p (fun v => v.inputEmpty p ti dd) s →
    u.inputEmpty p ti dd = false →
    s.stopped = false →
    exec (.routerInputDrained p ti dd) s = .next (u).settle)

/-- ROUTE_SET_NODE, ROUTE_NEIGHBOURS, ROUTE_LOAD, ROUTE_COMMIT, ROUTE_FLIP, ROUTE_DRAIN_STAT and ROUTE_FREE, running in their
mailbox on a bank in the state each needs, have their effect and answer OK. Where the manual leaves a point open the clause
follows the model's choice: assumption log 8, 28. -/
def Obligations.RouteCommandsAct : Prop :=
  (∀ (s : State) (mb : Nat) (c : OpenCmd) (node : Nat) (tier : Nat) (set : Nat),
    s.runs mb 0x0301 c →
    node < 4096 →
    tier < 3 →
    set < 2 →
    s.nodeFree = true →
    s.stopped = false →
    exec (.routeSetNode mb node tier set) s = .next (((((s.put GLB_NODE_ID node).put RTE_NODE_CFG_TIER tier).put RTE_NODE_CFG_SET set).put TM_GM_CFG_TIER tier).ok mb []).settle) ∧
  (∀ (s : State) (mb : Nat) (c : OpenCmd),
    s.runs mb 0x0302 c →
    s.stopped = false →
    exec (.routeNeighbours mb) s = .next (s.okQuery mb (s.fabricPorts.map (fun p => s.rd (R_PORT_NBR (portC p) (portK p))))).settle) ∧
  (∀ (s : State) (mb : Nat) (c : OpenCmd) (bank : Nat) (ents : List (Nat × Word)) (grps : List (Nat × List Nat)),
    s.runs mb 0x0303 c →
    bank < 2 →
    ents.findIdx? (fun e => decide (4096 ≤ e.1)) = none →
    grps.findIdx? (fun g => decide (256 ≤ g.1)) = none →
    s.bank bank = 0 →
    s.stopped = false →
    exec (.routeLoad mb bank ents grps) s = .next ((((s.forEach ents (fun e u => u.wr (R_RTE_ENT (rteIdx bank e.1)) (e.2.toNat % 2 ^ 26))).forEach (grps.filter (fun g => g.1 != 0)) (fun g u => u.forEach (List.range 4) (fun w v => v.wr (R_RTE_GRP (bank * 1024 + g.1 * 4 + w)) (g.2.getD w 0)))).put RTE_STAT_SYNC_BUSY 1).ok mb []).settle) ∧
  (∀ (s : State) (mb : Nat) (c : OpenCmd) (bank : Nat),
    s.runs mb 0x0304 c →
    bank < 2 →
    s.bank bank = 0 →
    s.on RTE_STAT_SYNC_BUSY = false →
    s.commitFail bank = none →
    s.stopped = false →
    exec (.routeCommit mb bank) s = .next (((s.setBank bank 1).setElig bank).ok mb []).settle) ∧
  (∀ (s : State) (mb : Nat) (c : OpenCmd) (bank : Nat),
    s.runs mb 0x0305 c →
    bank < 2 →
    s.bank bank = 1 →
    s.stopped = false →
    exec (.routeFlip mb bank) s = .next ((s.flip bank).ok mb []).settle) ∧
  (∀ (s : State) (mb : Nat) (c : OpenCmd),
    s.runs mb 0x0306 c →
    s.stopped = false →
    exec (.routeDrainStat mb) s = .next (s.okQuery mb [s.get RTE_STAT_SWITCHED, s.get (RTE_RES_COUNT 0), s.get (RTE_RES_COUNT 1), s.cnt (C_RTE_ENT_CNT 0) % 2 ^ 32, s.cnt (C_RTE_ENT_CNT 0) / 2 ^ 32, s.cnt (C_RTE_ENT_CNT 1) % 2 ^ 32, s.cnt (C_RTE_ENT_CNT 1) / 2 ^ 32]).settle) ∧
  (∀ (s : State) (mb : Nat) (c : OpenCmd) (bank : Nat),
    s.runs mb 0x0307 c →
    bank < 2 →
    s.bank bank = 3 →
    s.on RTE_STAT_SWITCHED = true →
    s.get (RTE_RES_COUNT bank) = 0 →
    s.stopped = false →
    exec (.routeFree mb bank) s = .next ((s.setBank bank 0).ok mb []).settle)

/-- A packet that the queues select starts on a Runnel or PCI Express port, or the flit goes idle where none may start; a gate
list steps to its next entry or ends; a shaper refills; a held stream packet is released at OPEN; telemetry is sampled and a
trace record appended. Where the manual leaves a point open the clause follows the model's choice: assumption log 3, 9, 36,
81, 86. -/
def Obligations.GateAndShaperRowsAct : Prop :=
  (∀ (s : State) (p : Nat) (u : State) (v : State) (w : State) (x : Nat × FqTag × QEnt),
    u = (s.endPkt p).backIn →
    u.isRunnel p = true →
    u.lst p = lkACTIVE →
    (u.lk p).stopping = false →
    v = u.pump p false →
    v.txBusy p = false →
    w = v.fqHeads p (v.linkCredit p) →
    w.selectNext p (w.linkCredit p) = some x →
    s.stopped = false →
    exec (.packetStart p) s = .next ((w.startPkt p (w.linkCredit p) x).linkStart p x.2.2.pkt).settle) ∧
  (∀ (s : State) (p : Nat) (u : State) (w : State) (x : Nat × FqTag × QEnt),
    u = (s.endPkt p).backIn →
    u.isRunnel p = false →
    (u.isHost p || u.isDown p) = true →
    u.lstat p = lsACTIVE →
    u.pw.idle.contains p = false →
    w = u.fqHeads p (u.pcCredit p) →
    w.selectNext p (w.pcCredit p) = some x →
    s.stopped = false →
    exec (.packetStart p) s = .next ((w.startPkt p (w.pcCredit p) x).tlpStart p x.2.2.pkt).settle) ∧
  (∀ (s : State) (p : Nat) (x : Nat × Nat),
    p < 128 →
    s.gclUsed p = true →
    (s.gcl p (s.gclActive p))[entryAt (s.gcl p (s.gclActive p)) s.tm.e + 1]? = some x →
    s.reaches x.1 = true →
    s.stopped = false →
    exec (.gclEntryChange p) s = .next (s.reachE x.1).settle) ∧
  (∀ (s : State) (p : Nat),
    p < 128 →
    s.gclUsed p = true →
    (s.gcl p (s.gclActive p))[entryAt (s.gcl p (s.gclActive p)) s.tm.e + 1]? = none →
    s.stopped = false →
    exec (.gclEntryChange p) s = .next (s.smIgnored).settle) ∧
  (∀ (s : State) (p : Nat) (q : Nat) (n : Nat),
    p < 128 →
    q < 8 →
    s.tm.tclk = true →
    tget s.sch.refAt (p * 8 + q) = some n →
    s.stopped = false →
    exec (.shaperRefill p q) s = .next (s.pass (n + s.refillPer p q - s.tm.cyc)).settle) ∧
  (∀ (s : State) (c : Nat) (w : Nat),
    (s.sch.shold.filter (fun h => h.win == strBase (ptTile c) w)).isEmpty = false →
    s.reaches (s.get (STR_OPEN_NS (strBase (ptTile c) w))) = true →
    s.stopped = false →
    exec (.streamHoldRelease c w) s = .next ((s.reachE (s.get (STR_OPEN_NS (strBase (ptTile c) w)))).streamRelease (strBase (ptTile c) w)).settle) ∧
  (∀ (s : State) (p : Nat) (n : Nat) (u : State),
    p < 128 →
    s.tm.tclk = true →
    s.on (TEL_CFG_EN (portC p) (portK p)) = true →
    s.telNext p = some n →
    u = s.pass n →
    s.stopped = false →
    exec (.telemetrySample p) s = .next (({ u with sch := { u.sch with telAt := p :: u.sch.telAt } }).telSend p).settle) ∧
  (∀ (s : State) (p : Pkt) (u : State),
    s.gives tlTile (fun p => p.kind == kMSG && p.addr % 65536 == telCode) p u →
    p.addr / 65536 < 16 →
    s.stopped = false →
    exec (.traceRecord) s = .next (u.traceAppend (p.addr / 65536) p).settle) ∧
  (∀ (s : State) (p : Nat) (u : State) (v : State),
    u = (s.endPkt p).backIn →
    u.isRunnel p = true →
    u.lst p = lkACTIVE →
    (u.lk p).stopping = false →
    v = u.pump p false →
    v.txBusy p = true →
    s.stopped = false →
    exec (.packetStart p) s = .next (v.sendIdle p 1).settle) ∧
  (∀ (s : State) (p : Nat) (u : State) (v : State) (w : State),
    u = (s.endPkt p).backIn →
    u.isRunnel p = true →
    u.lst p = lkACTIVE →
    (u.lk p).stopping = false →
    v = u.pump p false →
    v.txBusy p = false →
    w = v.fqHeads p (v.linkCredit p) →
    w.selectNext p (w.linkCredit p) = none →
    s.stopped = false →
    exec (.packetStart p) s = .next ((w.pump p true).sendIdle p 1).settle)

/-- STREAM_ADD that passes every check of its command area (and one that fails is refused with its reason), STREAM_DEL by role,
STREAM_QUERY, GCL_LOAD, GCL_SWAP, SHAPER_SET, FQ_SET and TEL_SET, running in their mailbox with a body inside its limits, have
their effect and answer OK. Where the manual leaves a point open the clause follows the model's choice: assumption log 8, 78,
87. -/
def Obligations.StreamCommandsAct : Prop :=
  (∀ (s : State) (mb : Nat) (c : OpenCmd) (r : StreamRec) (b : Nat) (u : State) (v : State),
    s.runs mb 0x0401 c →
    r = s.cmdRecord mb →
    recArg r = true →
    s.admFail r = 0 →
    s.recBlk r = some b →
    u = s.recProgram r b →
    v = { u with sch := { u.sch with adm := u.sch.adm ++ [{ s.cand r with blk := b, dom := recDom r }] } } →
    s.stopped = false →
    exec (.streamAdd mb r) s = .next (((v.doIf (recDom r != 99) (fun v => v.castVote (recDom r) (PW_DOM_VOTE_WH (recDom r)) 4)).showLimits).ok mb []).settle) ∧
  (∀ (s : State) (mb : Nat) (c : OpenCmd) (stream : Nat) (role : Nat) (path : Nat) (a : Adm) (u : State),
    s.runs mb 0x0402 c →
    s.admFind stream role path = some a →
    a.r.role = 2 →
    u = { s with sch := { s.sch with adm := dropFirst (fun x => x == a) s.sch.adm } } →
    s.stopped = false →
    exec (.streamDel mb stream role path) s = .next ((u.doIf (a.dom != 99 && !(dropFirst (fun x => x == a) s.sch.adm).any (fun x => x.dom == a.dom)) (fun u => u.dropVote a.dom (PW_DOM_VOTE_WH a.dom))).showLimits.ok mb []).settle) ∧
  (∀ (s : State) (mb : Nat) (c : OpenCmd) (stream : Nat) (role : Nat) (path : Nat) (a : Adm) (u : State),
    s.runs mb 0x0402 c →
    s.admFind stream role path = some a →
    a.r.role < 2 →
    u = ({ s with sch := { s.sch with adm := dropFirst (fun x => x == a) s.sch.adm } }).put (STR_CTL_EN a.blk) 0 →
    s.stopped = false →
    exec (.streamDel mb stream role path) s = .next ((u.doIf (a.dom != 99 && !(dropFirst (fun x => x == a) s.sch.adm).any (fun x => x.dom == a.dom)) (fun u => u.dropVote a.dom (PW_DOM_VOTE_WH a.dom))).showLimits.ok mb []).settle) ∧
  (∀ (s : State) (mb : Nat) (c : OpenCmd) (stream : Nat) (role : Nat) (path : Nat) (a : Adm) (v : State) (u : State),
    s.runs mb 0x0402 c →
    s.admFind stream role path = some a →
    a.r.role = 3 →
    (dropFirst (fun x => x == a) s.sch.adm).any (fun x => x.blk == a.blk) = false →
    v = { s with sch := { s.sch with adm := dropFirst (fun x => x == a) s.sch.adm } } →
    u = (v.wr a.blk (v.rd a.blk - v.rd a.blk / 2 ^ 15 % 2 * 2 ^ 15)).wr (a.blk + 4) 1 →
    s.stopped = false →
    exec (.streamDel mb stream role path) s = .next ((u.doIf (a.dom != 99 && !(dropFirst (fun x => x == a) s.sch.adm).any (fun x => x.dom == a.dom)) (fun u => u.dropVote a.dom (PW_DOM_VOTE_WH a.dom))).showLimits.ok mb []).settle) ∧
  (∀ (s : State) (mb : Nat) (c : OpenCmd) (stream : Nat) (role : Nat) (path : Nat) (ov : Nat) (a : Adm),
    s.runs mb 0x0403 c →
    s.admFind stream role path = some a →
    ov = (if a.r.role < 2 then s.cnt (C_STR_OVER a.blk) else 0) →
    s.stopped = false →
    exec (.streamQuery mb stream role path) s = .next (s.okQuery mb (recWords a.r ++ [ov % 2 ^ 32, ov / 2 ^ 32])).settle) ∧
  (∀ (s : State) (mb : Nat) (c : OpenCmd) (p : Nat) (ents : List (Nat × Nat × Bool)) (u : State),
    s.runs mb 0x0404 c →
    p < 128 →
    s.portKind p ≠ 0 →
    s.nonFlit p = false →
    1 ≤ ents.length →
    ents.length ≤ 64 →
    s.on (GCL_STAT_PENDING (portC p) (portK p)) = false →
    u = s.writeList p (1 - s.gclActive p) ents →
    s.listFail p s.framePer (u.gcl p (1 - s.gclActive p)) = 0 →
    s.stopped = false →
    exec (.gclLoad mb p ents) s = .next (u.ok mb []).settle) ∧
  (∀ (s : State) (mb : Nat) (c : OpenCmd) (ports : List Nat) (frame : Nat),
    s.runs mb 0x0405 c →
    ports.findIdx? (fun p => decide (128 ≤ p) || s.portKind p == 0 || s.nonFlit p) = none →
    ports.find? (fun p => s.fired frame || s.on (GCL_STAT_PENDING (portC p) (portK p))) = none →
    (ports.map (fun p => (p, s.listFail p s.framePer (s.gcl p (1 - s.gclActive p))))).find? (fun x => x.2 ≠ 0) = none →
    s.stopped = false →
    exec (.gclSwap mb ports frame) s = .next ((s.forEach ports (fun p u => ((u.wr (R_GCL_SWAP_LO (portC p) (portK p)) frame).wr (R_GCL_SWAP_HI (portC p) (portK p)) (frame / 2 ^ 32)).armGcl p frame)).ok mb []).settle) ∧
  (∀ (s : State) (mb : Nat) (c : OpenCmd) (p : Nat) (q : Nat) (cfg : Nat) (quant : Nat) (burst : Nat),
    s.runs mb 0x0406 c →
    p < 128 →
    q < 8 →
    quant < 2 ^ 20 →
    burst < 2 ^ 24 →
    (¬ (q = 7 ∧ bit cfg 0 = true ∧ s.carries p = true)) →
    s.stopped = false →
    exec (.shaperSet mb p q cfg quant burst) s = .next ((((s.stageShp (R_SHP_CFG (portC p) (portK p) q) (insBits (cfg % 2 ^ 32) 1 7 0)).stageShp (R_SHP_QUANT (portC p) (portK p) q) quant).stageShp (R_SHP_BURST (portC p) (portK p) q) burst).ok mb []).settle) ∧
  (∀ (s : State) (mb : Nat) (c : OpenCmd) (p : Nat) (w0 : Nat) (w1 : Nat),
    s.runs mb 0x0407 c →
    p < 128 →
    s.stopped = false →
    exec (.fqSet mb p w0 w1) s = .next (((s.put (FQ_W0_W (portC p) (portK p)) w0).put (FQ_W1_W (portC p) (portK p)) w1).ok mb []).settle) ∧
  (∀ (s : State) (mb : Nat) (c : OpenCmd) (p : Nat) (cfg : Nat) (offset : Nat) (rings : List (Nat × Nat × Nat)),
    s.runs mb 0x0408 c →
    p < 128 →
    8 ≤ bits cfg 2 5 →
    bits cfg 2 5 ≤ 20 →
    (rings.findIdx? (fun r => decide (16 ≤ r.1 ∨ bits r.2.2 2 5 < 12 ∨ 24 < bits r.2.2 2 5)) = none) →
    s.stopped = false →
    exec (.telSet mb p cfg offset rings) s = .next ((((s.wr (R_TEL_CFG (portC p) (portK p)) (cfg % 4096 - bits cfg 7 1 * 128)).put (TEL_OFFSET_NS (portC p) (portK p)) offset).forEach rings (fun r u => ((u.wr (R_TL_BASE_LO r.1) (r.2.1 % 2 ^ 32 / 4096 * 4096)).wr (R_TL_BASE_HI r.1) (r.2.1 / 2 ^ 32)).wr (R_TL_CTL r.1) (r.2.2 % 128))).ok mb []).settle) ∧
  (∀ (s : State) (mb : Nat) (c : OpenCmd) (r : StreamRec),
    s.runs mb 0x0401 c →
    r = s.cmdRecord mb →
    recArg r = true →
    s.admFail r ≠ 0 →
    s.stopped = false →
    exec (.streamAdd mb r) s = .next (s.refuse mb (s.admFail r) 0).settle)

/-- Scrubbing, bank faults, snapshot commits and weir decisions, job arrival, start and completion, engine faults, frame programs
from start to weir, plume copies and scatter records leave the states that the clauses write out. Where the manual leaves a
point open the clause follows the model's choice: assumption log 3, 5, 10, 11, 12, 13, 15, 23, 34, 68, 96. -/
def Obligations.CisternAndCascadeRowsAct : Prop :=
  (∀ (s : State) (b : Nat) (row : Nat) (u : State) (v : State),
    b < 24 →
    s.on (CT_SCRUB_EN b) = true →
    s.bankRetired b = false →
    row = tgetD s.cis.scrub b 0 →
    u = { s with cis := { s.cis with scrub := tset s.cis.scrub b ((row + 1) % 32768) } } →
    v = u.forEach (wordsOf (bankBase b + row * 128) 128) (fun w u => u.meetWord w) →
    s.stopped = false →
    exec (.scrub b) s = .next (v.doIf (row == 32767) (fun v => { v with cis := { v.cis with rowCe := v.cis.rowCe.filter (fun e => e.1 / 32768 != b) } })).settle) ∧
  (∀ (s : State) (b : Nat),
    b < 24 →
    s.stopped = false →
    exec (.bankFault b) s = .next ((((s.put (CT_ERR_BANK_FAULT b) 1).put (CT_STAT_STATE b) 1).resLoseBank b).logFault 5 b 0xFFFFFFFF 0).settle) ∧
  (∀ (s : State) (n : Nat) (x : Commit),
    s.cis.commits.find? (fun x => x.obj == n) = some x →
    x.pend.any (fun i => s.mesh.kept.any (fun k => k.id == i) || s.mesh.held.any (fun h => h.id == i)) = false →
    s.stopped = false →
    exec (.snapshotCommit n) s = .next (({ s with cis := { s.cis with commits := dropFirst (fun y => y == x) s.cis.commits } }).put (SNAP_STAT_READY n) 1).settle) ∧
  (∀ (s : State) (n : Nat) (u : State),
    n < 64 →
    s.ticking = true →
    s.snapOn n = true →
    s.on (SNAP_CTL_MODE n) = false →
    u = s.reachNs (s.nextTickNs - max 1 (s.objWeir n)).toNat →
    s.stopped = false →
    exec (.publicationDecision n) s = .next ((u.forEach ((u.producers n).filter (fun k => u.fpLive (k / 8) (k % 8))) (fun k v => v.fpAbort (k / 8) (k % 8))).decideObj n).settle) ∧
  (∀ (s : State) (e : Nat) (p : Pkt) (u : State),
    e < 12 →
    s.gives (ktTile e) (fun p => p.kind == kJOB) p u →
    u.ktState e ≠ ktFAULTED →
    u.on (KT_Q_CFG_EN e (p.addr % 64)) = true →
    2 ≤ p.addr % 64 →
    p.basin = u.get (KT_Q_BASIN_BASIN e (p.addr % 64)) →
    p.gen = u.get (KT_Q_BASIN_GEN e (p.addr % 64)) →
    u.slotsFree e (p.addr % 64) ≠ 0 →
    s.stopped = false →
    exec (.cascadeJob e) s = .next (u.enqJob ⟨e, p.addr % 64, p.data, p.basin, p.gen⟩).settle) ∧
  (∀ (s : State) (e : Nat) (p : Pkt) (u : State),
    e < 12 →
    s.gives (ktTile e) (fun p => p.kind == kJOB) p u →
    u.ktState e ≠ ktFAULTED →
    p.addr % 64 = 1 →
    u.on (KT_Q_CFG_EN e 1) = true →
    p.src = tileEid u.node whTile →
    u.slotsFree e 1 ≠ 0 →
    s.stopped = false →
    exec (.cascadeJob e) s = .next (u.enqJob ⟨e, 1, p.data, p.basin, p.gen⟩).settle) ∧
  (∀ (s : State) (e : Nat) (j : QJob) (u : State) (v : State),
    e < 12 →
    s.on (KT_CTL_EN e) = true →
    s.ktState e ≠ ktFAULTED →
    s.kt.stopped = false →
    s.runOf e = none →
    s.kt.due.find? (fun k => k / 8 == e) = none →
    s.pickDrr e = (some j, u) →
    (¬ ((readDesc j.desc).order = true ∧ s.engQuiet e = false)) →
    v = { u with kt := { u.kt with queue := dropFirst (fun x => x == j) u.kt.queue } } →
    s.stopped = false →
    exec (.jobStart e) s = .next (((v.doIf (decide (2 ≤ j.q)) (·.consume e j.q j.basin)).slotFreed e j.q).runJob e j.q 0 0 j).settle) ∧
  (∀ (s : State) (e : Nat) (k : Nat),
    e < 12 →
    s.on (KT_CTL_EN e) = true →
    s.ktState e ≠ ktFAULTED →
    s.kt.stopped = false →
    s.runOf e = none →
    s.kt.due.find? (fun k => k / 8 == e) = some k →
    s.engQuiet e = true →
    s.stopped = false →
    exec (.jobStart e) s = .next (s.startProgram e k).settle) ∧
  (∀ (s : State) (e : Nat) (k : Nat) (r : RunJob),
    e < 12 →
    s.on (KT_CTL_EN e) = true →
    s.ktState e ≠ ktFAULTED →
    s.kt.stopped = false →
    s.runOf e = some r →
    r.q ≠ 0 →
    r.gives = true →
    s.kt.due.find? (fun k => k / 8 == e) = some k →
    s.engQuiet e = true →
    s.stopped = false →
    exec (.jobStart e) s = .next (s.startProgram e k).settle) ∧
  (∀ (s : State) (e : Nat) (r : RunJob),
    e < 12 →
    s.on (KT_CTL_EN e) = true →
    s.ktState e ≠ ktFAULTED →
    s.kt.stopped = false →
    s.runOf e = some r →
    r.q = 0 →
    r.waits = true →
    r.idx < s.fpCount e r.fp →
    s.engQuiet e = true →
    s.stopped = false →
    exec (.jobStart e) s = .next (s.runJob e 0 r.fp r.idx (s.fpJob e r.fp r.idx)).settle) ∧
  (∀ (s : State) (e : Nat) (j : Nat) (r : RunJob),
    e < 12 →
    s.runOf e = some r →
    r.waits = false →
    s.kt.scat.any (fun x => x.job.e == e && x.job.id == r.id) = false →
    s.ktState e = ktRUNNING →
    s.postedRoom e 16 = true →
    r.jst = some j →
    r.q ≠ 0 →
    s.stopped = false →
    exec (.jobComplete e) s = .next ((s.jobDone r j r.pst r.fin).engNext e).settle) ∧
  (∀ (s : State) (e : Nat) (j : Nat) (r : RunJob),
    e < 12 →
    s.runOf e = some r →
    r.waits = false →
    s.kt.scat.any (fun x => x.job.e == e && x.job.id == r.id) = false →
    s.ktState e = ktRUNNING →
    s.postedRoom e 16 = true →
    r.jst = some j →
    r.q = 0 →
    s.stopped = false →
    exec (.jobComplete e) s = .next (((s.jobDone r j r.pst r.fin).fpNote e r.fp r.idx j).setRun e (some (newRun e 0 r.fp (r.idx + 1) ⟨e, 0, [], 0, 0⟩))).settle) ∧
  (∀ (s : State) (e : Nat) (code : Nat),
    e < 12 →
    1 ≤ code →
    code ≤ 3 →
    s.ktState e ≠ ktFAULTED →
    s.stopped = false →
    exec (.engineFault e code) s = .next (s.engFault e code 0).settle) ∧
  (∀ (s : State) (e : Nat) (p : Nat) (u : State),
    e < 12 →
    p < 8 →
    s.ticking = true →
    s.on (FP_CTL_EN e p) = true →
    s.tm.last.isSome = true →
    s.tm.e ≤ s.get (FP_START_NS e p) →
    s.reaches (s.get (FP_START_NS e p)) = true →
    s.kt.due.contains (e * 8 + p) = false →
    tget s.kt.outcome (e * 8 + p) = none →
    u = s.reachE (s.get (FP_START_NS e p)) →
    u.on (KT_CTL_EN e) = true →
    u.ktState e ≠ ktFAULTED →
    u.kt.stopped = false →
    s.stopped = false →
    exec (.fpStart e p) s = .next ((u.dueAdd e p).askYield e).settle) ∧
  (∀ (s : State) (e : Nat) (r : RunJob),
    e < 12 →
    s.runOf e = some r →
    r.waits = true →
    s.fpCount e r.fp ≤ r.idx →
    s.engQuiet e = true →
    s.stopped = false →
    exec (.fpComplete e) s = .next (((s.showSig e r.fp).fpReport e r.fp).engNext e).settle) ∧
  (∀ (s : State) (e : Nat) (p : Nat),
    e < 12 →
    p < 8 →
    s.ticking = true →
    s.fpLive e p = true →
    s.stopped = false →
    exec (.fpWeirAbort e p) s = .next ((s.reachNs (s.nextTickNs - max 1 (s.get (FP_WEIR_NS e p))).toNat).fpAbort e p).settle) ∧
  (∀ (s : State) (ti : Nat) (x : Nat × Pkt),
    s.kt.plume.find? (fun x => x.1 == ti) = some x →
    s.stopped = false →
    exec (.plumePacket ti) s = .next (({ s with kt := { s.kt with plume := dropFirst (fun y => y.1 == ti) s.kt.plume } }).plumeCopies ti x.2).settle) ∧
  (∀ (s : State) (e : Nat) (x : ScatRec),
    s.scatNext e = some x →
    x.at_ ≤ s.tm.e →
    s.scatRoom x = true →
    s.stopped = false →
    exec (.scatterRecordTime e) s = .next (({ s with kt := { s.kt with scat := dropFirst (fun y => y == x) s.kt.scat } }).scatSend { x with at_ := 0 }).settle) ∧
  (∀ (s : State) (e : Nat) (x : ScatRec) (u : State),
    s.scatNext e = some x →
    s.tm.e < x.at_ →
    s.reaches x.at_ = true →
    u = s.reachE x.at_ →
    u.scatRoom x = true →
    s.stopped = false →
    exec (.scatterRecordTime e) s = .next (({ u with kt := { u.kt with scat := dropFirst (fun y => y == x) u.kt.scat } }).scatSend { x with at_ := 0 }).settle) ∧
  (∀ (s : State) (e : Nat) (r : RunJob),
    e < 12 →
    s.runOf e = some r →
    r.jst = none →
    s.stopped = false →
    exec (.jobComplete e) s = .next (s.smIgnored).settle)

/-- KT_QUEUE_SET, FP_LOAD, FP_SWAP, SNAP_SET, KT_RESET, PLUME_SET, PART_SET (plain and mirrored), PART_SEAL, PART_RESYNC (each
lost copy) and KT_QUERY, running in their mailbox with a body inside its limits, have their effect and answer OK. Where the
manual leaves a point open the clause follows the model's choice: assumption log 8, 31, 32, 79, 80, 103, 104. -/
def Obligations.CascadeCommandsAct : Prop :=
  (∀ (s : State) (mb : Nat) (c : OpenCmd) (e : Nat) (q : Nat) (cfg : Nat) (basin : Nat),
    s.runs mb 0x0501 c →
    e < 12 →
    q < 64 →
    cfg < 2 ^ 29 →
    basin < 2 ^ 18 →
    bits cfg 1 10 + bits cfg 11 10 + 1 ≤ 1024 →
    s.stopped = false →
    exec (.ktQueueSet mb e q cfg basin) s = .next ((((s.wr (R_KT_Q_CFG e q) cfg).wr (R_KT_Q_BASIN e q) basin).showFree e q).ok mb []).settle) ∧
  (∀ (s : State) (mb : Nat) (c : OpenCmd) (e : Nat) (p : Nat) (pl : Nat) (ctl : Nat) (start : Nat) (weir : Nat) (est : Nat) (n : Nat) (descs : List (List Word)) (u : State),
    s.runs mb 0x0502 c →
    n = (if bits ctl 22 5 = 0 then 32 else bits ctl 22 5) →
    e < 12 →
    p < 8 →
    pl < 4 →
    ctl < 2 ^ 27 →
    start < 2 ^ 22 →
    weir < 2 ^ 22 →
    est < 2 ^ 22 →
    descs.length = n →
    bits ctl 14 8 + n ≤ 256 →
    (¬ (bit ctl 1 = true ∧ 12 ≤ bits ctl 4 4)) →
    s.on (FP_CTL_EN e p) = false →
    s.fpFail e p pl ctl start weir est descs = 0 →
    u = s.forEach descs.zipIdx (fun d u => { u with kt := { u.kt with prog := tset u.kt.prog (e * 256 + bits ctl 14 8 + d.2) d.1 } }) →
    s.stopped = false →
    exec (.fpLoad mb e p pl ctl start weir est descs) s = .next ((((({ u with kt := { u.kt with fpPl := tset u.kt.fpPl (e * 8 + p) pl } }.wr (R_FP_CTL e p) (ctl / 2 * 2)).wr (R_FP_START e p) start).wr (R_FP_WEIR e p) weir).wr (R_FP_EST e p) est).ok mb []).settle) ∧
  (∀ (s : State) (mb : Nat) (c : OpenCmd) (ons : List Nat) (offs : List Nat) (frame : Nat),
    s.runs mb 0x0503 c →
    (ons ++ offs).findIdx? (fun k => decide (96 ≤ k)) = none →
    s.fired frame = false →
    s.kt.swap = none →
    s.stopped = false →
    exec (.fpSwap mb ons offs frame) s = .next (({ s with kt := { s.kt with swap := some ⟨ons, offs, frame⟩ } }).ok mb []).settle) ∧
  (∀ (s : State) (mb : Nat) (c : OpenCmd) (n : Nat) (base : Nat) (ctl : Nat),
    s.runs mb 0x0504 c →
    n < 64 →
    base < 0x6000000 →
    ctl < 256 →
    12 ≤ bits ctl 3 5 →
    bits ctl 3 5 ≤ 20 →
    base % 2 ^ bits ctl 3 5 = 0 →
    (¬ (bit (s.get SC_LOCK_GROUPS) 5 = true ∧ s.rd (R_SNAP_BASE n) ≠ base)) →
    s.named n = false →
    s.stopped = false →
    exec (.snapSet mb n base ctl) s = .next (((s.wr (R_SNAP_BASE n) base).wr (R_SNAP_CTL n) ctl).ok mb []).settle) ∧
  (∀ (s : State) (mb : Nat) (c : OpenCmd) (e : Nat),
    s.runs mb 0x0505 c →
    e < 12 →
    s.stopped = false →
    exec (.ktReset mb e) s = .next ((s.ktReset e).ok mb []).settle) ∧
  (∀ (s : State) (mb : Nat) (c : OpenCmd) (g : Nat) (nodes : List PlumeNode),
    s.runs mb 0x0506 c →
    g < 8 →
    s.plumeOk g nodes = true →
    s.stopped = false →
    exec (.plumeSet mb g nodes) s = .next ((s.forEach nodes (fun x u => u.plumeLoad x)).ok mb []).settle) ∧
  (∀ (s : State) (mb : Nat) (c : OpenCmd) (n : Nat) (base : Nat) (units : Nat) (ctl : Nat),
    s.runs mb 0x0507 c →
    n < 32 →
    base % 65536 = 0 →
    base + units * 65536 ≤ cisEnd →
    1 ≤ units →
    ctl < 512 →
    bits ctl 1 3 ≤ 6 →
    bits ctl 4 5 = 0 →
    s.on (PART_CTL_SEAL n) = false →
    bit (s.get SC_LOCK_GROUPS) 4 = false →
    s.partMeets n base units = none →
    s.stopped = false →
    exec (.partSet mb n base units ctl) s = .next ((((s.wr (R_PART_BASE n) base).wr (R_PART_SIZE n) units).wr (R_PART_CTL n) ctl).ok mb []).settle) ∧
  (∀ (s : State) (mb : Nat) (c : OpenCmd) (n : Nat) (base : Nat) (units : Nat) (ctl : Nat),
    s.runs mb 0x0507 c →
    n < 32 →
    base % 65536 = 0 →
    1 ≤ units →
    ctl < 512 →
    bits ctl 1 3 ≤ 6 →
    1 ≤ bits ctl 4 5 →
    bits ctl 4 5 < 24 →
    base + bits ctl 4 5 * 0x400000 + units * 65536 ≤ cisEnd →
    s.on (PART_CTL_SEAL n) = false →
    bit (s.get SC_LOCK_GROUPS) 4 = false →
    s.partMeets n base units = none →
    s.partMeets n (base + bits ctl 4 5 * 0x400000) units = none →
    rangesMeet base (units * 65536) (base + bits ctl 4 5 * 0x400000) (units * 65536) = false →
    s.stopped = false →
    exec (.partSet mb n base units ctl) s = .next ((((s.wr (R_PART_BASE n) base).wr (R_PART_SIZE n) units).wr (R_PART_CTL n) ctl).ok mb []).settle) ∧
  (∀ (s : State) (mb : Nat) (c : OpenCmd) (n : Nat),
    s.runs mb 0x0508 c →
    n < 32 →
    s.stopped = false →
    exec (.partSeal mb n) s = .next ((s.put (PART_CTL_SEAL n) 1).ok mb []).settle) ∧
  (∀ (s : State) (mb : Nat) (c : OpenCmd) (n : Nat),
    s.runs mb 0x0509 c →
    n < 32 →
    s.on (PART_STAT_DEGRADED n) = true →
    s.mirrorOf n ≠ 0 →
    s.on (PART_STAT_LOST n) = true →
    ((List.range 24).filter (fun b => rangesMeet (s.partBase n + s.mirrorOf n) (s.partEnd n - s.partBase n) (bankBase b) 0x400000)).any (fun b => s.bankRetired b) = false →
    s.stopped = false →
    exec (.partResync mb n) s = .next ((((s.cisCopy (s.partBase n) (s.partBase n + s.mirrorOf n) (s.partEnd n - s.partBase n)).put (PART_STAT_DEGRADED n) 0).put (PART_STAT_LOST n) 0).ok mb []).settle) ∧
  (∀ (s : State) (mb : Nat) (c : OpenCmd) (n : Nat),
    s.runs mb 0x0509 c →
    n < 32 →
    s.on (PART_STAT_DEGRADED n) = true →
    s.mirrorOf n ≠ 0 →
    s.on (PART_STAT_LOST n) = false →
    ((List.range 24).filter (fun b => rangesMeet (s.partBase n) (s.partEnd n - s.partBase n) (bankBase b) 0x400000)).any (fun b => s.bankRetired b) = false →
    s.stopped = false →
    exec (.partResync mb n) s = .next ((((s.cisCopy (s.partBase n + s.mirrorOf n) (s.partBase n) (s.partEnd n - s.partBase n)).put (PART_STAT_DEGRADED n) 0).put (PART_STAT_LOST n) 0).ok mb []).settle) ∧
  (∀ (s : State) (mb : Nat) (c : OpenCmd) (e : Nat),
    s.runs mb 0x050A c →
    e < 12 →
    s.stopped = false →
    exec (.ktQuery mb e) s = .next (s.okQuery mb ([s.rd (R_KT_STAT e), s.rd (R_KT_ERR e)] ++ (List.range 64).map (fun q => s.rd (R_KT_Q_STAT e q)) ++ (List.range 8).map (fun p => s.rd (R_FP_LAST e p)))).settle)

/-- A barrier whose earlier stores are out completes locally; a BARRIER packet is ordered or queued for the die flush; the die
flush starts and collects acknowledgements; a stray acknowledgement is counted; a node that times out is failed. Where the
manual leaves a point open the clause follows the model's choice: assumption log 3, 23, 70, 106. -/
def Obligations.BarrierRowsAct : Prop :=
  (∀ (s : State) (ti : Nat) (b : Bar),
    s.ord.bars.find? (fun b => b.tile == ti && b.phase == 0 && s.outDone ti b.vdm b.pend && s.barFirst b) = some b →
    s.stopped = false →
    exec (.localBarrierComplete ti) s = .next (s.barLocal b).settle) ∧
  (∀ (s : State) (ti : Nat) (o : FlushOrd),
    s.ord.bars.find? (fun b => b.tile == ti && b.phase == 0 && s.outDone ti b.vdm b.pend && s.barFirst b) = none →
    s.ord.orders.find? (fun o => o.tile == ti && o.phase == 0 && s.outDone ti none o.pend) = some o →
    s.stopped = false →
    exec (.localBarrierComplete ti) s = .next (s.ordLocal o).settle) ∧
  (∀ (s : State) (ti : Nat) (p : Pkt) (u : State),
    s.gives ti (fun p => p.kind == kBARRIER) p u →
    bit p.addr 10 = true →
    s.stopped = false →
    exec (.barrier ti) s = .next ({ u with ord := { u.ord with orders := u.ord.orders ++ [(⟨ti, bits p.addr 8 2 == 3, p.tag, p.seq, p.src, 0, u.outNow ti none, 0⟩ : FlushOrd)] } }).settle) ∧
  (∀ (s : State) (ti : Nat) (p : Pkt) (u : State),
    s.gives ti (fun p => p.kind == kBARRIER) p u →
    bit p.addr 10 = false →
    ti = cxTile →
    s.stopped = false →
    exec (.barrier ti) s = .next (({ u with ord := { u.ord with dieq := u.ord.dieq ++ [(⟨p.src, bits p.addr 8 2, p.tag, p.seq⟩ : DieReq)] } }).showDie).settle) ∧
  (∀ (s : State) (r : DieReq) (rest : List DieReq) (q : Nat) (u : State) (v : State),
    s.ord.die = none →
    s.ord.dieq = r :: rest →
    s.nextBar cxTile = (q, u) →
    v = { u with ord := { u.ord with die := some r, dieq := rest, dieLeft := reqTiles, dieSt := .ok, dieSeq := q } } →
    s.stopped = false →
    exec (.dieFlushStart) s = .next ((v.forEach reqTiles (fun ti w => w.sendBarrier cxTile (tileEid w.node ti) r.scope 1 0 q)).showDie).settle) ∧
  (∀ (s : State) (ti : Nat) (p : Pkt) (u : State) (v : State),
    s.gives ti (fun p => p.kind == kBACK) p u →
    ti = cxTile →
    p.tag = 0 →
    u.ord.die.isSome = true →
    p.seq = u.ord.dieSeq →
    eidNode p.src = u.node →
    u.ord.dieLeft.contains (eidPort p.src) = true →
    v = { u with ord := { u.ord with dieLeft := u.ord.dieLeft.filter (· ≠ eidPort p.src), dieSt := firstBad u.ord.dieSt (ackStatus p) } } →
    s.stopped = false →
    exec (.barrierAck ti) s = .next ((if v.ord.dieLeft.isEmpty then v.dieDone else v)).settle) ∧
  (∀ (s : State) (ti : Nat) (p : Pkt) (u : State) (b : Bar),
    s.gives ti (fun p => p.kind == kBACK) p u →
    ti ≠ cxTile →
    u.ord.bars.find? (fun b => b.tile == ti && b.phase == 2 && b.seq == p.seq && p.tag == 0) = some b →
    s.stopped = false →
    exec (.barrierAck ti) s = .next (u.barDone b (firstBad b.status (ackStatus p))).settle) ∧
  (∀ (s : State) (ti : Nat) (p : Pkt) (u : State),
    s.gives ti (fun p => p.kind == kBACK) p u →
    ti ≠ cxTile →
    u.ord.bars.find? (fun b => b.tile == ti && b.phase == 2 && b.seq == p.seq && p.tag == 0) = none →
    s.stopped = false →
    exec (.barrierAck ti) s = .next (u.count C_CX_BAR_STRAY).settle) ∧
  (∀ (s : State) (n : Nat),
    s.ord.sys.isSome = true →
    s.ord.sysLeft.contains n = true →
    s.stopped = false →
    exec (.barrierTimeout n) s = .next ((State.sysNext (2 * s.ord.sysq.length + 4) (s.nodeFailed n)).showDie).settle)

/-- The 320 bytes of a flit are decoded, checked and taken, or ask for a replay; ACK and NAK move the window; the timers replay or
repeat; credit is granted; the head of the ingress queue leaves with its credit; STOP, a retrain request and the lock
criterion act on the link state. Where the manual leaves a point open the clause follows the model's choice: assumption log 3,
4, 40, 41, 42, 89, 90. -/
def Obligations.FlitAndAckRowsAct : Prop :=
  (∀ (s : State) (p : Nat) (header : List Nat) (payload : List Nat) (crc : List Nat) (par0 : List Nat) (par1 : List Nat) (par2 : List Nat),
    s.isRunnel p = true →
    s.lst p = lkACTIVE →
    s.stopped = false →
    exec (.flitReceive p header payload crc par0 par1 par2) s = .next (s.flitIn p (rxFlit (flitParts header payload crc par0 par1 par2))).settle) ∧
  (∀ (s : State) (p : Nat) (a : Nat),
    s.isRunnel p = true →
    s.lst p = lkACTIVE →
    s.stopped = false →
    exec (.ack p a) s = .next (s.ackTo p (a % 65536)).settle) ∧
  (∀ (s : State) (p : Nat) (a : Nat) (u : State),
    s.isRunnel p = true →
    s.lst p = lkACTIVE →
    (s.pcount C_LNK_NAK_RX p).ackFresh p (a % 65536) = true →
    u = (s.pcount C_LNK_NAK_RX p).ackTo p (a % 65536) →
    u.lst p = lkACTIVE →
    (u.lk p).lastNak = none →
    s.stopped = false →
    exec (.nak p a) s = .next (u.replay p (a % 65536)).settle) ∧
  (∀ (s : State) (p : Nat) (a : Nat) (b : Nat) (n : Nat) (u : State),
    s.isRunnel p = true →
    s.lst p = lkACTIVE →
    (s.pcount C_LNK_NAK_RX p).ackFresh p (a % 65536) = true →
    u = (s.pcount C_LNK_NAK_RX p).ackTo p (a % 65536) →
    u.lst p = lkACTIVE →
    (u.lk p).lastNak = some (b, n) →
    (¬ (b = a % 65536 ∧ u.ns < n + u.tAck p)) →
    s.stopped = false →
    exec (.nak p a) s = .next (u.replay p (a % 65536)).settle) ∧
  (∀ (s : State) (p : Nat) (k : KFlit) (rest : List KFlit),
    s.isRunnel p = true →
    s.lst p = lkACTIVE →
    s.keptOf p = k :: rest →
    s.stopped = false →
    exec (.ackTimerExpiry p) s = .next ((s.passTo (k.at_ + s.tAck p)).replay p ((k.fseq + 65535) % 65536)).settle) ∧
  (∀ (s : State) (p : Nat) (u : State),
    s.isRunnel p = true →
    s.lst p = lkACTIVE →
    (s.lk p).nak = true →
    u = s.passTo ((s.lk p).nakAt + s.tAck p) →
    s.stopped = false →
    exec (.nakResendExpiry p) s = .next ((if u.lst p = lkACTIVE ∧ (u.lk p).nak then u.sendAck p true else u)).settle) ∧
  (∀ (s : State) (p : Nat) (vn : Nat) (cum : Nat),
    s.isRunnel p = true →
    s.lst p = lkACTIVE →
    vn < 5 →
    1 ≤ (cum + 2 ^ 32 - tgetD s.lnk.cum (vnKey p vn) 0 % 2 ^ 32) % 2 ^ 32 →
    (cum + 2 ^ 32 - tgetD s.lnk.cum (vnKey p vn) 0 % 2 ^ 32) % 2 ^ 32 < 2 ^ 31 →
    s.stopped = false →
    exec (.credit p vn cum) s = .next (({ s with lnk := { s.lnk with cum := tset s.lnk.cum (vnKey p vn) (cum % 2 ^ 32) } }).showCred p vn).settle) ∧
  (∀ (s : State) (p : Nat) (vn : Nat) (x : InPkt) (u : State),
    s.lnk.inq.find? (inHead p vn) = some x →
    x.done = true →
    x.asked = false →
    x.spill = none →
    u = ({ s with lnk := { s.lnk with inq := dropFirst (inHead p vn) s.lnk.inq } }).freeIngress x →
    s.stopped = false →
    exec (.ingressRelease p vn) s = .next ((if linkLocal x.pkt then u.takeNear x.port x.at_ x.pkt else u.fromPort x.port x.pkt)).settle) ∧
  (∀ (s : State) (p : Nat),
    s.isRunnel p = true →
    s.lst p = lkACTIVE →
    (s.lk p).stopping = false →
    s.stopped = false →
    exec (.stop p) s = .next (s.beginIdle p).settle) ∧
  (∀ (s : State) (p : Nat),
    s.isRunnel p = true →
    s.lst p = lkACTIVE →
    s.stopped = false →
    exec (.retrainReq p) s = .next (s.toRetrain p).settle) ∧
  (∀ (s : State) (p : Nat),
    s.isRunnel p = true →
    (s.lst p = lkACTIVE ∨ s.lst p = lkRETRAIN) →
    (s.lk p).lost.isSome = true →
    s.lockSel p = true →
    s.stopped = false →
    exec (.lockCriterionExpiry p) s = .next (s.linkDown p).settle) ∧
  (∀ (s : State) (p : Nat) (vn : Nat) (a : Nat) (x : InPkt) (u : State),
    s.lnk.inq.find? (inHead p vn) = some x →
    x.done = true →
    x.asked = false →
    x.spill = some a →
    u = { s with lnk := { s.lnk with inq := s.lnk.inq.map (fun y => if y = x then { y with asked := true } else y) } } →
    s.stopped = false →
    exec (.ingressRelease p vn) s = .next (u.unitRead (ptTile (portC p)) a (pktBytes x.pkt) (.spilled p vn)).settle)

/-- A map request is answered, or crosses the own one and the higher node number wins: the loser withdraws and answers, the winner
ignores the request; responses, readiness and markers carry the change through; lanes fail, lose lock, are recalibrated and
come back. Where the manual leaves a point open the clause follows the model's choice: assumption log 40, 42. -/
def Obligations.LaneAndMapRowsAct : Prop :=
  (∀ (s : State) (p : Nat) (rid : Nat) (kind : Nat) (lane : Nat) (m : Nat) (node : Nat),
    s.isRunnel p = true →
    s.lst p = lkACTIVE →
    (s.lk p).chg = none →
    s.stopped = false →
    exec (.mapReq p rid kind lane m node) s = .next (s.mapAnswer p (rid % 256) kind lane (m % 2 ^ 16)).settle) ∧
  (∀ (s : State) (p : Nat) (rid : Nat) (kind : Nat) (lane : Nat) (m : Nat) (node : Nat) (c : MapChg),
    s.isRunnel p = true →
    s.lst p = lkACTIVE →
    (s.lk p).chg = some c →
    c.mine = true →
    c.phase = 0 →
    s.node ≤ node % 4096 →
    s.stopped = false →
    exec (.mapReq p rid kind lane m node) s = .next ((s.crossLost p).mapAnswer p (rid % 256) kind lane (m % 2 ^ 16)).settle) ∧
  (∀ (s : State) (p : Nat) (rid : Nat) (ok : Bool) (c : MapChg),
    s.isRunnel p = true →
    s.lst p = lkACTIVE →
    (s.lk p).chg = some c →
    c.mine = true →
    c.phase = 0 →
    c.rid = rid % 256 →
    s.stopped = false →
    exec (.mapRsp p rid ok) s = .next ((if ok then s.myReady p c else s.dropChange p)).settle) ∧
  (∀ (s : State) (p : Nat) (rid : Nat) (c : MapChg),
    s.isRunnel p = true →
    (s.lk p).chg = some c →
    c.phase = 1 →
    c.rid = rid % 256 →
    s.stopped = false →
    exec (.lanesReady p rid) s = .next (s.setChg p { c with phase := if c.myRdy then 2 else 1 }).settle) ∧
  (∀ (s : State) (p : Nat) (c : MapChg),
    s.isRunnel p = true →
    (s.lk p).chg = some c →
    c.phase = 1 →
    s.stopped = false →
    exec (.lanesReadyTimeout p) s = .next (s.dropChange p).settle) ∧
  (∀ (s : State) (p : Nat) (m : Nat),
    s.isRunnel p = true →
    s.lst p = lkACTIVE →
    (s.lk p).fault = some m →
    s.stopped = false →
    exec (.mapMarkerSend p) s = .next ((s.sendMarker p 1 0 m).takeTx p m).settle) ∧
  (∀ (s : State) (p : Nat) (c : MapChg) (u : State),
    s.isRunnel p = true →
    s.lst p = lkACTIVE →
    (s.lk p).fault = none →
    (s.lk p).chg = some c →
    c.phase = 2 →
    (s.lk p).txMap ≠ c.map →
    u = (s.endPkt p).pump p true →
    (u.lk p).txq = [] →
    (u.lk p).rpl = [] →
    s.stopped = false →
    exec (.mapMarkerSend p) s = .next (((u.sendMarker p 0 c.rid c.map).takeTx p c.map).tryDone p).settle) ∧
  (∀ (s : State) (p : Nat) (m : Nat) (bytes : List Nat),
    s.isRunnel p = true →
    s.lst p = lkACTIVE →
    markerMap bytes = some m →
    s.stopped = false →
    exec (.mapMarkerReceive p bytes) s = .next ((s.lkMap p (fun x => { x with rxMap := m, rxPos := 0 })).tryDone p).settle) ∧
  (∀ (s : State) (p : Nat),
    s.isRunnel p = true →
    (s.lk p).leaving ≠ 0 →
    s.stopped = false →
    exec (.laneIdleAfterMarker p) s = .next (s.lkMap p (fun x => { x with leaving := 0 })).settle) ∧
  (∀ (s : State) (p : Nat) (l : Nat),
    s.isRunnel p = true →
    s.lst p = lkACTIVE →
    l < s.lanesOf p →
    s.stopped = false →
    exec (.laneFail p l) s = .next (s.removeLane p l).settle) ∧
  (∀ (s : State) (p : Nat) (l : Nat),
    s.isRunnel p = true →
    s.lst p = lkACTIVE →
    l < s.lanesOf p →
    s.stopped = false →
    exec (.laneLockLoss p l) s = .next (((s.count (C_LANE_LOCKLOSS (portC p) (2 * portK p + l))).lkMap p (fun x => { x with signal := laneSub x.signal (2 ^ l) })).laneFailed p l 1).settle) ∧
  (∀ (s : State) (p : Nat) (l : Nat) (u : State),
    s.isRunnel p = true →
    s.pget LNK_RECAL_PERIOD_S p ≠ 0 →
    l = (s.lk p).turn % s.lanesOf p →
    u = s.lkMap p (fun x => { x with turn := l + 1 }) →
    s.stopped = false →
    exec (.recalPeriodExpiry p) s = .next ((if u.canRecal p l then u.recalStart p l else u)).settle) ∧
  (∀ (s : State) (p : Nat) (l : Nat),
    s.isRunnel p = true →
    (s.lk p).recal = some (l, 1) →
    (s.lk p).spare = some l →
    s.stopped = false →
    exec (.recalAck p l) s = .next (s.lkMap p (fun x => { x with recal := none })).settle) ∧
  (∀ (s : State) (p : Nat) (l : Nat) (u : State),
    s.isRunnel p = true →
    (s.lk p).recal = some (l, 1) →
    (s.lk p).spare ≠ some l →
    u = s.lkMap p (fun x => { x with recal := some (l, 2) }) →
    s.stopped = false →
    exec (.recalAck p l) s = .next ((if (u.lk p).chg.isNone then u.laneBack p l else u)).settle) ∧
  (∀ (s : State) (p : Nat) (l : Nat) (k : Nat),
    s.isRunnel p = true →
    (s.lk p).recal = some (l, k) →
    k ≠ 2 →
    s.stopped = false →
    exec (.recalTimeout p) s = .next (((s.lkMap p (fun x => { x with recal := none })).lnkEvt p LNK_EVT_RECAL_FAIL).laneFailed p l 3).settle) ∧
  (∀ (s : State) (p : Nat) (rid : Nat) (kind : Nat) (lane : Nat) (m : Nat) (node : Nat) (c : MapChg),
    s.isRunnel p = true →
    s.lst p = lkACTIVE →
    (s.lk p).chg = some c →
    c.mine = true →
    c.phase = 0 →
    node % 4096 < s.node →
    s.stopped = false →
    exec (.mapReq p rid kind lane m node) s = .next (s).settle) ∧
  (∀ (s : State) (p : Nat) (rid : Nat) (kind : Nat) (lane : Nat) (m : Nat) (node : Nat) (c : MapChg),
    s.isRunnel p = true →
    s.lst p = lkACTIVE →
    (s.lk p).chg = some c →
    (¬ (c.mine = true ∧ c.phase = 0)) →
    s.stopped = false →
    exec (.mapReq p rid kind lane m node) s = .next (s.mapAnswer p (rid % 256) kind lane (m % 2 ^ 16)).settle)

/-- Detection, lock, training blocks, retraining, grace and electrical idle move the link as the clauses write out; LINK_SET,
LINK_RETRAIN, LINK_WIDTH, LINK_RECAL, LINK_LANE_RETURN and LINK_QUERY, running in their mailbox, have their effect and answer.
Where the manual leaves a point open the clause follows the model's choice: assumption log 8, 23, 40, 42, 75, 91, 117. -/
def Obligations.LinkStateRowsAct : Prop :=
  (∀ (s : State) (p : Nat) (lanes : Nat),
    s.isRunnel p = true →
    s.lst p = lkDETECT →
    (s.fitWidth p (laneCount (lowLanes lanes 16))).isSome = true →
    s.stopped = false →
    exec (.signalDetect p lanes) s = .next ((s.lkMap p (fun x => { x with signal := lanes % 2 ^ 16 })).setLst p lkLOCK).settle) ∧
  (∀ (s : State) (p : Nat) (lanes : Nat) (good : Nat) (u : State) (v : State),
    s.isRunnel p = true →
    s.lst p = lkLOCK →
    good = laneSub (lanes % 2 ^ 16) (s.pget LNK_LANES_FAILED p) →
    (s.fitWidth p (laneCount good)).isSome = true →
    u = (s.pput LNK_LANES_OK p good).setLst p lkCONFIG →
    v = (if u.held p then u else u.newNonce p) →
    s.stopped = false →
    exec (.symbolLock p lanes) s = .next ((v.lkMap p (fun x => { x with blocks := [], acked := false })).sendTrain p).settle) ∧
  (∀ (s : State) (p : Nat),
    s.isRunnel p = true →
    (s.lst p = lkLOCK ∨ s.lst p = lkCONFIG) →
    s.stopped = false →
    exec (.trainTmoExpiry p) s = .next (s.setLst p lkDETECT).settle) ∧
  (∀ (s : State) (p : Nat) (l : Nat) (now : Nat) (magic : Nat) (ctl : Nat) (node : Nat) (port : Nat) (nonce : Nat) (pnonce : Nat) (nextRx : Nat) (offers : Nat) (lanes : Nat) (tstamp : Nat) (echoed : Nat) (age : Nat) (crc : Nat) (rsv : List Nat) (b : TrainBlk) (u : State),
    s.isRunnel p = true →
    l < s.lanesOf p →
    (s.lst p = lkCONFIG ∨ s.lst p = lkRETRAIN) →
    trainBlkOf (trainParts magic ctl node port nonce pnonce nextRx offers lanes tstamp echoed age rsv crc) = some b →
    now = s.lclk →
    u = s.lkMap p (fun x => { x with echo := b.tstamp, echoAt := now }) →
    s.stopped = false →
    exec (.trainingBlock p l magic ctl node port nonce pnonce nextRx offers lanes tstamp echoed age rsv crc) s = .next ((u.pput LNK_LANES_OK p (laneSub (u.pget LNK_LANES_OK p ||| 2 ^ l) (u.pget LNK_LANES_FAILED p))).trainStep p l b).settle) ∧
  (∀ (s : State) (p : Nat) (l : Nat) (now : Nat) (magic : Nat) (ctl : Nat) (node : Nat) (port : Nat) (nonce : Nat) (pnonce : Nat) (nextRx : Nat) (offers : Nat) (lanes : Nat) (tstamp : Nat) (echoed : Nat) (age : Nat) (crc : Nat) (rsv : List Nat) (b : TrainBlk) (u : State),
    s.isRunnel p = true →
    l < s.lanesOf p →
    (s.lst p = lkACTIVE ∨ s.lst p = lkEIDLE) →
    trainBlkOf (trainParts magic ctl node port nonce pnonce nextRx offers lanes tstamp echoed age rsv crc) = some b →
    now = s.lclk →
    u = s.lkMap p (fun x => { x with echo := b.tstamp, echoAt := now }) →
    s.stopped = false →
    exec (.trainingBlock p l magic ctl node port nonce pnonce nextRx offers lanes tstamp echoed age rsv crc) s = .next (((u.pput LNK_LANES_OK p (laneSub (u.pget LNK_LANES_OK p ||| 2 ^ l) (u.pget LNK_LANES_FAILED p))).toRetrain p).trainStep p l b).settle) ∧
  (∀ (s : State) (p : Nat),
    s.isRunnel p = true →
    s.lst p = lkRETRAIN →
    s.stopped = false →
    exec (.retrainTmoExpiry p) s = .next (s.linkDown p).settle) ∧
  (∀ (s : State) (p : Nat),
    s.isRunnel p = true →
    s.held p = true →
    (s.lst p = lkDETECT ∨ s.lst p = lkLOCK ∨ s.lst p = lkCONFIG) →
    s.stopped = false →
    exec (.graceExpiry p) s = .next (s.lnkFlush p true false).settle) ∧
  (∀ (s : State) (p : Nat),
    s.isRunnel p = true →
    s.lst p = lkEIDLE →
    (s.lk p).idleOrd = false →
    s.stopped = false →
    exec (.eidleRelease p) s = .next (s.toRetrain p).settle) ∧
  (∀ (s : State) (p : Nat),
    s.isRunnel p = true →
    (s.lk p).stopping = true →
    s.stopped = false →
    exec (.eidleAckWaitExpiry p) s = .next (s.goIdle p).settle) ∧
  (∀ (s : State) (mb : Nat) (c : OpenCmd) (p : Nat) (ctl : Nat) (rtt : Nat) (crit : List Nat) (mem : Option (List Nat)) (en : Bool) (u : State) (v : State),
    s.runs mb 0x0220 c →
    s.isRunnel p = true →
    s.lst p = lkDISABLED →
    u = (s.linkRegs p ctl crit mem).setSpare p (ctl / 32) →
    u.linkFail p rtt = 0 →
    v = u.showRpl p false →
    s.stopped = false →
    exec (.linkSet mb p ctl crit mem rtt en) s = .next ((if en ∧ !v.pon LNK_CTL_EN p then (v.pput LNK_CTL_EN p 1).linkEnable p else v).ok mb []).settle) ∧
  (∀ (s : State) (mb : Nat) (c : OpenCmd) (p : Nat),
    s.runs mb 0x0221 c →
    s.isRunnel p = true →
    s.stopped = false →
    exec (.linkRetrain mb p) s = .next ((s.retrainWrite p).okQuery mb []).settle) ∧
  (∀ (s : State) (mb : Nat) (c : OpenCmd) (p : Nat) (w : Nat) (m : Nat),
    s.runs mb 0x0222 c →
    s.isRunnel p = true →
    (s.widthsOf p).contains w = true →
    s.lst p = lkACTIVE →
    (s.lk p).chg = none →
    m = (if w ≤ laneCount (s.lk p).txMap then laneMask ((laneList (s.lk p).txMap).filter (fun l => bit (s.pget LNK_LANES_OK p) l)) else laneMask ((laneList (s.pget LNK_LANES_OK p)).filter (fun l => decide (l < s.lanesOf p)))) →
    w ≤ laneCount m →
    lowLanes m w ≠ (s.lk p).txMap →
    s.stopped = false →
    exec (.linkWidth mb p w) s = .next ((s.askChange p 0 0 (lowLanes m w)).park mb (.linkWidth p)).settle) ∧
  (∀ (s : State) (mb : Nat) (c : OpenCmd) (p : Nat) (l : Nat),
    s.runs mb 0x0223 c →
    s.isRunnel p = true →
    l < s.lanesOf p →
    s.canRecal p l = true →
    s.stopped = false →
    exec (.linkRecal mb p l) s = .next ((s.recalStart p l).okQuery mb []).settle) ∧
  (∀ (s : State) (mb : Nat) (c : OpenCmd) (p : Nat) (l : Nat),
    s.runs mb 0x0224 c →
    s.isRunnel p = true →
    l < s.lanesOf p →
    s.stopped = false →
    exec (.linkLaneReturn mb p l) s = .next ((s.pput LNK_LANES_FAILED p (laneSub (s.pget LNK_LANES_FAILED p) (2 ^ l))).okQuery mb []).settle) ∧
  (∀ (s : State) (mb : Nat) (c : OpenCmd) (p : Nat),
    s.runs mb 0x0225 c →
    s.isRunnel p = true →
    s.stopped = false →
    exec (.linkQuery mb p) s = .next (s.okQuery mb ([R_LNK_STAT (portC p) (portK p), R_LNK_PARTNER (portC p) (portK p), R_LNK_NONCE (portC p) (portK p), R_LNK_PNONCE (portC p) (portK p), R_LNK_RTT (portC p) (portK p), R_LNK_RPL_MAX (portC p) (portK p), R_LNK_LANES (portC p) (portK p)].map s.rd ++ (List.range 22).flatMap (fun i => [s.cnt (C_LNK_FLITS_TX (portC p) (portK p) + 8 * i) % 2 ^ 32, s.cnt (C_LNK_FLITS_TX (portC p) (portK p) + 8 * i) / 2 ^ 32]))).settle)

/-- A TLP without a fault of its own is steered by port and type, completions go to their requests, a completion timeout aborts;
configuration and barrier messages, DPC, PTM, secondary bus and function resets, link changes and credit updates act as the
clauses write out. Where the manual leaves a point open the clause follows the model's choice: assumption log 16, 20, 44, 45,
48, 49, 88, 110, 111, 119. -/
def Obligations.PcieRowsAct : Prop :=
  (∀ (s : State) (p : Nat) (h : Nat) (x : Tlp) (y : Tlp) (data : List Word),
    s.isHost p = true →
    s.lstat p = lsACTIVE →
    s.faulty p x = none →
    s.tlpHpart p x = some h →
    y = { x with part := h, pasid := x.pasid.filter (· != 0) } →
    s.tlpWaits p y = false →
    s.stopped = false →
    exec (.hostTlp p x data) s = .next ((s.tlpGo p y data).fcBack p y.cls data.length).settle) ∧
  (∀ (s : State) (p : Nat) (h : Nat) (x : Tlp) (y : Tlp) (data : List Word),
    s.isHost p = true →
    s.lstat p = lsACTIVE →
    s.faulty p x = none →
    s.tlpHpart p x = some h →
    y = { x with part := h, pasid := x.pasid.filter (· != 0) } →
    s.tlpWaits p y = true →
    s.stopped = false →
    exec (.hostTlp p x data) s = .next ({ s with pc := { s.pc with wait := s.pc.wait ++ [(⟨p, y, data, s.wh.rstBusy⟩ : WaitTlp)] } }).settle) ∧
  (∀ (s : State) (p : Nat) (h : Nat) (x : Tlp) (y : Tlp) (data : List Word),
    s.isDown p = true →
    s.lstat p = lsACTIVE →
    s.faulty p x = none →
    s.tlpHpart p x = some h →
    y = { x with part := h, pasid := x.pasid.filter (· != 0) } →
    s.tlpWaits p y = false →
    s.stopped = false →
    exec (.downstreamTlp p x data) s = .next ((s.tlpGo p y data).fcBack p y.cls data.length).settle) ∧
  (∀ (s : State) (p : Nat) (tag : Nat) (o : OutTag),
    s.pc.tags.find? (fun o => o.port == p && o.tag == tag) = some o →
    s.stopped = false →
    exec (.pctoExpiry p tag) s = .next ((((s.dropTag o).pcount C_PCFG_EGR_CTO p).aerLog p (s.linkParts p) aeTimeout).respondAt (ptTile (portC p)) (some (mkCpl o.req .targetAbort))).settle) ∧
  (∀ (s : State) (p : Nat) (h : Nat) (x : Tlp) (y : Tlp) (data : List Word),
    s.isHost p = true →
    s.lstat p = lsACTIVE →
    (x.typ = tyCfgRd ∨ x.typ = tyCfgWr) →
    s.faulty p x = none →
    s.tlpHpart p x = some h →
    y = { x with part := h, pasid := x.pasid.filter (· != 0) } →
    s.tlpWaits p y = false →
    s.stopped = false →
    exec (.configRequest p x data) s = .next ((s.tlpGo p y data).fcBack p y.cls data.length).settle) ∧
  (∀ (s : State) (p : Nat) (h : Nat) (rid : Nat) (sub : Nat) (scope : Nat) (token : Nat) (x : Tlp) (y : Tlp),
    s.lstat p = lsACTIVE →
    (s.isHost p || s.isDown p) = true →
    x = { tlp0 with typ := tyVdm, rid := rid, msg := sub % 256 + scope % 4 * 2 ^ 8 + token % 2 ^ 16 * 2 ^ 16 } →
    s.faulty p x = none →
    s.tlpHpart p x = some h →
    y = { x with part := h, pasid := x.pasid.filter (· != 0) } →
    s.tlpWaits p y = false →
    s.stopped = false →
    exec (.vdmBarrier p rid sub scope token) s = .next ((s.tlpGo p y []).fcBack p y.cls 0).settle) ∧
  (∀ (s : State) (p : Nat) (h : Nat) (rid : Nat) (sub : Nat) (scope : Nat) (token : Nat) (x : Tlp) (y : Tlp),
    s.lstat p = lsACTIVE →
    (s.isHost p || s.isDown p) = true →
    x = { tlp0 with typ := tyVdm, rid := rid, msg := sub % 256 + scope % 4 * 2 ^ 8 + token % 2 ^ 16 * 2 ^ 16 } →
    s.faulty p x = none →
    s.tlpHpart p x = some h →
    y = { x with part := h, pasid := x.pasid.filter (· != 0) } →
    s.tlpWaits p y = true →
    s.stopped = false →
    exec (.vdmBarrier p rid sub scope token) s = .next ({ s with pc := { s.pc with wait := s.pc.wait ++ [(⟨p, y, [], s.wh.rstBusy⟩ : WaitTlp)] } }).settle) ∧
  (∀ (s : State) (p : Nat) (cause : Nat),
    s.isDown p = true →
    s.lstat p = lsACTIVE →
    1 ≤ cause →
    cause ≤ 3 →
    (¬ (cause = 3 ∧ s.pon PCFG_DPC_NONFATAL p = false)) →
    s.stopped = false →
    exec (.dpcTrigger p cause) s = .next (s.contain p cause).settle) ∧
  (∀ (s : State) (p : Nat) (n : Nat),
    s.lstat p = lsACTIVE →
    s.isHost p = false →
    s.isDown p = true →
    s.on TM_STATUS_VALID = true →
    n = s.rxTime p s.stamp16 / 65536 →
    s.stopped = false →
    exec (.ptmRequest p) s = .next (s.send (.tlp p { tlp0 with typ := tyMsg, msg := 0x53 } [BitVec.ofNat 32 n, BitVec.ofNat 32 (n / 2 ^ 32)])).settle) ∧
  (∀ (s : State) (p : Nat),
    s.lstat p = lsACTIVE →
    s.isHost p = false →
    s.isDown p = true →
    s.on TM_STATUS_VALID = false →
    s.stopped = false →
    exec (.ptmRequest p) s = .next (s.send (.tlp p { tlp0 with typ := tyMsg, msg := 0x53 } [])).settle) ∧
  (∀ (s : State) (h : Nat) (dev : Nat) (v : VPort),
    s.pc.vports.find? (fun v => v.hpart == h && v.dev == dev) = some v →
    eidNode v.eid = s.node →
    s.stopped = false →
    exec (.secondaryBusReset h dev) s = .next (s.busReset h (eidPort v.eid)).settle) ∧
  (∀ (s : State) (p : Nat) (rid : Nat),
    s.isDown p = true →
    s.resetNow = false →
    s.stopped = false →
    exec (.functionLevelReset p rid) s = .next (s.retireTlps p true (fun x => x.rid == rid)).settle) ∧
  (∀ (s : State) (p : Nat) (u : State),
    s.isHost p = true →
    s.lstat p = lsACTIVE →
    u = (s.setLstat p (if s.pon PCFG_EN p then lsTRAINING else lsDISABLED)).dropPort p →
    u.hostPart p = none →
    s.stopped = false →
    exec (.hostLinkDown p) s = .next (u).settle) ∧
  (∀ (s : State) (p : Nat) (h : Nat) (u : State),
    s.isHost p = true →
    s.lstat p = lsACTIVE →
    u = (s.setLstat p (if s.pon PCFG_EN p then lsTRAINING else lsDISABLED)).dropPort p →
    u.hostPart p = some h →
    s.stopped = false →
    exec (.hostLinkDown p) s = .next ((if (u.showOnB h).hostUp h then u.showOnB h else (u.showOnB h).freeSems (0x20 + h))).settle) ∧
  (∀ (s : State) (p : Nat) (width : Nat) (rate : Nat) (en : Nat) (flit : Bool) (ten : Bool) (u : State),
    s.isHost p = true →
    s.lstat p = lsTRAINING →
    s.linkFits p width rate flit = true →
    u = s.linkUp p width rate flit ten en →
    s.stopped = false →
    exec (.hostLinkUp p width rate flit ten en) s = .next ((match u.hostPart p with | none => u | some h => u.showOnB h)).settle) ∧
  (∀ (s : State) (p : Nat) (cls : Nat) (hdr : Nat) (data : Nat),
    (s.isHost p || s.isDown p) = true →
    s.lstat p = lsACTIVE →
    cls < 3 →
    s.stopped = false →
    exec (.pcieCreditUpdate p cls hdr data) s = .next ({ s with pc := { s.pc with credit := tset (tset s.pc.credit (pcKey p cls) (tgetD s.pc.credit (pcKey p cls) 0 + hdr)) (pcKey p cls + 1) (tgetD s.pc.credit (pcKey p cls + 1) 0 + data) } }).settle) ∧
  (∀ (s : State) (p : Nat) (x : Tlp) (data : List Word) (u : State),
    s.isHost p = true →
    s.lstat p = lsACTIVE →
    s.faulty p x = some u →
    s.stopped = false →
    exec (.hostTlp p x data) s = .next (u.fcBack p x.cls data.length).settle) ∧
  (∀ (s : State) (p : Nat) (x : Tlp) (data : List Word),
    s.isHost p = true →
    s.lstat p = lsACTIVE →
    s.faulty p x = none →
    s.tlpHpart p x = none →
    s.stopped = false →
    exec (.hostTlp p x data) s = .next ((s.urTlp p (s.linkParts p) x).fcBack p x.cls data.length).settle) ∧
  (∀ (s : State) (p : Nat) (x : Tlp) (data : List Word) (u : State),
    s.isDown p = true →
    s.lstat p = lsACTIVE →
    s.faulty p x = some u →
    s.stopped = false →
    exec (.downstreamTlp p x data) s = .next (u.fcBack p x.cls data.length).settle) ∧
  (∀ (s : State) (p : Nat) (rid : Nat),
    s.isDown p = true →
    s.resetNow = true →
    s.stopped = false →
    exec (.functionLevelReset p rid) s = .next (s).settle)

/-- Each event of the slot state table, in the state that takes it, moves the slot and its pins and records its event bits as the
clause writes out; a PMBus poll stores its readings, with the rounding a free value. Where the manual leaves a point open the
clause follows the model's choice: assumption log 23, 46, 47, 112, 119. -/
def Obligations.SlotRowsAct : Prop :=
  (∀ (s : State) (n : Nat) (lvl : Bool),
    n < 64 →
    s.slotSt n = slEMPTY →
    s.prsnt n = false →
    lvl = true →
    s.stopped = false →
    exec (.slotPrsntChange n lvl) s = .next (((((s.put (SLOT_STAT_PRSNT n) 1).mark (64 + n) false).put (SLOT_EVT_PRSNT_CHG n) 1).slotTell n ssPDC).slotTo n slOFF).settle) ∧
  (∀ (s : State) (n : Nat) (lvl : Bool),
    n < 64 →
    s.slotSt n = slOFF →
    s.prsnt n = true →
    lvl = false →
    s.stopped = false →
    exec (.slotPrsntChange n lvl) s = .next ((((s.put (SLOT_STAT_PRSNT n) 0).put (SLOT_EVT_PRSNT_CHG n) 1).slotTell n ssPDC).slotTo n slEMPTY).settle) ∧
  (∀ (s : State) (n : Nat) (lvl : Bool),
    n < 64 →
    s.slotSt n = slUP →
    s.prsnt n = true →
    lvl = false →
    s.stopped = false →
    exec (.slotPrsntChange n lvl) s = .next ((s.put (SLOT_STAT_PRSNT n) 0).slotSurprise n).settle) ∧
  (∀ (s : State) (n : Nat),
    n < 64 →
    s.slotSt n = slOFF →
    s.prsnt n = true →
    s.slotWants n = true →
    s.stopped = false →
    exec (.slotPowerOn n) s = .next ((s.put (SLOT_STAT_EN_OUT n) 1).slotTo n slRAMP).settle) ∧
  (∀ (s : State) (n : Nat) (lvl : Bool),
    n < 64 →
    s.slotSt n = slRAMP →
    lvl = true →
    s.stopped = false →
    exec (.slotPgood n lvl) s = .next ((s.put (SLOT_STAT_PGOOD n) 1).slotTo n slPERST).settle) ∧
  (∀ (s : State) (n : Nat) (lvl : Bool),
    n < 64 →
    (s.slotSt n = slPERST ∨ s.slotSt n = slLINK ∨ s.slotSt n = slUP) →
    lvl = false →
    s.stopped = false →
    exec (.slotPgood n lvl) s = .next (((((s.put (SLOT_STAT_PGOOD n) 0).slotFault n 3).put (SLOT_EVT_ATTN n) 1).slotTell n ssATTN).slotPoll n).settle) ∧
  (∀ (s : State) (n : Nat),
    n < 64 →
    s.slotSt n = slRAMP →
    s.stopped = false →
    exec (.slotPgTimeout n) s = .next (s.slotFault n 2).settle) ∧
  (∀ (s : State) (n : Nat) (u : State),
    n < 64 →
    s.slotSt n = slPERST →
    u = (s.put (SLOT_STAT_PERST_OUT n) 0).slotTo n slLINK →
    s.stopped = false →
    exec (.slotPerstTimer n) s = .next ((if u.isDown (s.slotPort n) ∧ u.pon PCFG_EN (s.slotPort n) ∧ u.lstat (s.slotPort n) ≠ lsCONTAINED then u.setLstat (s.slotPort n) lsTRAINING else u)).settle) ∧
  (∀ (s : State) (n : Nat) (width : Nat) (rate : Nat) (en : Nat) (flit : Bool) (ten : Bool),
    n < 64 →
    s.slotSt n = slLINK →
    s.isDown (s.slotPort n) = true →
    s.lstat (s.slotPort n) = lsTRAINING →
    s.linkFits (s.slotPort n) width rate flit = true →
    s.stopped = false →
    exec (.slotDlActive n width rate flit ten en) s = .next (((((s.linkUp (s.slotPort n) width rate flit ten en).slotRetries n).put (SLOT_EVT_LINK_UP n) 1).slotTell n ssDLLSC).slotTo n slUP).settle) ∧
  (∀ (s : State) (n : Nat) (width : Nat) (rate : Nat) (en : Nat) (flit : Bool) (ten : Bool),
    n < 64 →
    s.slotSt n = slUP →
    s.isDown (s.slotPort n) = true →
    s.lstat (s.slotPort n) = lsTRAINING →
    s.linkFits (s.slotPort n) width rate flit = true →
    s.stopped = false →
    exec (.slotDlActive n width rate flit ten en) s = .next ((s.linkUp (s.slotPort n) width rate flit ten en).slotIgnored).settle) ∧
  (∀ (s : State) (n : Nat),
    n < 64 →
    s.slotSt n = slLINK →
    s.stopped = false →
    exec (.slotLinkTimeout n) s = .next (s.put (SLOT_EVT_LINK_FAIL n) 1).settle) ∧
  (∀ (s : State) (n : Nat) (gone : Bool),
    n < 64 →
    s.slotSt n = slUP →
    s.stopped = false →
    exec (.slotSurpriseDown n gone) s = .next ((if gone then s.put (SLOT_STAT_PRSNT n) 0 else s).slotSurprise n).settle) ∧
  (∀ (s : State) (n : Nat) (lvl : Nat),
    n < 64 →
    lvl < 2 →
    s.stopped = false →
    exec (.slotFlt n lvl) s = .next (s.put (SLOT_STAT_FLT n) lvl).settle) ∧
  (∀ (s : State) (n : Nat) (lvl : Nat),
    n < 64 →
    lvl = 2 →
    (s.slotSt n = slRAMP ∨ s.slotSt n = slPERST ∨ s.slotSt n = slLINK ∨ s.slotSt n = slUP) →
    s.stopped = false →
    exec (.slotFlt n lvl) s = .next ((((s.slotFault n 1).put (SLOT_EVT_ATTN n) 1).slotTell n ssATTN).slotPoll n).settle) ∧
  (∀ (s : State) (n : Nat),
    n < 64 →
    s.slotSt n = slSETTLE →
    s.stopped = false →
    exec (.slotSettleExpiry n) s = .next (((s.put (SLOT_STAT_EN_OUT n) 0).mark n false).slotRest n).settle) ∧
  (∀ (s : State) (n : Nat),
    n < 64 →
    s.slotSt n = slSETTLE →
    s.pc.gone.contains n = true →
    s.stopped = false →
    exec (.slotReinsert n) s = .next ((s.put (SLOT_STAT_PRSNT n) 1).slotReturn n).settle) ∧
  (∀ (s : State) (n : Nat) (u : State),
    n < 64 →
    s.slotSt n = slFAULT →
    1 ≤ s.get (SLOT_STAT_RETRIES_LEFT n) →
    s.prsnt n = true →
    u = (((s.put (SLOT_STAT_RETRIES_LEFT n) (s.get (SLOT_STAT_RETRIES_LEFT n) - 1)).put (SLOT_EVT_RETRY n) 1).put (SLOT_STAT_EN_OUT n) 1).slotTo n slRAMP →
    s.stopped = false →
    exec (.slotRetry n) s = .next (u.dpcDone (s.slotPort n)).settle) ∧
  (∀ (s : State) (n : Nat) (u : State),
    n < 64 →
    s.slotSt n ≠ slDISABLED →
    u = (s.put (SLOT_EVT_ATTN n) 1).slotTell n ssATTN →
    u.on (SLOT_CFG_ATTN_OFF n) = true →
    s.stopped = false →
    exec (.attentionButton n) s = .next ((u.mark (64 + n) true).slotOff n).settle) ∧
  (∀ (s : State) (n : Nat) (u : State),
    n < 64 →
    s.slotSt n ≠ slDISABLED →
    u = (s.put (SLOT_EVT_ATTN n) 1).slotTell n ssATTN →
    u.on (SLOT_CFG_ATTN_OFF n) = false →
    s.stopped = false →
    exec (.attentionButton n) s = .next (u).settle) ∧
  (∀ (s : State) (n : Nat) (vin : Option Nat) (vout : Option Nat) (iout : Option Nat) (pin : Option Nat) (vmode : Option Nat) (e : Nat) (u : State) (v : State),
    n < 64 →
    s.on (SLOT_PMB_EN n) = true →
    u = ((((s.slotPoll n).pmbRead n (SLOT_V_VIN_MV n) none vin).pmbRead n (SLOT_V_VOUT_MV n) vmode vout).pmbRead n (SLOT_I_IOUT_MA n) none iout).pmbRead n (SLOT_P_PIN_MW n) none pin →
    u.pmbRound 48 ((u.get (SLOT_P_PIN_MW n) * max 1 (u.get (SLOT_PMB_POLL_MS n)) : Nat), 1000) = (e, v) →
    s.stopped = false →
    exec (.pmbusPoll n vin vout iout pin vmode) s = .next (v.bump (C_SLOT_ENERGY n) e).settle)

/-- PORT_SET, HPART_SET, FN_BIND, SLOT_SET, SLOT_POWER, PORT_DPC_RELEASE and PORT_QUERY, running in their mailbox with a body
inside its limits, have their effect and answer OK. Where the manual leaves a point open the clause follows the model's
choice: assumption log 8, 44, 50, 79, 119. -/
def Obligations.PortCommandsAct : Prop :=
  (∀ (s : State) (mb : Nat) (c : OpenCmd) (p : Nat) (cfg : Nat) (pcfg : Nat) (tcmap : Nat) (u : State),
    s.runs mb 0x0201 c →
    p < 128 →
    cfg < 32 →
    portK p % 2 ^ bits cfg 2 2 = 0 →
    1 ≤ bits pcfg 1 3 →
    bits pcfg 16 5 ≤ 29 →
    s.portFail p (cfg % 4) (bits cfg 2 2) = 0 →
    s.linkOff p = true →
    u = ((s.setPortCfg p cfg).wr (R_PORT_TCMAP (portC p) (portK p)) (tcmapStore tcmap)).wr (R_PCFG (portC p) (portK p)) ((pcfg &&& pcfgMask) + ((s.setPortCfg p cfg).wr (R_PORT_TCMAP (portC p) (portK p)) (tcmapStore tcmap)).pget PCFG_EN p) →
    s.stopped = false →
    exec (.portSet mb p cfg pcfg tcmap) s = .next ((if cfg % 4 = kindHost ∨ cfg % 4 = kindDown then u.pcfgEn p (bit pcfg 0) else u.pput PCFG_EN p 0).ok mb []).settle) ∧
  (∀ (s : State) (mb : Nat) (c : OpenCmd) (n : Nat) (ctl : Nat) (hostA : Nat) (hostB : Nat) (vs : List (Nat × Nat)) (u : State),
    s.runs mb 0x0202 c →
    1 ≤ n →
    n < 30 →
    hostA < 2 ^ 24 →
    hostB < 2 ^ 25 →
    (¬ (bit hostB 24 = true ∧ eidNode hostA = eidNode (hostB % 2 ^ 24) ∧ portC (eidPort hostA) = portC (eidPort (hostB % 2 ^ 24)))) →
    (vs.findIdx? (fun v => decide (64 ≤ v.1 ∨ 2 ^ 24 ≤ v.2)) = none) →
    vs.length ≤ 64 →
    u = ((s.wr (R_GLB_HPART_CTL n) (ctl % 4)).wr (R_GLB_HPART_HOST_A n) hostA).wr (R_GLB_HPART_HOST_B n) hostB →
    s.stopped = false →
    exec (.hpartSet mb n ctl hostA hostB vs) s = .next ((({ u with pc := { u.pc with vports := u.pc.vports.filter (fun (v : VPort) => v.hpart != n) ++ vs.map (fun (v : Nat × Nat) => (⟨n, v.1, v.2⟩ : VPort)), shadow := u.pc.shadow.filter (fun e => e.1 / 2 ^ 19 != n) } }).showOnB n).ok mb []).settle) ∧
  (∀ (s : State) (mb : Nat) (c : OpenCmd) (p : Nat) (ents : List (Nat × Nat)),
    s.runs mb 0x0203 c →
    s.isDown p = true →
    s.shared p = true →
    (ents.findIdx? (fun e => decide (256 ≤ e.1 ∨ 2 ^ 30 ≤ e.2 ∨ 29 < bits e.2 16 5)) = none) →
    s.stopped = false →
    exec (.fnBind mb p ents) s = .next ((s.forEach ents (fun e u => u.wr (R_PORT_FNMAP (portC p) (fnIdx p e.1)) e.2)).ok mb []).settle) ∧
  (∀ (s : State) (mb : Nat) (c : OpenCmd) (n : Nat) (cfg : Nat) (tim : Nat) (tim2 : Nat) (pmb : Nat),
    s.runs mb 0x0204 c →
    n < 64 →
    cfg < 2 ^ 10 →
    tim < 2 ^ 32 →
    tim2 < 2 ^ 32 →
    pmb < 2 ^ 16 →
    (bit cfg 7 = false ∨ s.portKind (cfg % 128) = kindDown) →
    s.stopped = false →
    exec (.slotSet mb n cfg tim tim2 pmb) s = .next (((((s.wr (R_SLOT_TIMERS n) (tim &&& 0xFFFF01FF)).wr (R_SLOT_TIMERS2 n) (tim2 &&& 0xFFFF0FFF)).wr (R_SLOT_PMB n) pmb).slotCfg n cfg).ok mb []).settle) ∧
  (∀ (s : State) (mb : Nat) (c : OpenCmd) (n : Nat) (act : Nat),
    s.runs mb 0x0205 c →
    n < 64 →
    act < 3 →
    s.stopped = false →
    exec (.slotPower mb n act) s = .next ((if act = 2 then s.slotClr n else s.slotCtlPower n (act == 1)).ok mb []).settle) ∧
  (∀ (s : State) (mb : Nat) (c : OpenCmd) (p : Nat),
    s.runs mb 0x0206 c →
    s.isDown p = true →
    s.stopped = false →
    exec (.portDpcRelease mb p) s = .next ((s.dpcRelease p).ok mb []).settle) ∧
  (∀ (s : State) (mb : Nat) (c : OpenCmd) (p : Nat),
    s.runs mb 0x0207 c →
    p < 128 →
    s.portKind p ≠ 0 →
    s.stopped = false →
    exec (.portQuery mb p) s = .next (s.okQuery mb ([s.rd (R_PCFG_LSTAT (portC p) (portK p)), s.rd (R_PCFG_TAGS (portC p) (portK p))] ++ (s.slotsOf p).map (fun n => s.rd (R_SLOT_STAT n)) ++ [C_PCFG_DPC_DISCARD (portC p) (portK p), C_PCFG_UR_RX (portC p) (portK p), C_PCFG_MALFORMED (portC p) (portK p), C_PCFG_ECRC_FAIL (portC p) (portK p), C_PCFG_UNEXP_CPL (portC p) (portK p), C_PCFG_EGR_CTO (portC p) (portK p), C_PCFG_VDM_DROP (portC p) (portK p)].flatMap s.ctr2)).settle)

/-- A doorbell write that the guard passes becomes its JOB or MSG packet; a ring doorbell sets the tail; consumer indices are
written back; a dirty mark is logged; a basin whose flush is complete leaves RESETTING or DESTROYING and its waiting command
answers. Where the manual leaves a point open the clause follows the model's choice: assumption log 14, 16, 107. -/
def Obligations.BasinRowsAct : Prop :=
  (∀ (s : State) (p : Nat) (h : Nat) (rid : Nat) (ptc : Nat) (a : Nat) (pasid : Option Nat) (data : List Word) (x : Tlp) (y : Tlp),
    s.bellOpen p h = true →
    x = s.bellMemWr h rid pasid ptc a data →
    s.faulty p x = none →
    y = { x with part := h, pasid := x.pasid.filter (· != 0) } →
    s.tlpWaits p y = false →
    s.stopped = false →
    exec (.doorbellPushWrite p h rid pasid ptc a data) s = .next ((s.tlpGo p y data).fcBack p y.cls data.length).settle) ∧
  (∀ (s : State) (p : Nat) (h : Nat) (rid : Nat) (ptc : Nat) (a : Nat) (pasid : Option Nat) (tail : Word) (x : Tlp) (y : Tlp),
    s.bellOpen p h = true →
    x = s.bellMemWr h rid pasid ptc a [tail] →
    s.faulty p x = none →
    y = { x with part := h, pasid := x.pasid.filter (· != 0) } →
    s.tlpWaits p y = false →
    s.stopped = false →
    exec (.doorbellRingWrite p h rid pasid ptc a tail) s = .next ((s.tlpGo p y [tail]).fcBack p y.cls 1).settle) ∧
  (∀ (s : State) (e : Nat) (i : Nat) (p : Pkt) (u : State),
    e < 12 →
    s.gives (ktTile e) (fun p => p.kind == kMSG && p.addr % 65536 == 0x0601) p u →
    i = bits (p.addr / 65536) 12 3 →
    p.gen = u.get (BSN_CTL_GEN p.basin) →
    u.on (BIND_CTL_EN p.basin i) = true →
    u.get (BIND_CTL_ENG p.basin i) = e →
    u.on (BIND_CTL_RING p.basin i) = true →
    s.stopped = false →
    exec (.ringDoorbellMsg e) s = .next (u.ringBell p.basin i (bits (p.addr / 65536) 0 12)).settle) ∧
  (∀ (s : State) (b : Nat) (e : Nat) (u : State),
    s.bsn.cons.contains b = true →
    s.basinEng b = some e →
    u = { s with bsn := { s.bsn with cons := s.bsn.cons.filter (· ≠ b) } } →
    s.stopped = false →
    exec (.consWriteback b) s = .next (u.consWrite e b ((List.range 8).map (fun i => u.get (BIND_CONS_CONS b i)))).settle) ∧
  (∀ (s : State) (b : Nat) (p : Pkt) (u : State),
    b < 24 →
    s.gives (ctTile b) (fun p => p.kind == kMSG && p.addr % 65536 == 0x0602) p u →
    s.stopped = false →
    exec (.dirtyMark b) s = .next (u.dirtyMsg b p).settle) ∧
  (∀ (s : State) (b : Nat) (f : Flush) (u : State),
    s.flushDone b = some f →
    s.basinSt b = bRESETTING →
    u = ((s.zeroCons b).unwait b f).put (BSN_CTL_STATE b) bACTIVE →
    u.parkedOn (fun w => w == Parked.basin b false) = none →
    s.stopped = false →
    exec (.basinResetDone b) s = .next (u).settle) ∧
  (∀ (s : State) (b : Nat) (mb : Nat) (f : Flush) (u : State),
    s.flushDone b = some f →
    s.basinSt b = bRESETTING →
    u = ((s.zeroCons b).unwait b f).put (BSN_CTL_STATE b) bACTIVE →
    u.parkedOn (fun w => w == Parked.basin b false) = some mb →
    s.stopped = false →
    exec (.basinResetDone b) s = .next ((if f.worst = .ok then u.ok mb [] else u.reply mb mFABRIC f.worst.code 0 0 [])).settle) ∧
  (∀ (s : State) (b : Nat) (f : Flush) (u : State),
    s.flushDone b = some f →
    s.basinSt b = bDESTROYING →
    u = ((s.zeroCons b).unwait b f).basinRelease b →
    u.parkedOn (fun w => w == Parked.basin b true) = none →
    s.stopped = false →
    exec (.basinReleaseComplete b) s = .next (u).settle) ∧
  (∀ (s : State) (b : Nat) (mb : Nat) (f : Flush) (u : State),
    s.flushDone b = some f →
    s.basinSt b = bDESTROYING →
    u = ((s.zeroCons b).unwait b f).basinRelease b →
    u.parkedOn (fun w => w == Parked.basin b true) = some mb →
    s.stopped = false →
    exec (.basinReleaseComplete b) s = .next ((if f.worst = .ok then u.ok mb [] else u.reply mb mFABRIC f.worst.code 0 0 [])).settle)

/-- BASIN_CREATE that passes its checks, BASIN_RESET, BASIN_DESTROY, BASIN_MAP_ADD, BASIN_MAP_DEL, BASIN_LOG_SET, BASIN_HARVEST
and BASIN_QUERY, running in their mailbox for a basin in the state each needs, have their effect. Where the manual leaves a
point open the clause follows the model's choice: assumption log 8, 31, 33, 104, 113. -/
def Obligations.BasinCommandsAct : Prop :=
  (∀ (s : State) (mb : Nat) (c : OpenCmd) (b : Nat) (h : Nat) (pasid : Nat) (qbase : Nat) (qsize : Nat) (cons : Nat) (binds : List (Nat × Nat)) (vecs : List (Nat × Nat)),
    s.runs mb 0x0601 c →
    b < 1024 →
    s.basinBusy b = false →
    s.createFail c b h pasid qbase qsize cons binds vecs = 0 →
    s.stopped = false →
    exec (.basinCreate mb b h pasid qbase qsize cons binds vecs) s = .next ((s.basinCreate b h pasid qbase qsize cons binds vecs).ok mb []).settle) ∧
  (∀ (s : State) (mb : Nat) (c : OpenCmd) (b : Nat),
    s.runs mb 0x0602 c →
    b < 1024 →
    s.basinIssuer c = true →
    s.basinSt b = bACTIVE →
    s.basinBusy b = false →
    b ≠ 0 →
    s.stopped = false →
    exec (.basinReset mb b) s = .next (s.basinReset mb b false).settle) ∧
  (∀ (s : State) (mb : Nat) (c : OpenCmd) (b : Nat),
    s.runs mb 0x0603 c →
    b < 1024 →
    s.basinIssuer c = true →
    s.basinSt b = bACTIVE →
    s.basinBusy b = false →
    b ≠ 0 →
    s.stopped = false →
    exec (.basinDestroy mb b) s = .next (s.basinReset mb b true).settle) ∧
  (∀ (s : State) (mb : Nat) (c : OpenCmd) (b : Nat) (ents : List (Nat × Nat × Nat × Bool)),
    s.runs mb 0x0604 c →
    b < 1024 →
    s.basinIssuer c = true →
    s.basinSt b = bACTIVE →
    s.basinBusy b = false →
    s.bsn.map = [] →
    ents.length ≤ 2048 →
    ents.all (fun e => e.1 != 0 && decide (e.1 ≤ 29) && decide (e.2.1 < 65536) && decide (e.2.2.1 < 2 ^ 20)) = true →
    (ents.map (fun e => (e.1, e.2.1, if e.2.2.2 then 0 else e.2.2.1, e.2.2.2))).Nodup →
    s.stopped = false →
    exec (.basinMapAdd mb b ents) s = .next (({ s with bsn := { s.bsn with map := s.bsn.map ++ ents.map (fun (e : Nat × Nat × Nat × Bool) => (⟨e.1, e.2.1, e.2.2.1, e.2.2.2, b⟩ : MapEnt)) } }).ok mb []).settle) ∧
  (∀ (s : State) (mb : Nat) (c : OpenCmd) (b : Nat) (ents : List (Nat × Nat × Nat × Bool)),
    s.runs mb 0x0605 c →
    b < 1024 →
    s.basinIssuer c = true →
    s.basinSt b = bACTIVE →
    s.basinBusy b = false →
    ents.findIdx? (fun e => !s.bsn.map.any (fun m => m.basin == b && m.hpart == e.1 && m.rid == e.2.1 && m.any == e.2.2.2 && (m.any || m.pasid == e.2.2.1))) = none →
    s.stopped = false →
    exec (.basinMapDel mb b ents) s = .next (({ s with bsn := { s.bsn with map := s.bsn.map.filter (fun m => !ents.any (fun e => m.basin == b && m.hpart == e.1 && m.rid == e.2.1 && m.any == e.2.2.2 && (m.any || m.pasid == e.2.2.1))) } }).ok mb []).settle) ∧
  (∀ (s : State) (mb : Nat) (c : OpenCmd) (b : Nat) (base : Nat) (size : Nat) (buf0 : Nat) (buf1 : Nat) (en : Bool),
    s.runs mb 0x0606 c →
    b < 1024 →
    s.basinIssuer c = true →
    s.basinSt b = bACTIVE →
    s.basinBusy b = false →
    s.on (LOG_EN b) = true →
    en = false →
    s.stopped = false →
    exec (.basinLogSet mb b base size buf0 buf1 en) s = .next ((s.put (LOG_EN b) 0).ok mb []).settle) ∧
  (∀ (s : State) (mb : Nat) (c : OpenCmd) (b : Nat) (base : Nat) (size : Nat) (buf0 : Nat) (buf1 : Nat) (en : Bool),
    s.runs mb 0x0606 c →
    b < 1024 →
    s.basinIssuer c = true →
    s.basinSt b = bACTIVE →
    s.basinBusy b = false →
    s.on (LOG_EN b) = false →
    b ≠ 0 →
    24 ≤ size →
    size ≤ 37 →
    base % 2 ^ size = 0 →
    base < 2 ^ 64 →
    s.logBufOk b buf0 (2 ^ (size - 15)) = true →
    s.logBufOk b buf1 (2 ^ (size - 15)) = true →
    rangesMeet buf0 (2 ^ (size - 15)) buf1 (2 ^ (size - 15)) = false →
    s.stopped = false →
    exec (.basinLogSet mb b base size buf0 buf1 en) s = .next (((((((s.wr64 (R_LOG_BASE_LO b) base).wr (R_LOG_BUF0 b) buf0).wr (R_LOG_BUF1 b) buf1).put (LOG_SIZE b) size).put (LOG_EN b) (b2n en))).ok mb []).settle) ∧
  (∀ (s : State) (mb : Nat) (c : OpenCmd) (b : Nat) (id : Nat) (engs : List Nat) (u : State) (v : State) (w : State),
    s.runs mb 0x0607 c →
    b < 1024 →
    s.basinSt b = bACTIVE →
    s.basinBusy b = false →
    s.hasLog b = true →
    u = (s.cisZero (s.logBuf b (1 - s.get (LOG_CUR b))) (s.logBytes b)).put (LOG_CUR b) (1 - (s.cisZero (s.logBuf b (1 - s.get (LOG_CUR b))) (s.logBytes b)).get (LOG_CUR b)) →
    engs = (u.bsn.marked.filter (fun (m : Nat × Nat) => m.1 == b)).map (fun (m : Nat × Nat) => m.2) →
    v = { u with bsn := { u.bsn with marked := u.bsn.marked.filter (fun m => m.1 != b), cache := u.bsn.cache.filter (fun c => c.2.1 != b) } } →
    v.engFlush engs.dedup ((u.bsn.flows.filter (fun (f : Nat × Nat × Nat × Nat) => f.1 == b && engs.contains f.2.1)).map (fun (f : Nat × Nat × Nat × Nat) => u.engFlow f.2.1 f.2.2.1 f.2.2.2)) = (id, w) →
    s.stopped = false →
    exec (.basinHarvest mb b) s = .next ((({ w with bsn := { w.bsn with wait := w.bsn.wait ++ [(b, id)] } }).park mb (.harvest b)).harvestDone b).settle) ∧
  (∀ (s : State) (mb : Nat) (c : OpenCmd) (b : Nat),
    s.runs mb 0x0608 c →
    b < 1024 →
    s.basinSt b = bACTIVE →
    s.basinBusy b = false →
    s.stopped = false →
    exec (.basinQuery mb b) s = .next (s.okQuery mb (([0, 4, 8, 0xC, 0x20, 0x24] ++ (List.range 32).map (fun i => 0x40 + 4 * i) ++ (List.range 32).map (fun i => 0x100 + 4 * i) ++ [0x200, 0x204, 0x208, 0x20C, 0x210]).map (fun o => s.rd (R_BSN_CTL b + o)) ++ [C_LOG_MISS b, C_LOG_MARKS b, C_DB_DROP b, C_BSN_STALE b, C_QUOTA_FAULT b, C_BSN_JOBS b].flatMap (fun x => [s.cnt x % 2 ^ 32, s.cnt x / 2 ^ 32]) ++ [((s.bsn.map.filter (fun (e : MapEnt) => e.basin == b)).flatMap (fun (e : MapEnt) => [e.hpart + e.rid * 2 ^ 16, e.pasid + b2n e.any * 2 ^ 20])).length / 2] ++ (s.bsn.map.filter (fun (e : MapEnt) => e.basin == b)).flatMap (fun (e : MapEnt) => [e.hpart + e.rid * 2 ^ 16, e.pasid + b2n e.any * 2 ^ 20]) ++ [((List.range 12).flatMap (fun e => (List.range 62).filter (fun q => !s.queueBound e (q + 2)))).length, ((List.range 1536).filter (fun u => s.inBasinPart (u * 65536) 65536 && !s.poolMeets 1024 (u * 65536) 65536)).length, 2048 - s.bsn.map.length])).settle)

/-- GUARD_LOAD of a valid set, GUARD_SWAP with and without WAIT, GUARD_QUERY with and without clearing, LOCK_SET and SC_QUERY,
running in their mailbox, have their effect; a GUARD_SWAP whose limit passes answers TIMEOUT. Where the manual leaves a point
open the clause follows the model's choice: assumption log 8, 79. -/
def Obligations.GuardRowsAct : Prop :=
  (∀ (s : State) (mb : Nat) (c : OpenCmd) (n : Nat) (ctl : Nat) (rgns : List RgnArg),
    s.runs mb 0x0901 c →
    n < 30 →
    ctl < 16 →
    (rgns.findIdx? (fun x => decide (16 ≤ x.1 ∨ 2 ^ 64 ≤ x.2.1 ∨ 2 ^ 14 ≤ x.2.2)) = none) →
    s.guardLocked n = false →
    (rgnsFail rgns).1 = 0 →
    s.stopped = false →
    exec (.guardLoad mb n ctl rgns) s = .next ((s.writeSet n ctl rgns).ok mb []).settle) ∧
  (∀ (s : State) (mb : Nat) (c : OpenCmd) (mask : Nat) (limit : Nat),
    s.runs mb 0x0902 c →
    mask < 2 ^ 30 →
    bit c.flags 0 = false →
    ((List.range 30).filter (bit mask)).find? (fun n => s.guardLocked n) = none →
    ((List.range 30).filter (bit mask)).find? (fun n => !s.on (GD_FENCE_DONE n)) = none →
    s.stopped = false →
    exec (.guardSwap mb mask limit) s = .next ((s.forEach ((List.range 30).filter (bit mask)) (fun n u => u.swapGuard n)).ok mb []).settle) ∧
  (∀ (s : State) (mb : Nat) (c : OpenCmd) (mask : Nat) (limit : Nat),
    s.runs mb 0x0902 c →
    mask < 2 ^ 30 →
    bit c.flags 0 = true →
    1 ≤ limit →
    limit ≤ 1000000 →
    ((List.range 30).filter (bit mask)).find? (fun n => s.guardLocked n) = none →
    ((List.range 30).filter (bit mask)).find? (fun n => !s.on (GD_FENCE_DONE n)) = none →
    s.stopped = false →
    exec (.guardSwap mb mask limit) s = .next ((s.forEach ((List.range 30).filter (bit mask)) (fun n u => u.swapGuard n)).park mb (.guardSwap mask)).settle) ∧
  (∀ (s : State) (mb : Nat) (c : OpenCmd) (n : Nat) (body : List Nat),
    s.runs mb 0x0903 c →
    n < 30 →
    body = [s.rd (R_GD_STAT n), s.rd (R_GD_FENCE n), s.rd (R_GD_FIRST0 n), s.rd (R_GD_FIRST1 n), s.rd (R_GD_FIRST2 n), s.rd (R_GD_FIRST3 n), s.rd (R_GD_FIRST4 n)] ++ s.ctr2 (C_GD_VIOL n) ++ s.ctr2 (C_GD_SPLIT n) →
    s.stopped = false →
    exec (.guardQuery mb n) s = .next ((if bit c.flags 0 then (s.put (GD_FIRST2_VALID n) 0).ok mb body else s.okQuery mb body)).settle) ∧
  (∀ (s : State) (mb : Nat) (c : OpenCmd) (v : Nat),
    s.runs mb 0x0904 c →
    v < 2 ^ 32 →
    s.stopped = false →
    exec (.lockSet mb v) s = .next ((s.setLocks v).ok mb []).settle) ∧
  (∀ (s : State) (mb : Nat) (c : OpenCmd),
    s.runs mb 0x0905 c →
    s.stopped = false →
    exec (.scQuery mb) s = .next (s.okQuery mb ([s.rd R_SC_LIFECYCLE, s.rd R_SC_LOCK, s.rd R_SC_DBG_CTL, s.rd R_SC_DBG_DENY0, s.rd R_SC_DBG_DENY1] ++ s.ctr2 C_SC_DBG_DENY_CNT)).settle) ∧
  (∀ (s : State) (mb : Nat) (mask : Nat) (c : OpenCmd),
    s.openCmd mb = some c →
    c.wait = some (.guardSwap mask) →
    s.stopped = false →
    exec (.guardSwapLimitExpiry mb) s = .next (s.reply mb mTIMEOUT 0 0 0 []).settle)

/-- Each event of a domain, in the state that takes it and with no refuser or vote against it, moves the domain as the clause
writes out. Where the manual leaves a point open the clause follows the model's choice: assumption log 23, 55, 57, 63, 117,
118. -/
def Obligations.DomainRowsAct : Prop :=
  (∀ (s : State) (d : Nat) (u : State),
    d < 62 →
    u = (s.fullPlanes).syncVotes d →
    u.pw.full ≠ 1 →
    u.dom d = dON →
    u.votes d = 0 →
    u.targetOf d ≠ tgON →
    u.pw.lost.contains d = false →
    u.bankBack d = false →
    u.shedBank d = false →
    u.refuser d = 0 →
    s.stopped = false →
    exec (.hysteresisExpiry d) s = .next (u.closeDom d).settle) ∧
  (∀ (s : State) (d : Nat) (u : State),
    d < 62 →
    u = (s.fullPlanes).syncVotes d →
    u.pw.full ≠ 1 →
    u.dom d = dON →
    u.votes d = 0 →
    u.targetOf d ≠ tgON →
    u.pw.lost.contains d = false →
    u.bankBack d = false →
    u.shedBank d = false →
    u.refuser d = 0 →
    s.stopped = false →
    exec (.entryRetry d) s = .next (u.closeDom d).settle) ∧
  (∀ (s : State) (d : Nat),
    d < 62 →
    s.dom d = dCLOSING →
    (s.syncVotes d).dom d = dCLOSING →
    s.stopped = false →
    exec (.domainClosed d) s = .next ((s.syncVotes d).setDom d dDRAINING).settle) ∧
  (∀ (s : State) (d : Nat),
    d < 62 →
    s.dom d = dDRAINING →
    (s.syncVotes d).dom d = dDRAINING →
    (s.syncVotes d).drained d = true →
    s.stopped = false →
    exec (.domainDrained d) s = .next ((s.syncVotes d).setDom d dISOLATED).settle) ∧
  (∀ (s : State) (d : Nat),
    d < 62 →
    s.dom d = dDRAINING →
    s.bankBack d = false →
    s.stopped = false →
    exec (.drainTimeout d) s = .next (s.abortEntry d 1).settle) ∧
  (∀ (s : State) (d : Nat) (u : State) (v : State),
    d < 62 →
    s.dom d = dISOLATED →
    u = s.syncVotes d →
    u.dom d = dISOLATED →
    u.bankBack d = false →
    v = { u with pw := { u.pw with saved := u.pw.saved ++ [d] } } →
    s.stopped = false →
    exec (.retentionSaveDone d) s = .next ((((if 52 ≤ d ∧ d < 60 then (v.setDom d dOFF).clearDom d else v.setDom d (if u.targetOf d = tgCLKSTOP then dCLKSTOP else dRETAINED)).count (C_PW_DOM_ENTRIES d)).fullPlanes)).settle) ∧
  (∀ (s : State) (d : Nat),
    d < 62 →
    s.dom d = dRETAINED →
    s.targetOf d = tgOFF →
    s.stopped = false →
    exec (.retentionToOff d) s = .next ((s.setDom d dOFF).clearDom d).settle) ∧
  (∀ (s : State) (d : Nat) (u : State),
    d < 62 →
    s.bankBack d = false →
    u = s.syncVotes d →
    u.asleep d = true →
    u.pw.full = 0 →
    u.pw.halted = false →
    u.pw.lost.contains d = false →
    u.pw.shed.contains d = false →
    u.shedBank d = false →
    (u.votes d ≠ 0 ∨ u.on (PW_DOM_VOTE_EDGE d) = true) →
    s.stopped = false →
    exec (.domainWake d) s = .next (({ u with pw := { u.pw with shed := u.pw.shed.filter (· ≠ d) } }).setDom d dWAKING).settle) ∧
  (∀ (s : State) (d : Nat) (u : State),
    d < 62 →
    u = s.syncVotes d →
    u.dom d = s.dom d →
    u.votes d ≠ 0 →
    (s.dom d = dCLOSING ∨ s.dom d = dDRAINING ∨ s.dom d = dISOLATED) →
    s.stopped = false →
    exec (.entryAbort d) s = .next (u.voteActs d (if s.on (PW_DOM_VOTE_TRAFFIC d) then 1 else 4)).settle) ∧
  (∀ (s : State) (d : Nat),
    d < 60 →
    s.dom d = dWAKING →
    s.pw.lost.contains d = false →
    s.bankBack d = false →
    s.stopped = false →
    exec (.wakeComplete d) s = .next ((s.domUp d).cxRun).settle) ∧
  (∀ (s : State) (d : Nat) (u : State),
    d = 60 →
    s.dom d = dWAKING →
    s.pw.lost.contains d = false →
    s.bankBack d = false →
    u = s.domUp d →
    u.wh.whLost = false →
    s.stopped = false →
    exec (.wakeComplete d) s = .next (u.cxRun).settle) ∧
  (∀ (s : State) (d : Nat),
    d < 62 →
    s.on (PW_DOM_VOTE_ACCESS d) = true →
    s.stopped = false →
    exec (.accessHoldExpiry d) s = .next (s.dropVote d (PW_DOM_VOTE_ACCESS d)).settle) ∧
  (∀ (s : State) (d : Nat),
    d < 62 →
    s.dom d = dON →
    s.pw.lost.contains d = false →
    exec (.supplyLoss d) s = .next ((s.supplyLost d).setDom d dOFF).settle) ∧
  (∀ (s : State),
    s.dom domCore = dON →
    s.pw.lost.contains domCore = false →
    exec (.supplyLoss domCore) s = .next (s.supplyLost domCore).settle) ∧
  (∀ (s : State) (d : Nat),
    d < 63 →
    s.dom d = dWAKING →
    s.pw.lost.contains d = false →
    exec (.supplyGoodTimeout d) s = .next ((s.supplyLost d).retry (fun h => h.why == HoldWhy.domain d)).settle) ∧
  (∀ (s : State) (d : Nat) (u : State),
    d < 62 →
    u = (s.fullPlanes).syncVotes d →
    u.dom d = dON →
    u.pw.lost.contains d = false →
    u.bankBack d = false →
    u.shedBank d = true →
    s.stopped = false →
    exec (.hysteresisExpiry d) s = .next (({ u with pw := { u.pw with shed := d :: u.pw.shed.filter (· ≠ d) } }).closeDom d).settle) ∧
  (∀ (s : State) (d : Nat),
    d < 62 →
    s.dom d = dCLOSING →
    (s.syncVotes d).dom d ≠ dCLOSING →
    s.stopped = false →
    exec (.domainClosed d) s = .next (s.syncVotes d).settle)

/-- Level changes in both directions, VID acknowledgement and timeout, wake-up from full retention, PLL lock and loss, the three
sags and their release, forced retention, thermal samples and steps, sensor and shedding timeouts leave the states that the
clauses write out. Where the manual leaves a point open the clause follows the model's choice: assumption log 3, 23, 55, 56,
65, 67, 72, 112, 113. -/
def Obligations.PowerRowsAct : Prop :=
  (∀ (s : State) (n : Nat) (u : State) (v : State),
    s.pw.chg = none →
    s.pw.halted = false →
    s.pw.full ≠ 2 →
    n = s.wantPl →
    s.get PW_STAT_PL_CUR < n →
    u = ({ s with pw := { s.pw with chg := some (n, false) } }).put PW_STAT_CHANGING 1 →
    v = u.switchClocks n →
    s.stopped = false →
    exec (.levelChange) s = .next (v.sendVid (u.vidOf n)).settle) ∧
  (∀ (s : State) (n : Nat) (u : State),
    s.pw.chg = none →
    s.pw.halted = false →
    s.pw.full ≠ 2 →
    n = s.wantPl →
    n < s.get PW_STAT_PL_CUR →
    u = ({ s with pw := { s.pw with chg := some (n, true) } }).put PW_STAT_CHANGING 1 →
    s.stopped = false →
    exec (.levelChange) s = .next (u.sendVid (u.vidOf n)).settle) ∧
  (∀ (s : State),
    s.pw.chg = none →
    s.on PW_VID_ACK = false →
    exec (.vidAck) s = .next (s.put PW_VID_ACK 1).settle) ∧
  (∀ (s : State) (n : Nat) (fast : Bool),
    s.pw.chg = some (n, fast) →
    exec (.vidAck) s = .next ((((((({ s with pw := { s.pw with chg := none } }).put PW_VID_ACK 1).doIf fast (·.switchClocks n)).put PW_CLK_STAT_STBY_LOCK (if n ≤ 1 then 15 else 0)).put PW_STAT_CHANGING 0).pwEvt 0)).settle) ∧
  (∀ (s : State) (x : Nat × Bool),
    s.pw.chg = some x →
    exec (.vidTimeout) s = .next (((({ s with pw := { s.pw with chg := none } }).put PW_STAT_VID_FAULT 1).put PW_STAT_CHANGING 0).pwEvt 1).settle) ∧
  (∀ (s : State),
    s.pw.full = 1 →
    s.pw.halted = false →
    exec (.wakeIn) s = .next (({ s with pw := { s.pw with full := 0 } }).planesExit).settle) ∧
  (∀ (s : State) (u : State),
    s.pw.full = 2 →
    s.pw.halted = false →
    u = ((({ s with pw := { s.pw with full := 0 } }).setDom domCore dON).put PW_CLK_STAT_ON_FIO 63).put PW_STAT_ON_FIO 1 →
    exec (.wakeIn) s = .next ((if u.asleep 60 then u.setDom 60 dWAKING else u).planesExit).settle) ∧
  (∀ (s : State) (arefs : Nat),
    s.tm.tclk = false →
    s.pw.halted = false →
    s.tm.entryAt.isSome = true →
    exec (.pllLock clkTCLK arefs) s = .next (s.ledgerLoad arefs).settle) ∧
  (∀ (s : State) (i : Nat) (b : Nat) (arefs : Nat) (u : State),
    i ≠ clkTCLK →
    fioBit i = some b →
    bit (s.get PW_CLK_STAT_ON_FIO) b = true →
    u = s.setFio b false →
    u.pw.exit.contains i = false →
    exec (.pllLock i arefs) s = .next (u).settle) ∧
  (∀ (s : State) (i : Nat) (b : Nat),
    fioBit i = some b →
    bit (s.get PW_CLK_STAT_ON_FIO) b = false →
    exec (.pllLockLoss i) s = .next ((s.setFio b true).fault 9 i 0).settle) ∧
  (∀ (s : State),
    s.tm.tclk = true →
    exec (.tclkLockLoss) s = .next ((s.fault 9 clkTCLK 0).stopTime).settle) ∧
  (∀ (s : State),
    s.get PW_STAT_SAG = 0 →
    s.stopped = false →
    exec (.sag1) s = .next (s.sagTo 1).settle) ∧
  (∀ (s : State),
    s.get PW_STAT_SAG < 2 →
    s.stopped = false →
    exec (.sag2) s = .next (s.sagTo 2).settle) ∧
  (∀ (s : State),
    s.get PW_STAT_SAG < 3 →
    s.stopped = false →
    exec (.sag3) s = .next (s.sagTo 3).settle) ∧
  (∀ (s : State) (low : Bool),
    s.pw.halted = false →
    (s.get PW_STAT_SAG = 3 ∨ low = true) →
    exec (.forcedRetention low) s = .next (((((s.holdBlock 1).put PW_STAT_FORCED_SEEN 1).pwEvt 5).sendVid 0)).settle) ∧
  (∀ (s : State) (arefs : Nat),
    s.pw.halted = false →
    s.pw.crit = false →
    s.get PW_STAT_SAG = 1 →
    exec (.sagRelease arefs) s = .next ((({ s.put PW_STAT_SAG 0 with kt := { s.kt with suspend := false } }).showLimits).warmRelease).settle) ∧
  (∀ (s : State) (arefs : Nat) (u : State),
    s.pw.halted = true →
    s.pw.lost.contains domCore = false →
    u = (((({ s with pw := { s.pw with halted := false } }).put PW_VID_CODE (({ s with pw := { s.pw with halted := false } }).vidOf ({ s with pw := { s.pw with halted := false } }).wantPl)).put PW_VID_ACK 1).send (.vid (({ s with pw := { s.pw with halted := false } }).vidOf ({ s with pw := { s.pw with halted := false } }).wantPl))) →
    exec (.sagRelease arefs) s = .next ((((u.ledgerLoad arefs).pwEvt 6)).warmRelease).settle) ∧
  (∀ (s : State) (vals : List (Option Int)),
    s.stopped = false →
    exec (.thermalSample vals) s = .next ((s.forEach vals.zipIdx (fun x u => match x.1 with | some v => if x.2 < 16 ∧ u.wh.tsTrim.getD x.2 true then (u.put (PW_TS_TEMP x.2) (fromSigned 12 v)).put (PW_TS_VALID x.2) 1 else u | none => u)).showTherm).settle) ∧
  (∀ (s : State) (x : Int × Nat),
    s.hottest = some x →
    s.tHot < x.1 →
    s.pw.thLim ≠ 3 →
    s.stopped = false →
    exec (.thermalLimitStep) s = .next (({ s with pw := { s.pw with thLim := s.pw.thLim + 1 } }).showLimits).settle) ∧
  (∀ (s : State) (x : Int × Nat),
    s.hottest = some x →
    x.1 < s.tHot - 20 →
    s.stopped = false →
    exec (.thermalLimitStep) s = .next (({ s with pw := { s.pw with thLim := s.pw.thLim - 1, crit := false } }).showLimits).settle) ∧
  (∀ (s : State) (n : Nat),
    n < 16 →
    s.stopped = false →
    exec (.sensorTimeout n) s = .next (((s.put (PW_TS_VALID n) 0).put PW_THERM_STAT_SENSOR_ERR 1).showTherm).settle) ∧
  (∀ (s : State) (p : Nat),
    s.pw.l1Wait.contains p = true →
    s.stopped = false →
    exec (.shedMissTimeout p) s = .next (({ s with pw := { s.pw with l1Wait := s.pw.l1Wait.filter (· ≠ p), idle := s.pw.idle.filter (· ≠ p) } }).count C_PW_SHED_MISS).settle) ∧
  (∀ (s : State) (i : Nat) (b : Nat) (arefs : Nat) (u : State) (v : State),
    i ≠ clkTCLK →
    fioBit i = some b →
    bit (s.get PW_CLK_STAT_ON_FIO) b = true →
    u = s.setFio b false →
    u.pw.exit.contains i = true →
    v = { u with pw := { u.pw with exit := u.pw.exit.filter (· != i) } } →
    exec (.pllLock i arefs) s = .next ((if v.plane i = pOUT ∧ v.on (planeReq i) ∧ !v.on (planeFault i) then v.planeReturn i else v)).settle)

/-- POWER_VOTE, POWER_DOMAIN_SET, POWER_LEVEL, POWER_FULL_RET, POWER_LEDGER with and without clearing, POWER_QUERY, THERMAL_SET
and SAFE_CLEAR, running in their mailbox, have their effect and answer OK. Where the manual leaves a point open the clause
follows the model's choice: assumption log 8, 55, 108. -/
def Obligations.PowerCommandsAct : Prop :=
  (∀ (s : State) (mb : Nat) (c : OpenCmd) (mask : Nat) (set : Bool),
    s.runs mb 0x0701 c →
    mask < 2 ^ 62 →
    s.stopped = false →
    exec (.powerVote mb mask set) s = .next ((s.forEach ((List.range 62).filter (bit mask)) (fun d u => u.setVote mb d set)).ok mb []).settle) ∧
  (∀ (s : State) (mb : Nat) (c : OpenCmd) (mask : Nat) (cfg : Nat),
    s.runs mb 0x0702 c →
    mask < 2 ^ 63 →
    cfg < 16 →
    s.stopped = false →
    exec (.powerDomainSet mb mask cfg) s = .next ((s.forEach ((List.range 63).filter (bit mask)) (fun d u => u.domCfg d cfg)).ok mb []).settle) ∧
  (∀ (s : State) (mb : Nat) (c : OpenCmd) (pl : Nat) (u : State),
    s.runs mb 0x0703 c →
    pl < 4 →
    s.levelFail pl = 0 →
    u = (s.put PW_CTL_PL_REQ pl).ok mb [] →
    s.stopped = false →
    exec (.powerLevel mb pl) s = .next ((if pl < u.get PW_STAT_PL_LIMIT then u.put ⟨R_MB_RSP mb 0, 16, 16⟩ 1 else u)).settle) ∧
  (∀ (s : State) (mb : Nat) (c : OpenCmd) (u : State),
    s.runs mb 0x0704 c →
    s.fullOk = true →
    u = s.ok mb [] →
    s.stopped = false →
    exec (.powerFullRet mb) s = .next ({ u with pw := { u.pw with full := 1 } }).settle) ∧
  (∀ (s : State) (mb : Nat) (c : OpenCmd) (body : List Nat),
    s.runs mb 0x0705 c →
    body = (List.range 64).flatMap (fun i => [s.rd (R_PW_LEDGER0 i), s.rd (R_PW_LEDGER1 i)]) ++ (List.range 7).flatMap (fun r => s.ctr2 (0x20108 + r * 8)) →
    bit c.flags 0 = false →
    s.stopped = false →
    exec (.powerLedger mb) s = .next (s.okQuery mb body).settle) ∧
  (∀ (s : State) (mb : Nat) (c : OpenCmd) (body : List Nat),
    s.runs mb 0x0705 c →
    body = (List.range 64).flatMap (fun i => [s.rd (R_PW_LEDGER0 i), s.rd (R_PW_LEDGER1 i)]) ++ (List.range 7).flatMap (fun r => s.ctr2 (0x20108 + r * 8)) →
    bit c.flags 0 = true →
    s.stopped = false →
    exec (.powerLedger mb) s = .next (({ s with ctrs := s.ctrs.filter (fun e => decide (e.1 < 0x20108 ∨ 0x20140 ≤ e.1)) }).ok mb body).settle) ∧
  (∀ (s : State) (mb : Nat) (c : OpenCmd),
    s.runs mb 0x0706 c →
    s.stopped = false →
    exec (.powerQuery mb) s = .next (s.okQuery mb ([s.rd R_PW_STAT, s.rd R_PW_CLK_STAT, s.rd R_PW_VID, s.rd R_PW_THERM_STAT] ++ (List.range 16).map (fun n => s.rd (R_PW_TS n)) ++ (List.range 63).flatMap (fun d => [s.rd (R_PW_DOM_STAT d), s.voteWord d]))).settle) ∧
  (∀ (s : State) (mb : Nat) (c : OpenCmd) (w : Nat),
    s.runs mb 0x0707 c →
    w < 2 ^ 32 →
    s.stopped = false →
    exec (.thermalSet mb w) s = .next (((s.wr R_PW_THERM_CFG w).newThresholds).ok mb []).settle) ∧
  (∀ (s : State) (mb : Nat) (c : OpenCmd),
    s.runs mb 0x0708 c →
    s.stopped = false →
    exec (.safeClear mb) s = .next (s.safeClr.ok mb []).settle)

/-- A rung command is taken and runs, or is answered with the status of its first failed check; the Wellhead boots, expires or
faults; IDENTIFY, CAPS, ECHO and FW_LOG answer (the bodies of CAPS and FW_LOG are free words); updates are begun, written,
verified, activated, cancelled and handed over. Where the manual leaves a point open the clause follows the model's choice:
assumption log 8, 17, 24, 59, 60, 61, 104. -/
def Obligations.FirmwareRowsAct : Prop :=
  (∀ (s : State) (mb : Nat) (rest : List Nat) (u : State),
    s.whState = whUP →
    s.dom 60 ≤ dDRAINING →
    s.wh.cmds.any (fun e => s.get (MB_STAT_STATE e.1) == mbRUNNING) = false →
    s.wh.rung = mb :: rest →
    u = { s.put (MB_STAT_STATE mb) mbRUNNING with wh := { s.wh with cmds := tset s.wh.cmds mb (s.cmdHeader mb), rung := rest } } →
    u.cmdCheck mb (s.cmdHeader mb) = mOK →
    s.stopped = false →
    exec (.commandTake) s = .next (u).settle) ∧
  (∀ (s : State) (mb : Nat) (rest : List Nat) (u : State),
    s.whState = whUP →
    s.dom 60 ≤ dDRAINING →
    s.wh.cmds.any (fun e => s.get (MB_STAT_STATE e.1) == mbRUNNING) = false →
    s.wh.rung = mb :: rest →
    u = { s.put (MB_STAT_STATE mb) mbRUNNING with wh := { s.wh with cmds := tset s.wh.cmds mb (s.cmdHeader mb), rung := rest } } →
    u.cmdCheck mb (s.cmdHeader mb) ≠ mOK →
    s.stopped = false →
    exec (.commandTake) s = .next (u.reply mb (u.cmdCheck mb (s.cmdHeader mb)) 0 0 0 []).settle) ∧
  (∀ (s : State) (mb : Nat) (c : OpenCmd),
    s.runs mb 0x0101 c →
    s.stopped = false →
    exec (.identify mb) s = .next (s.okQuery mb [s.rd R_GLB_ID, s.rd R_GLB_STEP, s.rd R_GLB_NODE, s.rd R_SC_LIFECYCLE, s.rd R_GLB_VENDOR, s.rd R_GLB_FW_VER_A, s.rd R_GLB_FW_VER_B, s.rd R_GLB_WH_STAT, s.wh.jfmt % 256]).settle) ∧
  (∀ (s : State) (mb : Nat) (c : OpenCmd) (ws : List Word) (u : State),
    s.runs mb 0x0102 c →
    s.freeList 17 = (ws, u) →
    s.stopped = false →
    exec (.caps mb) s = .next (u.okQuery mb (ws.map (·.toNat))).settle) ∧
  (∀ (s : State) (mb : Nat) (c : OpenCmd) (body : List Nat),
    s.runs mb 0x0103 c →
    s.cmdBody mb c.len = body →
    s.stopped = false →
    exec (.echo mb body) s = .next ((s.okQuery mb body).putRsp mb 1 [c.tag + c.len * 2 ^ 16]).settle) ∧
  (∀ (s : State) (mb : Nat) (c : OpenCmd) (ws : List Word) (u : State),
    s.runs mb 0x0104 c →
    s.freeList 16 = (ws, u) →
    s.stopped = false →
    exec (.fwLog mb) s = .next (u.okQuery mb (ws.map (·.toNat))).settle) ∧
  (∀ (s : State),
    (s.whState = whBOOTING ∨ s.whState = whRESTARTING) →
    s.wh.imgWait = false →
    s.wh.entered = false →
    s.whOn = true →
    s.stopped = false →
    exec (.whBoot) s = .next (s.boot).settle) ∧
  (∀ (s : State),
    s.whRuns = true →
    s.stopped = false →
    exec (.watchdogExpiry) s = .next (((s.passTo s.wdtAt).heartbeat).whFault 1 0).settle) ∧
  (∀ (s : State),
    s.whRuns = true →
    s.stopped = false →
    exec (.whLockstepFault) s = .next (s.whFault 2 0).settle) ∧
  (∀ (s : State) (mb : Nat) (c : OpenCmd),
    s.runs mb 0x0A01 c →
    s.upd = uIDLE →
    s.on (PART_CTL_SEAL 0) = false →
    s.stopped = false →
    exec (.updateBegin mb) s = .next ((s.put GLB_WH_STAT_UPD uOPEN).ok mb []).settle) ∧
  (∀ (s : State) (mb : Nat) (c : OpenCmd) (offset : Nat) (body : List Nat) (data : List Nat) (u : State),
    s.runs mb 0x0A02 c →
    (s.upd = uOPEN ∨ s.upd = uVERIFIED) →
    body = s.cmdBody mb c.len →
    body.getD 0 0 = offset →
    (body.drop 4).flatMap (leBytes 4) = data →
    offset + data.length ≤ 0x100000 →
    s.imgWrite (slotBase s.updSlot + offset) data = (.ok, u) →
    s.stopped = false →
    exec (.updateWrite mb offset data) s = .next ((u.put GLB_WH_STAT_UPD uOPEN).ok mb []).settle) ∧
  (∀ (s : State) (mb : Nat) (c : OpenCmd) (i : Img) (u : State),
    s.runs mb 0x0A03 c →
    s.upd = uOPEN →
    s.image s.updSlot = (i, u) →
    i.reason = 0 →
    s.stopped = false →
    exec (.updateVerify mb) s = .next (((u.imgPass s.updSlot i).put GLB_WH_STAT_UPD uVERIFIED).ok mb []).settle) ∧
  (∀ (s : State) (mb : Nat) (c : OpenCmd) (frame : Nat) (u : State),
    s.runs mb 0x0A04 c →
    frame = (s.cmdBody mb c.len).getD 0 0 + (s.cmdBody mb c.len).getD 1 0 * 2 ^ 32 →
    s.activateFail frame = 0 →
    s.ticking = true →
    u = s.put GLB_WH_STAT_UPD uARMED →
    s.stopped = false →
    exec (.updateActivate mb frame) s = .next (({ u with wh := { u.wh with armS := some frame } }).ok mb []).settle) ∧
  (∀ (s : State) (mb : Nat) (c : OpenCmd) (frame : Nat),
    s.runs mb 0x0A04 c →
    frame = (s.cmdBody mb c.len).getD 0 0 + (s.cmdBody mb c.len).getD 1 0 * 2 ^ 32 →
    s.activateFail frame = 0 →
    s.ticking = false →
    s.stopped = false →
    exec (.updateActivate mb frame) s = .next ((s.ok mb []).hoStart).settle) ∧
  (∀ (s : State) (mb : Nat) (c : OpenCmd) (u : State),
    s.runs mb 0x0A05 c →
    s.upd = uOPEN →
    u = { s with wh := { s.wh with armS := none } } →
    s.stopped = false →
    exec (.updateCancel mb) s = .next ((u.put GLB_WH_STAT_UPD uIDLE).ok mb []).settle) ∧
  (∀ (s : State) (mb : Nat) (c : OpenCmd) (u : State),
    s.runs mb 0x0A05 c →
    (s.upd = uVERIFIED ∨ s.upd = uARMED) →
    u = { s with wh := { s.wh with armS := none } } →
    s.stopped = false →
    exec (.updateCancel mb) s = .next ((u.put GLB_WH_STAT_UPD uVERIFIED).ok mb []).settle) ∧
  (∀ (s : State) (mb : Nat) (c : OpenCmd),
    s.runs mb 0x0A06 c →
    s.stopped = false →
    exec (.updateStatus mb) s = .next (s.okQuery mb [s.upd]).settle) ∧
  (∀ (s : State) (r : Nat) (u : State) (v : State),
    s.upd = uHANDOVER →
    s.wh.hoBoot = false →
    s.openMbs = [] →
    u = (s.put GLB_WH_CTL_BOOT_SLOT (1 - s.wh.oldSlot)).whReset →
    ({ u with wh := { u.wh with hoBoot := true } }).bootSlot (1 - s.wh.oldSlot) = (r, v) →
    s.stopped = false →
    exec (.handoverBoot) s = .next ((if r = 0 then v else v.put GLB_WH_STAT_BOOT_ERR r)).settle) ∧
  (∀ (s : State),
    s.upd = uHANDOVER →
    s.wh.hoBoot = false →
    s.openMbs ≠ [] →
    s.stopped = false →
    exec (.handoverCancelTimeout) s = .next (((s.put GLB_WH_STAT_CANCELLED 1).put GLB_WH_STAT_UPD uVERIFIED).setWh whUP).settle) ∧
  (∀ (s : State) (r : Nat) (u : State) (v : State),
    s.upd = uHANDOVER →
    s.wh.hoBoot = true →
    u = ((s.whReset).put GLB_WH_STAT_FALLBACK 1).put GLB_WH_STAT_UPD uIDLE →
    ({ u with wh := { u.wh with hoBoot := false } }).bootSlot u.wh.oldSlot = (r, v) →
    s.stopped = false →
    exec (.handoverFallback) s = .next ((if r = 0 then v else v.whHalt)).settle)

/-- ERR_READ, ERR_CLEAR, EVENT_MAP, COUNTERS and ERR_INJECT, running in their mailbox, have their effect and answer OK; a returned
bank ends its self-test; cold reset asserts and runs its sequence, warm reset starts and ends, and image words are loaded and
accepted. Where the manual leaves a point open the clause follows the model's choice: assumption log 8, 58, 62, 64, 112. -/
def Obligations.FaultAndResetRowsAct : Prop :=
  (∀ (s : State) (mb : Nat) (c : OpenCmd) (body : List Nat),
    s.runs mb 0x0B01 c →
    body = [s.rd R_GLB_ERR_SUM, s.rd R_GLB_FAULT_GEN, s.get GLB_FLT_WR_UNREAD] ++ s.unreadRecs.flatMap (fun i => (List.range 4).map (fun d => s.rd (fltOff i d))) →
    s.stopped = false →
    exec (.errRead mb) s = .next ((if bit c.flags 0 then s.fltAllRead.ok mb body else s.okQuery mb body)).settle) ∧
  (∀ (s : State) (mb : Nat) (c : OpenCmd) (mask : Nat),
    s.runs mb 0x0B02 c →
    mask < 2 ^ 32 →
    s.stopped = false →
    exec (.errClear mb mask) s = .next (((s.wr R_GLB_ERR_SUM (s.rd R_GLB_ERR_SUM &&& (0xFFFFFFFF ^^^ mask))).doIf (bit c.flags 0) (·.fltAllRead)).ok mb []).settle) ∧
  (∀ (s : State) (mb : Nat) (c : OpenCmd) (maps : List (Nat × Nat)) (sat : Nat),
    s.runs mb 0x0B03 c →
    maps.findIdx? (fun x => !evmapOk x) = none →
    sat < 2 ^ 14 →
    s.stopped = false →
    exec (.eventMap mb maps sat) s = .next (((s.forEach maps (fun x u => u.wr (R_GLB_EVMAP x.1) x.2)).put GLB_SAT_EN_GROUP sat).ok mb []).settle) ∧
  (∀ (s : State) (mb : Nat) (c : OpenCmd) (offs : List Nat) (ws : List Nat) (u : State),
    s.runs mb 0x0B04 c →
    offs.length ≤ 128 →
    offs.findIdx? (fun o => (counterAt o).isNone) = none →
    offs.foldl (fun (a : List Nat × State) o => (a.1 ++ (a.2.whCounter o).1, (a.2.whCounter o).2)) ([], s) = (ws, u) →
    s.stopped = false →
    exec (.counters mb offs) s = .next (u.okQuery mb ws).settle) ∧
  (∀ (s : State) (mb : Nat) (c : OpenCmd) (cls : Nat) (un : Nat) (kind : Nat) (place : Nat) (f : State → State),
    s.runs mb 0x0B05 c →
    s.errInject cls un kind place = some f →
    s.stopped = false →
    exec (.errInject mb cls un kind place) s = .next ((s.injected f).ok mb []).settle) ∧
  (∀ (s : State) (b : Nat) (ok : Bool) (u : State),
    s.cis.back.contains b = true →
    s.dom (16 + b) = dON →
    u = { s with cis := { s.cis with back := s.cis.back.filter (· ≠ b) } } →
    s.stopped = false →
    exec (.bankSelftestDone b ok) s = .next ((if ok then (u.put (CT_STAT_STATE b) 0).put (CT_STAT_SPARES b) 256 else u.fault 5 b 0xFFFFFFFF)).settle) ∧
  (∀ (s : State),
    exec (.coldResetAssert) s = .next ({ s.coldClear with wh := { s.coldClear.wh with imgHeld := none, coldLow := true, safeOut := true } }).settle) ∧
  (∀ (s : State) (fuses : List (Option Nat)) (ack : Bool) (unl : Nat),
    exec (.coldReset fuses ack unl) s = .next (s.coldStart fuses ack unl).settle) ∧
  (∀ (s : State),
    s.wh.rstBusy = false →
    s.wh.coldLow = false →
    s.pw.full ≠ 2 →
    s.pw.halted = false →
    exec (.warmReset) s = .next (s.warmStart).settle) ∧
  (∀ (s : State),
    s.wh.rstBusy = true →
    s.stopped = false →
    exec (.warmDrainEnd) s = .next (s.drainEnd.warmEnd).settle) ∧
  (∀ (s : State) (slot : Nat) (addr : Nat) (lo : Nat) (hi : Nat) (u : State),
    s.wh.imgReady = true →
    s.wh.imgWait = true →
    slot < 2 →
    addr < 2 ^ 17 →
    u = { s with wh := { s.wh with imgSlot := slot } } →
    exec (.imageLoadWrite slot addr lo hi) s = .next ((u.bankWrite (slotBase slot + addr * 8) (leBytes 4 lo ++ leBytes 4 hi) false none).2).settle) ∧
  (∀ (s : State) (slot : Nat),
    s.wh.imgWait = true →
    slot < 2 →
    s.wh.imgReady = true →
    exec (.imageLoadDone slot) s = .next (s.imgDone slot).settle) ∧
  (∀ (s : State) (slot : Nat),
    s.wh.imgWait = true →
    slot < 2 →
    s.wh.imgReady = false →
    exec (.imageLoadDone slot) s = .next ({ s with wh := { s.wh with imgHeld := some slot } }).settle)

end
end

