-- ==== Sys2Proof/Laws/Memory.lean ====
section
/-! SUPPORT. Tables and memories: what reading gives after writing, and that every memory operation keeps the canonical form. -/

namespace Sys2Proof.Machine

/-! ### Tables -/

theorem tget_tset {α : Type} (t : List (Nat × α)) (k k' : Nat) (v : α) :
    tget (tset t k v) k' = if k' = k then some v else tget t k' := by
  induction t with
  | nil => by_cases h : k' = k <;> simp [tset, tget, h, Ne.symm]
  | cons x r ih =>
    obtain ⟨a, w⟩ := x
    unfold tset
    split_ifs <;> simp_all [tget] <;> split_ifs <;> simp_all <;> omega

@[simp] theorem tget_tset_same {α : Type} (t : List (Nat × α)) (k : Nat) (v : α) : tget (tset t k v) k = some v := by
  simp [tget_tset]

theorem tget_tset_other {α : Type} (t : List (Nat × α)) {k k' : Nat} (v : α) (h : k' ≠ k) :
    tget (tset t k v) k' = tget t k' := by simp [tget_tset, h]

theorem tgetD_tset {α : Type} (t : List (Nat × α)) (k k' : Nat) (v d : α) :
    tgetD (tset t k v) k' d = if k' = k then v else tgetD t k' d := by
  simp only [tgetD, tget_tset]; split <;> rfl

/-- The keys of a table all lie above a bound. -/
def tabove {α : Type} (b : Nat) (t : List (Nat × α)) : Prop := ∀ x ∈ t, b < x.1

theorem tsorted_cons {α : Type} (a : Nat) (w : α) (r : List (Nat × α)) :
    tsorted ((a, w) :: r) = true ↔ tabove a r ∧ tsorted r = true := by
  induction r generalizing a w with
  | nil => simp [tsorted, tabove]
  | cons x r ih =>
    obtain ⟨b, u⟩ := x
    simp only [tsorted, Bool.and_eq_true, decide_eq_true_eq]
    constructor
    · rintro ⟨h, hs⟩
      refine ⟨?_, hs⟩
      intro y hy
      rcases List.mem_cons.1 hy with rfl | hy
      · exact h
      · exact lt_trans h (((ih b u).1 hs).1 y hy)
    · rintro ⟨h, hs⟩
      exact ⟨h (b, u) (by simp), hs⟩

theorem tget_above {α : Type} (t : List (Nat × α)) (b k : Nat) (h : tabove b t) (hk : k ≤ b) : tget t k = none := by
  cases t with
  | nil => rfl
  | cons x r =>
    obtain ⟨a, w⟩ := x
    have := h (a, w) (by simp)
    simp only [tget]
    rw [if_neg (by simp at this; omega), if_pos (by simp at this; omega)]

theorem tabove_tset {α : Type} (t : List (Nat × α)) (b k : Nat) (v : α) (h : tabove b t) (hk : b < k) : tabove b (tset t k v) := by
  induction t with
  | nil => intro x hx; simp [tset] at hx; subst hx; exact hk
  | cons x r ih =>
    obtain ⟨a, w⟩ := x
    have hr : tabove b r := fun y hy => h y (by simp [hy])
    have ha : b < a := h (a, w) (by simp)
    intro y hy
    unfold tset at hy
    split_ifs at hy <;> simp only [List.mem_cons] at hy
    · rcases hy with rfl | rfl | hy
      exacts [hk, ha, hr y hy]
    · rcases hy with rfl | hy
      exacts [hk, hr y hy]
    · rcases hy with rfl | hy
      exacts [ha, ih hr y hy]

theorem tsorted_tset {α : Type} (t : List (Nat × α)) (k : Nat) (v : α) (h : tsorted t = true) : tsorted (tset t k v) = true := by
  induction t with
  | nil => rfl
  | cons x r ih =>
    obtain ⟨a, w⟩ := x
    obtain ⟨ha, hr⟩ := (tsorted_cons a w r).1 h
    unfold tset
    split_ifs with h1 h2
    · refine (tsorted_cons _ _ _).2 ⟨?_, h⟩
      intro y hy
      rcases List.mem_cons.1 hy with rfl | hy
      · exact h1
      · exact lt_trans h1 (ha y hy)
    · subst h2; exact (tsorted_cons _ _ _).2 ⟨ha, hr⟩
    · exact (tsorted_cons _ _ _).2 ⟨tabove_tset r a k v ha (by omega), ih hr⟩

theorem mem_tdel {α : Type} (t : List (Nat × α)) (k : Nat) (x : Nat × α) (h : x ∈ tdel t k) : x ∈ t := by
  induction t with
  | nil => exact h
  | cons y r ih =>
    obtain ⟨a, w⟩ := y
    unfold tdel at h
    split_ifs at h <;> simp_all only [List.mem_cons, or_true]
    tauto

theorem tsorted_tdel {α : Type} (t : List (Nat × α)) (k : Nat) (h : tsorted t = true) : tsorted (tdel t k) = true := by
  induction t with
  | nil => rfl
  | cons x r ih =>
    obtain ⟨a, w⟩ := x
    obtain ⟨ha, hr⟩ := (tsorted_cons a w r).1 h
    unfold tdel
    split_ifs
    · exact hr
    · exact h
    · exact (tsorted_cons _ _ _).2 ⟨fun y hy => ha y (mem_tdel r k y hy), ih hr⟩

theorem tget_tdel {α : Type} (t : List (Nat × α)) (k k' : Nat) (h : tsorted t = true) :
    tget (tdel t k) k' = if k' = k then none else tget t k' := by
  induction t with
  | nil => simp [tdel, tget]
  | cons x r ih =>
    obtain ⟨a, w⟩ := x
    obtain ⟨ha, hr⟩ := (tsorted_cons a w r).1 h
    unfold tdel
    split_ifs with h1 h2 h3 h4
    · subst h1 h2; exact tget_above r _ _ ha le_rfl
    · subst h1
      by_cases h5 : k' < a
      · rw [tget_above r a k' ha (by omega)]; simp [tget, h5, Ne.symm h2]
      · simp [tget, Ne.symm h2, h5]
    · subst h4; exact tget_above _ _ _ (fun y hy => by
        rcases List.mem_cons.1 hy with rfl | hy
        · exact h3
        · exact lt_trans h3 (ha y hy)) le_rfl
    · rfl
    · rename_i h5; subst h5; simp [tget, h1, h3, ih hr]
    · simp only [tget, ih hr]; split_ifs <;> simp_all

theorem mem_tset {α : Type} (t : List (Nat × α)) (k : Nat) (v : α) (x : Nat × α) (h : x ∈ tset t k v) : x ∈ t ∨ x = (k, v) := by
  induction t with
  | nil => simpa [tset] using h
  | cons y r ih =>
    obtain ⟨a, w⟩ := y
    unfold tset at h
    split_ifs at h <;> simp only [List.mem_cons] at h ⊢ <;> tauto

/-! ### Memories -/

theorem memSet_wf (m : List Host.Cell) (a v : Nat) (h : memWf m = true) : memWf (memSet m a v) = true := by
  simp only [memWf, Bool.and_eq_true, List.all_eq_true] at h ⊢
  unfold memSet tput
  split_ifs with hv
  · exact ⟨tsorted_tdel _ _ h.1, fun x hx => h.2 x (mem_tdel _ _ _ hx)⟩
  · refine ⟨tsorted_tset _ _ _ h.1, fun x hx => ?_⟩
    rcases mem_tset _ _ _ _ hx with hx | rfl
    · exact h.2 x hx
    · simpa using hv

theorem memWrite_wf (bs : List Nat) : ∀ (m : List Host.Cell) (a : Nat), memWf m = true → memWf (memWrite m a bs) = true := by
  induction bs with
  | nil => intro m a h; exact h
  | cons b r ih => intro m a h; exact ih _ _ (memSet_wf m a b h)

/-- A byte reads as it was last written, and every other byte as before. -/
theorem memByte_memSet (m : List Host.Cell) (a v b : Nat) (h : memWf m = true) :
    memByte (memSet m a v) b = if b = a then v % 256 else memByte m b := by
  have hs : tsorted m = true := by simp only [memWf, Bool.and_eq_true] at h; exact h.1
  unfold memByte memSet tput tgetD
  split_ifs with h1 h2 h3
  · subst h2
    have h4 := congrArg BitVec.toNat h1
    simp only [BitVec.toNat_ofNat] at h4
    simp [tget_tdel _ _ _ hs]; simpa using h4.symm
  · simp [tget_tdel _ _ _ hs, h2]
  · subst h3; simp
  · simp [tget_tset, h3]

/-- Bytes outside the range written read as before. -/
theorem memByte_memWrite_out (bs : List Nat) : ∀ (m : List Host.Cell) (a b : Nat), memWf m = true → (b < a ∨ a + bs.length ≤ b) →
    memByte (memWrite m a bs) b = memByte m b := by
  induction bs with
  | nil => intro m a b _ _; rfl
  | cons x r ih =>
    intro m a b h hb
    simp only [List.length_cons] at hb
    rw [memWrite, ih _ _ _ (memSet_wf m a x h) (by omega), memByte_memSet m a x b h, if_neg (by omega)]

/-- Bytes inside the range written read as written. -/
theorem memByte_memWrite_in (bs : List Nat) : ∀ (m : List Host.Cell) (a i : Nat), memWf m = true → i < bs.length →
    memByte (memWrite m a bs) (a + i) = bs.getD i 0 % 256 := by
  induction bs with
  | nil => intro m a i _ hi; simp at hi
  | cons x r ih =>
    intro m a i h hi
    rw [memWrite]
    cases i with
    | zero => rw [memByte_memWrite_out r _ _ _ (memSet_wf m a x h) (by omega), memByte_memSet m a x _ h]; simp
    | succ i =>
      have := ih (memSet m a x) (a + 1) i (memSet_wf m a x h) (by simpa using hi)
      rw [show a + (i + 1) = a + 1 + i by omega, this]; simp

theorem memRead_length (m : List Host.Cell) (n : Nat) : ∀ a, (memRead m a n).length = n := by
  induction n with
  | zero => intro a; rfl
  | succ n ih => intro a; simp [memRead, ih]

theorem memRead_getD (m : List Host.Cell) (n : Nat) : ∀ a i, i < n → (memRead m a n).getD i 0 = memByte m (a + i) := by
  induction n with
  | zero => intro a i h; omega
  | succ n ih =>
    intro a i h
    cases i with
    | zero => rfl
    | succ i => simpa [memRead, show a + 1 + i = a + (i + 1) by omega] using ih (a + 1) i (by omega)

/-- Every byte that a memory holds is below 256. -/
theorem memByte_lt (m : List Host.Cell) (a : Nat) : memByte m a < 256 := BitVec.isLt _

end Sys2Proof.Machine
end

