-- ==== Sys2Proof/Laws/State.lean ====
section
/-! SUPPORT. What each update of State leaves alone: one lemma per field per update, and reading a register after writing one. -/

namespace Sys2Proof.Machine

/-! ### Registers -/

@[simp] theorem State.wr_ctrs (s : State) (off v : Nat) : (s.wr off v).ctrs = s.ctrs := rfl
@[simp] theorem State.wr_latch (s : State) (off v : Nat) : (s.wr off v).latch = s.latch := rfl
@[simp] theorem State.wr_staged (s : State) (off v : Nat) : (s.wr off v).staged = s.staged := rfl
@[simp] theorem State.wr_acc (s : State) (off v : Nat) : (s.wr off v).acc = s.acc := rfl
@[simp] theorem State.wr_fv (s : State) (off v : Nat) : (s.wr off v).fv = s.fv := rfl
@[simp] theorem State.wr_tm (s : State) (off v : Nat) : (s.wr off v).tm = s.tm := rfl
@[simp] theorem State.wr_mesh (s : State) (off v : Nat) : (s.wr off v).mesh = s.mesh := rfl
@[simp] theorem State.wr_req (s : State) (off v : Nat) : (s.wr off v).req = s.req := rfl
@[simp] theorem State.wr_cis (s : State) (off v : Nat) : (s.wr off v).cis = s.cis := rfl
@[simp] theorem State.wr_kt (s : State) (off v : Nat) : (s.wr off v).kt = s.kt := rfl
@[simp] theorem State.wr_ord (s : State) (off v : Nat) : (s.wr off v).ord = s.ord := rfl
@[simp] theorem State.wr_gd (s : State) (off v : Nat) : (s.wr off v).gd = s.gd := rfl
@[simp] theorem State.wr_wh (s : State) (off v : Nat) : (s.wr off v).wh = s.wh := rfl
@[simp] theorem State.wr_irq (s : State) (off v : Nat) : (s.wr off v).irq = s.irq := rfl
@[simp] theorem State.wr_sch (s : State) (off v : Nat) : (s.wr off v).sch = s.sch := rfl
@[simp] theorem State.wr_bsn (s : State) (off v : Nat) : (s.wr off v).bsn = s.bsn := rfl
@[simp] theorem State.wr_lnk (s : State) (off v : Nat) : (s.wr off v).lnk = s.lnk := rfl
@[simp] theorem State.wr_pc (s : State) (off v : Nat) : (s.wr off v).pc = s.pc := rfl
@[simp] theorem State.wr_pw (s : State) (off v : Nat) : (s.wr off v).pw = s.pw := rfl
@[simp] theorem State.wr_sent (s : State) (off v : Nat) : (s.wr off v).sent = s.sent := rfl
@[simp] theorem State.wr_pending (s : State) (off v : Nat) : (s.wr off v).pending = s.pending := rfl

@[simp] theorem State.put_ctrs (s : State) (f : Fld) (v : Nat) : (s.put f v).ctrs = s.ctrs := rfl
@[simp] theorem State.put_latch (s : State) (f : Fld) (v : Nat) : (s.put f v).latch = s.latch := rfl
@[simp] theorem State.put_staged (s : State) (f : Fld) (v : Nat) : (s.put f v).staged = s.staged := rfl
@[simp] theorem State.put_acc (s : State) (f : Fld) (v : Nat) : (s.put f v).acc = s.acc := rfl
@[simp] theorem State.put_fv (s : State) (f : Fld) (v : Nat) : (s.put f v).fv = s.fv := rfl
@[simp] theorem State.put_tm (s : State) (f : Fld) (v : Nat) : (s.put f v).tm = s.tm := rfl
@[simp] theorem State.put_mesh (s : State) (f : Fld) (v : Nat) : (s.put f v).mesh = s.mesh := rfl
@[simp] theorem State.put_req (s : State) (f : Fld) (v : Nat) : (s.put f v).req = s.req := rfl
@[simp] theorem State.put_cis (s : State) (f : Fld) (v : Nat) : (s.put f v).cis = s.cis := rfl
@[simp] theorem State.put_kt (s : State) (f : Fld) (v : Nat) : (s.put f v).kt = s.kt := rfl
@[simp] theorem State.put_ord (s : State) (f : Fld) (v : Nat) : (s.put f v).ord = s.ord := rfl
@[simp] theorem State.put_gd (s : State) (f : Fld) (v : Nat) : (s.put f v).gd = s.gd := rfl
@[simp] theorem State.put_wh (s : State) (f : Fld) (v : Nat) : (s.put f v).wh = s.wh := rfl
@[simp] theorem State.put_irq (s : State) (f : Fld) (v : Nat) : (s.put f v).irq = s.irq := rfl
@[simp] theorem State.put_sch (s : State) (f : Fld) (v : Nat) : (s.put f v).sch = s.sch := rfl
@[simp] theorem State.put_bsn (s : State) (f : Fld) (v : Nat) : (s.put f v).bsn = s.bsn := rfl
@[simp] theorem State.put_lnk (s : State) (f : Fld) (v : Nat) : (s.put f v).lnk = s.lnk := rfl
@[simp] theorem State.put_pc (s : State) (f : Fld) (v : Nat) : (s.put f v).pc = s.pc := rfl
@[simp] theorem State.put_pw (s : State) (f : Fld) (v : Nat) : (s.put f v).pw = s.pw := rfl
@[simp] theorem State.put_sent (s : State) (f : Fld) (v : Nat) : (s.put f v).sent = s.sent := rfl
@[simp] theorem State.put_pending (s : State) (f : Fld) (v : Nat) : (s.put f v).pending = s.pending := rfl

/-! ### Counters -/

@[simp] theorem State.bump_latch (s : State) (off n : Nat) : (s.bump off n).latch = s.latch := by
  unfold State.bump; dsimp only; split <;> rfl
@[simp] theorem State.bump_staged (s : State) (off n : Nat) : (s.bump off n).staged = s.staged := by
  unfold State.bump; dsimp only; split <;> rfl
@[simp] theorem State.bump_acc (s : State) (off n : Nat) : (s.bump off n).acc = s.acc := by
  unfold State.bump; dsimp only; split <;> rfl
@[simp] theorem State.bump_fv (s : State) (off n : Nat) : (s.bump off n).fv = s.fv := by
  unfold State.bump; dsimp only; split <;> rfl
@[simp] theorem State.bump_tm (s : State) (off n : Nat) : (s.bump off n).tm = s.tm := by
  unfold State.bump; dsimp only; split <;> rfl
@[simp] theorem State.bump_mesh (s : State) (off n : Nat) : (s.bump off n).mesh = s.mesh := by
  unfold State.bump; dsimp only; split <;> rfl
@[simp] theorem State.bump_req (s : State) (off n : Nat) : (s.bump off n).req = s.req := by
  unfold State.bump; dsimp only; split <;> rfl
@[simp] theorem State.bump_cis (s : State) (off n : Nat) : (s.bump off n).cis = s.cis := by
  unfold State.bump; dsimp only; split <;> rfl
@[simp] theorem State.bump_kt (s : State) (off n : Nat) : (s.bump off n).kt = s.kt := by
  unfold State.bump; dsimp only; split <;> rfl
@[simp] theorem State.bump_ord (s : State) (off n : Nat) : (s.bump off n).ord = s.ord := by
  unfold State.bump; dsimp only; split <;> rfl
@[simp] theorem State.bump_gd (s : State) (off n : Nat) : (s.bump off n).gd = s.gd := by
  unfold State.bump; dsimp only; split <;> rfl
@[simp] theorem State.bump_wh (s : State) (off n : Nat) : (s.bump off n).wh = s.wh := by
  unfold State.bump; dsimp only; split <;> rfl
@[simp] theorem State.bump_irq (s : State) (off n : Nat) : (s.bump off n).irq = s.irq := by
  unfold State.bump; dsimp only; split <;> rfl
@[simp] theorem State.bump_sch (s : State) (off n : Nat) : (s.bump off n).sch = s.sch := by
  unfold State.bump; dsimp only; split <;> rfl
@[simp] theorem State.bump_bsn (s : State) (off n : Nat) : (s.bump off n).bsn = s.bsn := by
  unfold State.bump; dsimp only; split <;> rfl
@[simp] theorem State.bump_lnk (s : State) (off n : Nat) : (s.bump off n).lnk = s.lnk := by
  unfold State.bump; dsimp only; split <;> rfl
@[simp] theorem State.bump_pc (s : State) (off n : Nat) : (s.bump off n).pc = s.pc := by
  unfold State.bump; dsimp only; split <;> rfl
@[simp] theorem State.bump_pw (s : State) (off n : Nat) : (s.bump off n).pw = s.pw := by
  unfold State.bump; dsimp only; split <;> rfl
@[simp] theorem State.bump_sent (s : State) (off n : Nat) : (s.bump off n).sent = s.sent := by
  unfold State.bump; dsimp only; split <;> rfl
@[simp] theorem State.bump_pending (s : State) (off n : Nat) : (s.bump off n).pending = s.pending := by
  unfold State.bump; dsimp only; split <;> rfl

@[simp] theorem State.count_latch (s : State) (off : Nat) : (s.count off).latch = s.latch := s.bump_latch off 1
@[simp] theorem State.count_staged (s : State) (off : Nat) : (s.count off).staged = s.staged := s.bump_staged off 1
@[simp] theorem State.count_acc (s : State) (off : Nat) : (s.count off).acc = s.acc := s.bump_acc off 1
@[simp] theorem State.count_fv (s : State) (off : Nat) : (s.count off).fv = s.fv := s.bump_fv off 1
@[simp] theorem State.count_tm (s : State) (off : Nat) : (s.count off).tm = s.tm := s.bump_tm off 1
@[simp] theorem State.count_mesh (s : State) (off : Nat) : (s.count off).mesh = s.mesh := s.bump_mesh off 1
@[simp] theorem State.count_req (s : State) (off : Nat) : (s.count off).req = s.req := s.bump_req off 1
@[simp] theorem State.count_cis (s : State) (off : Nat) : (s.count off).cis = s.cis := s.bump_cis off 1
@[simp] theorem State.count_kt (s : State) (off : Nat) : (s.count off).kt = s.kt := s.bump_kt off 1
@[simp] theorem State.count_ord (s : State) (off : Nat) : (s.count off).ord = s.ord := s.bump_ord off 1
@[simp] theorem State.count_gd (s : State) (off : Nat) : (s.count off).gd = s.gd := s.bump_gd off 1
@[simp] theorem State.count_wh (s : State) (off : Nat) : (s.count off).wh = s.wh := s.bump_wh off 1
@[simp] theorem State.count_irq (s : State) (off : Nat) : (s.count off).irq = s.irq := s.bump_irq off 1
@[simp] theorem State.count_sch (s : State) (off : Nat) : (s.count off).sch = s.sch := s.bump_sch off 1
@[simp] theorem State.count_bsn (s : State) (off : Nat) : (s.count off).bsn = s.bsn := s.bump_bsn off 1
@[simp] theorem State.count_lnk (s : State) (off : Nat) : (s.count off).lnk = s.lnk := s.bump_lnk off 1
@[simp] theorem State.count_pc (s : State) (off : Nat) : (s.count off).pc = s.pc := s.bump_pc off 1
@[simp] theorem State.count_pw (s : State) (off : Nat) : (s.count off).pw = s.pw := s.bump_pw off 1
@[simp] theorem State.count_sent (s : State) (off : Nat) : (s.count off).sent = s.sent := s.bump_sent off 1
@[simp] theorem State.count_pending (s : State) (off : Nat) : (s.count off).pending = s.pending := s.bump_pending off 1

/-! ### The sender and the masters -/

@[simp] theorem State.send_regs (s : State) (x : Sent) : (s.send x).regs = s.regs := rfl
@[simp] theorem State.send_ctrs (s : State) (x : Sent) : (s.send x).ctrs = s.ctrs := rfl
@[simp] theorem State.send_latch (s : State) (x : Sent) : (s.send x).latch = s.latch := rfl
@[simp] theorem State.send_staged (s : State) (x : Sent) : (s.send x).staged = s.staged := rfl
@[simp] theorem State.send_acc (s : State) (x : Sent) : (s.send x).acc = s.acc := rfl
@[simp] theorem State.send_fv (s : State) (x : Sent) : (s.send x).fv = s.fv := rfl
@[simp] theorem State.send_tm (s : State) (x : Sent) : (s.send x).tm = s.tm := rfl
@[simp] theorem State.send_mesh (s : State) (x : Sent) : (s.send x).mesh = s.mesh := rfl
@[simp] theorem State.send_req (s : State) (x : Sent) : (s.send x).req = s.req := rfl
@[simp] theorem State.send_cis (s : State) (x : Sent) : (s.send x).cis = s.cis := rfl
@[simp] theorem State.send_kt (s : State) (x : Sent) : (s.send x).kt = s.kt := rfl
@[simp] theorem State.send_ord (s : State) (x : Sent) : (s.send x).ord = s.ord := rfl
@[simp] theorem State.send_gd (s : State) (x : Sent) : (s.send x).gd = s.gd := rfl
@[simp] theorem State.send_wh (s : State) (x : Sent) : (s.send x).wh = s.wh := rfl
@[simp] theorem State.send_irq (s : State) (x : Sent) : (s.send x).irq = s.irq := rfl
@[simp] theorem State.send_sch (s : State) (x : Sent) : (s.send x).sch = s.sch := rfl
@[simp] theorem State.send_bsn (s : State) (x : Sent) : (s.send x).bsn = s.bsn := rfl
@[simp] theorem State.send_lnk (s : State) (x : Sent) : (s.send x).lnk = s.lnk := rfl
@[simp] theorem State.send_pc (s : State) (x : Sent) : (s.send x).pc = s.pc := rfl
@[simp] theorem State.send_pw (s : State) (x : Sent) : (s.send x).pw = s.pw := rfl
@[simp] theorem State.send_pending (s : State) (x : Sent) : (s.send x).pending = s.pending := rfl

@[simp] theorem State.answer_regs (s : State) (m : Master) (st : Status) (d : Nat) : (s.answer m st d).regs = s.regs := rfl
@[simp] theorem State.answer_ctrs (s : State) (m : Master) (st : Status) (d : Nat) : (s.answer m st d).ctrs = s.ctrs := rfl
@[simp] theorem State.answer_latch (s : State) (m : Master) (st : Status) (d : Nat) : (s.answer m st d).latch = s.latch := rfl
@[simp] theorem State.answer_staged (s : State) (m : Master) (st : Status) (d : Nat) : (s.answer m st d).staged = s.staged := rfl
@[simp] theorem State.answer_fv (s : State) (m : Master) (st : Status) (d : Nat) : (s.answer m st d).fv = s.fv := rfl
@[simp] theorem State.answer_tm (s : State) (m : Master) (st : Status) (d : Nat) : (s.answer m st d).tm = s.tm := rfl
@[simp] theorem State.answer_mesh (s : State) (m : Master) (st : Status) (d : Nat) : (s.answer m st d).mesh = s.mesh := rfl
@[simp] theorem State.answer_req (s : State) (m : Master) (st : Status) (d : Nat) : (s.answer m st d).req = s.req := rfl
@[simp] theorem State.answer_cis (s : State) (m : Master) (st : Status) (d : Nat) : (s.answer m st d).cis = s.cis := rfl
@[simp] theorem State.answer_kt (s : State) (m : Master) (st : Status) (d : Nat) : (s.answer m st d).kt = s.kt := rfl
@[simp] theorem State.answer_ord (s : State) (m : Master) (st : Status) (d : Nat) : (s.answer m st d).ord = s.ord := rfl
@[simp] theorem State.answer_gd (s : State) (m : Master) (st : Status) (d : Nat) : (s.answer m st d).gd = s.gd := rfl
@[simp] theorem State.answer_wh (s : State) (m : Master) (st : Status) (d : Nat) : (s.answer m st d).wh = s.wh := rfl
@[simp] theorem State.answer_irq (s : State) (m : Master) (st : Status) (d : Nat) : (s.answer m st d).irq = s.irq := rfl
@[simp] theorem State.answer_sch (s : State) (m : Master) (st : Status) (d : Nat) : (s.answer m st d).sch = s.sch := rfl
@[simp] theorem State.answer_bsn (s : State) (m : Master) (st : Status) (d : Nat) : (s.answer m st d).bsn = s.bsn := rfl
@[simp] theorem State.answer_lnk (s : State) (m : Master) (st : Status) (d : Nat) : (s.answer m st d).lnk = s.lnk := rfl
@[simp] theorem State.answer_pc (s : State) (m : Master) (st : Status) (d : Nat) : (s.answer m st d).pc = s.pc := rfl
@[simp] theorem State.answer_pw (s : State) (m : Master) (st : Status) (d : Nat) : (s.answer m st d).pw = s.pw := rfl
@[simp] theorem State.answer_sent (s : State) (m : Master) (st : Status) (d : Nat) : (s.answer m st d).sent = s.sent := rfl
@[simp] theorem State.answer_pending (s : State) (m : Master) (st : Status) (d : Nat) : (s.answer m st d).pending = s.pending := rfl

/-! ### The cistern -/

@[simp] theorem State.cisWrite_regs (s : State) (a : Nat) (bs : List Nat) : (s.cisWrite a bs).regs = s.regs := rfl
@[simp] theorem State.cisWrite_ctrs (s : State) (a : Nat) (bs : List Nat) : (s.cisWrite a bs).ctrs = s.ctrs := rfl
@[simp] theorem State.cisWrite_latch (s : State) (a : Nat) (bs : List Nat) : (s.cisWrite a bs).latch = s.latch := rfl
@[simp] theorem State.cisWrite_staged (s : State) (a : Nat) (bs : List Nat) : (s.cisWrite a bs).staged = s.staged := rfl
@[simp] theorem State.cisWrite_acc (s : State) (a : Nat) (bs : List Nat) : (s.cisWrite a bs).acc = s.acc := rfl
@[simp] theorem State.cisWrite_fv (s : State) (a : Nat) (bs : List Nat) : (s.cisWrite a bs).fv = s.fv := rfl
@[simp] theorem State.cisWrite_tm (s : State) (a : Nat) (bs : List Nat) : (s.cisWrite a bs).tm = s.tm := rfl
@[simp] theorem State.cisWrite_mesh (s : State) (a : Nat) (bs : List Nat) : (s.cisWrite a bs).mesh = s.mesh := rfl
@[simp] theorem State.cisWrite_req (s : State) (a : Nat) (bs : List Nat) : (s.cisWrite a bs).req = s.req := rfl
@[simp] theorem State.cisWrite_kt (s : State) (a : Nat) (bs : List Nat) : (s.cisWrite a bs).kt = s.kt := rfl
@[simp] theorem State.cisWrite_ord (s : State) (a : Nat) (bs : List Nat) : (s.cisWrite a bs).ord = s.ord := rfl
@[simp] theorem State.cisWrite_gd (s : State) (a : Nat) (bs : List Nat) : (s.cisWrite a bs).gd = s.gd := rfl
@[simp] theorem State.cisWrite_wh (s : State) (a : Nat) (bs : List Nat) : (s.cisWrite a bs).wh = s.wh := rfl
@[simp] theorem State.cisWrite_irq (s : State) (a : Nat) (bs : List Nat) : (s.cisWrite a bs).irq = s.irq := rfl
@[simp] theorem State.cisWrite_sch (s : State) (a : Nat) (bs : List Nat) : (s.cisWrite a bs).sch = s.sch := rfl
@[simp] theorem State.cisWrite_bsn (s : State) (a : Nat) (bs : List Nat) : (s.cisWrite a bs).bsn = s.bsn := rfl
@[simp] theorem State.cisWrite_lnk (s : State) (a : Nat) (bs : List Nat) : (s.cisWrite a bs).lnk = s.lnk := rfl
@[simp] theorem State.cisWrite_pc (s : State) (a : Nat) (bs : List Nat) : (s.cisWrite a bs).pc = s.pc := rfl
@[simp] theorem State.cisWrite_pw (s : State) (a : Nat) (bs : List Nat) : (s.cisWrite a bs).pw = s.pw := rfl
@[simp] theorem State.cisWrite_sent (s : State) (a : Nat) (bs : List Nat) : (s.cisWrite a bs).sent = s.sent := rfl
@[simp] theorem State.cisWrite_pending (s : State) (a : Nat) (bs : List Nat) : (s.cisWrite a bs).pending = s.pending := rfl

/-! ### Reading a register after writing one -/

theorem State.wr_rd (s : State) (off v o : Nat) : (s.wr off v).rd o = if o = off then v % 2 ^ 32 else s.rd o := by
  unfold State.rd State.wr
  simp only [tget_tset]
  by_cases h : o = off
  · simp [h]
  · simp [h]

@[simp] theorem State.wr_rd_same (s : State) (off v : Nat) : (s.wr off v).rd off = v % 2 ^ 32 := by simp [State.wr_rd]

theorem State.wr_rd_other (s : State) {off o : Nat} (v : Nat) (h : o ≠ off) : (s.wr off v).rd o = s.rd o := by
  simp [State.wr_rd, h]

/-- Writing a field leaves every other register. -/
theorem State.put_rd_other (s : State) (f : Fld) {o : Nat} (v : Nat) (h : o ≠ f.off) : (s.put f v).rd o = s.rd o :=
  State.wr_rd_other s _ h

/-- Writing a field leaves every field of another register. -/
theorem State.put_get_other (s : State) (f g : Fld) (v : Nat) (h : g.off ≠ f.off) : (s.put f v).get g = s.get g := by
  unfold State.get; rw [State.put_rd_other s f v h]

@[simp] theorem State.cisWrite_rd (s : State) (a : Nat) (bs : List Nat) (o : Nat) : (s.cisWrite a bs).rd o = s.rd o := rfl

@[simp] theorem State.send_rd (s : State) (x : Sent) (o : Nat) : (s.send x).rd o = s.rd o := rfl

@[simp] theorem State.answer_rd (s : State) (m : Master) (st : Status) (d o : Nat) : (s.answer m st d).rd o = s.rd o := rfl

/-- Counting changes no register but the saturation events (R420). -/
theorem State.bump_rd_other (s : State) (off n : Nat) {o : Nat} (h : o ≠ R_GLB_SAT_EVT) : (s.bump off n).rd o = s.rd o := by
  unfold State.bump
  dsimp only
  split
  · exact State.wr_rd_other _ _ h
  · rfl

/-- A counter after counting: it stays at the largest count (R420). -/
theorem State.bump_cnt (s : State) (off n : Nat) (o : Nat) :
    (s.bump off n).cnt o = if o = off then min (s.cnt off + n) ctrMax else s.cnt o := by
  unfold State.bump
  dsimp only
  split <;> exact tgetD_tset s.ctrs off o _ 0

end Sys2Proof.Machine
end

