-- ==== Sys2Proof/Laws/Access.lean ====
section
/-! SUPPORT. An access of a control master that CX can serve at once: what the crossbar does with it, said once. -/

namespace Sys2Proof.Machine

theorem foldl_stop (l : List Nat) (s : State) :
    l.foldl (fun (a : Bool × State) i => if a.1 then a else a.2.cxStep i) (true, s) = (true, s) := by
  induction l with
  | nil => rfl
  | cons a l ih => simpa using ih

theorem foldl_grant (l : List Nat) (s u : State) (i : Nat) (hi : i ∈ l)
    (ho : ∀ j, j ≠ i → s.cxStep j = (false, s)) (hs : s.cxStep i = (true, u)) :
    l.foldl (fun (a : Bool × State) i => if a.1 then a else a.2.cxStep i) (false, s) = (true, u) := by
  induction l with
  | nil => cases hi
  | cons a l ih =>
    by_cases h : a = i
    · subst h; simp [hs, foldl_stop]
    · simp only [List.foldl_cons, Bool.false_eq_true, if_false, ho a h]
      exact ih (by simpa [Ne.symm h] using hi)

theorem masterIdx_lt (m : Master) (h : m ≠ .debug) : masterIdx m < 3 := by
  cases m <;> simp [masterIdx] at *

theorem cxRound_grant (s u : State) (x : CxAcc) (hq : s.wh.cxq = [x]) (hx : masterIdx x.m < 3)
    (hs : s.cxStep (masterIdx x.m) = (true, u)) : s.cxRound = (true, u) := by
  have hf : ∀ j, j ≠ masterIdx x.m → s.cxFirst j = none := by
    intro j hj; simp [State.cxFirst, hq, Ne.symm hj]
  have hl : ∀ j, ((j + 3 - tgetD s.wh.served 0 3) % 4 < 4) := fun j => Nat.mod_lt _ (by decide)
  unfold State.cxRound
  apply foldl_grant _ s u (masterIdx x.m)
  · have ht : s.cxTurn (masterIdx x.m) < 4 := by
      unfold State.cxTurn; split
      · exact Nat.mod_lt _ (by decide)
      · decide
    have : masterIdx x.m = 0 ∨ masterIdx x.m = 1 ∨ masterIdx x.m = 2 := by omega
    refine List.mem_flatMap.2 ⟨s.cxTurn (masterIdx x.m), List.mem_range.2 ht, ?_⟩
    refine List.mem_filter.2 ⟨?_, by simp⟩
    rcases this with h | h | h <;> simp [h]
  · intro j hj; simp [State.cxStep, hf j hj]
  · exact hs

/-- Casting a vote leaves CX and its masters as they are. -/
theorem castVote_wh (s : State) (d : Nat) (f : Fld) (code : Nat) : (s.castVote d f code).wh = s.wh := by
  unfold State.castVote State.voteActs State.abortEntry State.ledger State.recount State.setDom State.pwEvt
  split_ifs
  · rfl
  · rfl
  · dsimp only
    split_ifs <;> simp

theorem cxBegin_wh (s : State) (m : Master) (off : Nat) (w : Option Word) (d : Nat) :
    (s.cxBegin m off w d).wh = (s.enter m off w false).wh := by
  unfold State.cxBegin State.doIf
  split
  · exact castVote_wh _ _ _ _
  · rfl

/-- Such an access reaches its register or its aperture: nothing on the way turns it away. -/
theorem serve_ready (s : State) (m : Master) (off : Nat) (w : Option Word) (t d : Nat) (apt : Option Nat)
    (h : s.cxReady m off w.isSome t apt d) :
    (s.enter m off w false).cxServe ⟨m, off, w, false, none⟩ =
      (s.cxBegin m off w d).cxPerform ⟨m, off, w, false, none⟩ apt := by
  obtain ⟨hm, hon, hq, hh, hj, hr, ht, hpa, hpl, ha⟩ := h
  have hq' : (s.enter m off w false).wh.cxq = [⟨m, off, w, false, none⟩] := by simp [State.enter, hq]
  have e1 : (s.enter m off w false).portRight m off w.isSome = true := by rw [← hr]; cases m <;> rfl
  have e2 : (s.enter m off w false).cxPlace m off w.isSome = some (apt, d) := by rw [← hpl]; rfl
  simp only [State.cxServe, e1, ht, hpa, e2, Bool.not_true, Bool.false_eq_true, if_false]
  have e3 : (s.enter m off w false).heldByOther (masterIdx m) t = false := by simp [State.heldByOther, State.enter, hh]
  have e4 : (s.enter m off w false).regAsleep d = false := by rw [← ha]; rfl
  have e5 : (s.cxBegin m off w d).wh.holds = [] := by rw [cxBegin_wh]; exact hh
  have e6 : (s.cxBegin m off w d).holdStart (masterIdx m) t false = s.cxBegin m off w d := by
    simp [State.holdStart, e5]
  simp only [State.cxAt, e3, e4, hq']
  simp
  exact congrArg (fun (u : State) => u.cxPerform ⟨m, off, w, false, none⟩ apt) e6

/-- An access whose one round moves it: the rest is CX looking for what else it can serve. -/
theorem access_round (s : State) (m : Master) (off : Nat) (w : Option Word) (t d : Nat) (apt : Option Nat) (u : State)
    (h : s.cxReady m off w.isSome t apt d) (hs : (s.enter m off w false).cxStep (masterIdx m) = (true, u)) :
    s.access m off w = u.cxLook 3 := by
  obtain ⟨hm, hon, hq, -⟩ := h
  have hacc : s.access m off w = (s.enter m off w false).cxRun := by cases m <;> simp_all [State.access]
  rw [hacc]
  have hq' : (s.enter m off w false).wh.cxq = [⟨m, off, w, false, none⟩] := by simp [State.enter, hq]
  have hround := cxRound_grant _ _ ⟨m, off, w, false, none⟩ hq' (masterIdx_lt m hm) hs
  have hon' : (s.enter m off w false).cxOn = true := by rw [← hon]; rfl
  simp only [State.cxRun, hon', if_true, hq', List.length_singleton]
  show (State.cxDrain 4 _).dbgDrain = _
  rw [show (4:Nat) = 3 + 1 from rfl]
  simp [State.cxDrain, hround, State.cxLook]

theorem enter_first (s : State) (m : Master) (off : Nat) (w : Option Word) (h : s.wh.cxq = []) :
    (s.enter m off w false).cxFirst (masterIdx m) = some ⟨m, off, w, false, none⟩ := by
  simp [State.cxFirst, State.enter, h]

/-- An access that its register answers ends with that answer. -/
theorem access_ready (s : State) (m : Master) (off : Nat) (w : Option Word) (t d : Nat) (st : Status) (v : Nat) (u : State)
    (h : s.cxReady m off w.isSome t none d)
    (hp : (s.cxBegin m off w d).cxPerform ⟨m, off, w, false, none⟩ none = .done st v u) :
    s.access m off w = u.cxEnd m off w st v := by
  refine access_round s m off w t d none _ h ?_
  simp [State.cxStep, enter_first s m off w h.2.2.1, serve_ready s m off w t d none h, hp, State.cxDone]

/-- An access through an aperture leaves. -/
theorem access_aperture_ready (s : State) (m : Master) (off : Nat) (w : Option Word) (t d a : Nat)
    (h : s.cxReady m off w.isSome t (some a) d) : s.access m off w = s.apertureOut m off w a d := by
  refine access_round s m off w t d (some a) _ h ?_
  simp [State.cxStep, enter_first s m off w h.2.2.1, serve_ready s m off w t d (some a) h, State.cxPerform]

/-- With no hold there is no hold to use up. -/
theorem holdUse_empty (s : State) (i : Nat) (h : s.wh.holds = []) : s.holdUse i = s := by
  have hw : ({ s.wh with holds := [] } : WhSt) = s.wh := by rw [← h]
  simp only [State.holdUse, h, List.flatMap_nil, State.setHolds, hw]

/-- A read that CX can serve is performed at its register. -/
theorem access_read_ready (s : State) (m : Master) (off t d : Nat) (h : s.cxReady m off false t none d) :
    s.access m off none = s.didRead m off d := by
  have hh : (s.cxBegin m off none d).wh.holds = [] := by rw [cxBegin_wh]; exact h.2.2.2.1
  refine access_ready s m off none t d _ _ _ h ?_
  simp only [State.cxPerform, holdUse_empty _ _ hh]

/-- A write that CX can serve and the register takes. -/
theorem access_write_ready (s : State) (m : Master) (off t d : Nat) (w : Word) (u : State)
    (h : s.cxReady m off true t none d) (ht : s.takes m off w d u) :
    s.access m off (some w) = u.wrote m off w := by
  have hh : (s.cxBegin m off (some w) d).wh.holds = [] := by rw [cxBegin_wh]; exact h.2.2.2.1
  refine access_ready s m off (some w) t d _ _ _ h ?_
  simp only [State.cxPerform, holdUse_empty _ _ hh, State.takes] at ht ⊢
  rw [ht]

end Sys2Proof.Machine
end

