-- ==== Sys2Proof/Laws/Routes.lean ====
section
/-! SUPPORT. What a route bank holds that nothing has written. -/

namespace Sys2Proof.Machine

theorem routeEntry_place (i : Nat) (h : i < 8192) : decodeOffset (R_RTE_ENT i) = some ⟨rows_rte, 0x8000 + i * 4, domCore⟩ := by
  unfold decodeOffset R_RTE_ENT
  repeat rw [if_neg (by omega)]
  rw [if_pos (by omega)]
  rw [show 0x500000 + 0x8000 + i * 4 - 0x500000 = 0x8000 + i * 4 by omega]

theorem routeEntry_row (i : Nat) (h : i < 8192) :
    rows_rte.find? (·.holds (0x8000 + i * 4)) = some ⟨0x8000, 4, 8192, .plain, 0x0, 0x3ffffff, 0x0, 0x0, 0x0⟩ := by
  unfold rows_rte
  iterate 12 rw [List.find?_cons_of_neg (by simp only [RegRow.holds]; simp; omega)]
  rw [List.find?_cons_of_pos]
  simp only [RegRow.holds]
  simp; omega

/-- A route entry is all zeros at reset (Table 5-2). -/
theorem resetWord_routeEntry (i : Nat) (h : i < 8192) : resetWord (R_RTE_ENT i) = 0 := by
  unfold resetWord regRow
  rw [routeEntry_place i h]
  simp only [routeEntry_row i h]
  unfold R_RTE_ENT
  repeat rw [if_neg (by omega)]
  rfl

/-- Where no register at or above the route entries has been set, each of them reads 0. -/
theorem routeEntry_unset (s : State) (i : Nat) (hi : i < 8192) (h : ∀ x ∈ s.regs, x.1 < R_RTE_ENT 0) :
    s.rd (R_RTE_ENT i) = 0 := by
  unfold State.rd
  have hk : R_RTE_ENT 0 ≤ R_RTE_ENT i := by unfold R_RTE_ENT; omega
  have : tget s.regs (R_RTE_ENT i) = none := by
    generalize R_RTE_ENT i = k at hk
    generalize s.regs = l at h
    induction l with
    | nil => rfl
    | cons x r ih =>
      have hx := h x (by simp)
      simp only [tget]
      rw [if_neg (by omega)]
      split
      · rfl
      · exact ih (fun y hy => h y (by simp [hy]))
  rw [this]
  exact resetWord_routeEntry i hi

/-- Every entry of a bank that nothing has set passes the checks of R142. -/
theorem commitFail_unset (s : State) (b : Nat) (hb : b < 2) (h : ∀ x ∈ s.regs, x.1 < R_RTE_ENT 0) : s.commitFail b = none := by
  unfold State.commitFail
  rw [List.find?_eq_none.2, Option.map_none]
  intro n hn
  have := routeEntry_unset s (rteIdx b n) (by have := List.mem_range.1 hn; unfold rteIdx; omega) h
  simp [State.on, State.get, RTE_ENT_VALID, this, bits]

end Sys2Proof.Machine
end

