-- ==== Sys2Proof/Laws/Step.lean ====
section
/-! SUPPORT. What a step is to its parts, said once: the end of a meaning, logic whose clock stands still, a command that runs in
its mailbox, and a packet taken at a tile. -/

namespace Sys2Proof.Machine

/-! ### The end of a meaning -/

/-- The end of a step looks at every level. -/
theorem State.settle_settled (s : State) : s.settle.settled := rfl

theorem fin_next {s t : State} (h : fin s = .next t) : t = s.settle := by
  unfold fin at h; injection h with h; exact h.symm

theorem act_stopped {s : State} (t : State) (h : s.stopped = true) : act s t = .next s := by simp [act, h]

theorem act_running {s : State} (t : State) (h : s.stopped = false) : act s t = .next t.settle := by simp [act, h]

/-- Everything that clocked logic can do in a step. -/
theorem act_cases {s t u : State} (h : act s t = .next u) : s.stopped = true ∧ u = s ∨ s.stopped = false ∧ u = t.settle := by
  cases hs : s.stopped
  · rw [act_running t hs] at h; injection h with h; exact .inr ⟨rfl, h.symm⟩
  · rw [act_stopped t hs] at h; injection h with h; exact .inl ⟨rfl, h.symm⟩

/-- With running clocks, or from a settled state, such a step ends settled. -/
theorem act_settled {s t u : State} (h : act s t = .next u) (hs : s.stopped = false ∨ s.settled) : u.settled := by
  rcases act_cases h with ⟨hr, rfl⟩ | ⟨-, rfl⟩
  · simpa [hr] using hs
  · exact State.settle_settled t

/-! ### Commands of a mailbox (R393) -/

/-- A command that its mailbox runs has its body's effect. -/
theorem runCmd_runs {s : State} {mb op : Nat} {c : OpenCmd} (h : s.runs mb op c) (f : OpenCmd → State → State) :
    s.runCmd mb op f = f c s := by
  obtain ⟨h1, h2, h3, h4⟩ := h
  simp [State.runCmd, h1, h2, h3, h4]

/-- Everything that a row of a mailbox command can do: its body's effect, or an event that no table lists. -/
theorem runCmd_cases (s : State) (mb op : Nat) (f : OpenCmd → State → State) :
    (∃ c, s.runs mb op c ∧ s.runCmd mb op f = f c s) ∨ s.runCmd mb op f = s.smIgnored := by
  unfold State.runCmd
  cases hc : s.openCmd mb with
  | none => exact .inr rfl
  | some c =>
    by_cases h : c.op = op ∧ c.wait = none ∧ s.get (MB_STAT_STATE mb) = mbRUNNING
    · exact .inl ⟨c, ⟨hc, h⟩, if_pos h⟩
    · exact .inr (if_neg h)

/-! ### Packets at a tile -/

/-- Taking a packet at a tile changes nothing but what has arrived there. -/
theorem takeArrived_cases (s : State) (t : Nat) (f : Pkt → Bool) :
    s.takeArrived t f = (none, s) ∨ ∃ p, s.takeArrived t f =
      (some p, { s with mesh := { s.mesh with arrived := dropFirst (fun y => y.1 == t && f y.2) s.mesh.arrived } }) := by
  unfold State.takeArrived
  split
  · exact .inl rfl
  · exact .inr ⟨_, rfl⟩

end Sys2Proof.Machine
end

