-- ==== Sys2Proof/Machine/Pins.lean ====
section
/-! DEFINITION. The levels that the block drives at its boundary, as functions of the state (R448 to R456). What it sends as
messages and codes is recorded in State.sent. -/

namespace Sys2Proof.Machine

/-- RST_BUSY: high while a reset sequence runs (R448, R458, R461). -/
def State.pinRstBusy (s : State) : Bool := s.wh.rstBusy || s.wh.coldLow

/-- SAFE_OUT (R448, R458). -/
def State.pinSafeOut (s : State) : Bool := s.wh.safeOut

/-- IMG_READY: the image load interface accepts writes (R454). -/
def State.pinImgReady (s : State) : Bool := s.wh.imgReady && s.wh.imgWait

/-- PSW_ON of domain `d`: the logic switch (R450). -/
def State.pinPswOn (s : State) (d : Nat) : Bool := s.dom d != dRETAINED && s.dom d != dOFF

/-- PSW_RET of domain `d`: the retention supply (R450). -/
def State.pinPswRet (s : State) (d : Nat) : Bool := s.dom d == dRETAINED

/-- TM_PPS_OUT (R49). -/
def State.pinPpsOut (s : State) : Bool := decide (0 < s.tm.ppsLeft)

/-- The sideband interrupt lines (R410, R455). While TICK_OUT is set, line 1 carries ticks alone: a pulse of 64 TCLK cycles that
begins 2 cycles after the tick's cycle. Both are low while the clocks stand still. -/
def State.line (s : State) (l : Nat) : Bool :=
  if s.stopped then false
  else if l = 1 ∧ s.on TM_FRAME_CTL_TICK_OUT then
    s.ticking && s.tm.last.isSome && decide (s.tm.lastNs + 2 ≤ (s.ns : Int) ∧ (s.ns : Int) < s.tm.lastNs + 66)
  else
    (List.range 16).any (fun n => s.level n && s.on (if l = 0 then GLB_EVMAP_LINE0 n else GLB_EVMAP_LINE1 n))
      || (s.mbLevel 1 && !s.on (MB_CTL_IBI 1) && s.get (MB_CTL_LINE 1) == l)

/-- SLOT_EN and SLOT_PERST of slot `n` (R313). -/
def State.pinSlotEn (s : State) (n : Nat) : Bool := s.on (SLOT_STAT_EN_OUT n)
def State.pinSlotPerst (s : State) (n : Nat) : Bool := s.on (SLOT_STAT_PERST_OUT n)

/-- SLOT_PIND of slot `n`: 0 off, 1 on, 2 blinking (R456). -/
def State.pinSlotPind (s : State) (n : Nat) : Nat :=
  if s.slotSt n = slUP then 1 else if s.slotSt n = slRAMP ∨ s.slotSt n = slPERST ∨ s.slotSt n = slLINK then 2 else 0

/-- Attention Indicator Control of a word of Slot Control: 1 on, 2 blinking, else off (assumption log 20). -/
def attnOf (w : Nat) : Nat := let v := bits w 6 2; if v = 3 then 0 else v

/-- SLOT_AIND of slot `n`, in the codes of SLOT_PIND: the strongest control of its virtual ports, on over blinking over off; in
FAULT it blinks (R456). -/
def State.pinSlotAind (s : State) (n : Nat) : Nat :=
  let p := s.slotPort n
  let cs := (s.boundParts p).map (fun h => match s.vportOf h p with
    | some v => attnOf (s.cfgReg h v.dev rgSlot)
    | none => 0)
  if s.slotSt n = slFAULT then 2 else if cs.contains 1 then 1 else if cs.contains 2 then 2 else 0

/-- PHY_c_RECAL_REQ of lane `l` of port `p`: a recalibration request is open at the PHY (R451). -/
def State.pinRecalReq (s : State) (p l : Nat) : Bool := (s.lk p).recal == some (l, 1)

/-- What the debug data register captures (Table 18-3): DONE, BUSY, OVERRUN, STATUS and the data of the last access. -/
def State.dbgCapture (s : State) : Nat :=
  let a : Acc := (tget s.acc (masterIdx .debug)).getD ⟨.ok, 0⟩
  b2n s.gd.dbgDone * 2 ^ 24 + b2n s.gd.dbgOut.isSome * 2 ^ 25 + b2n s.gd.dbgOver * 2 ^ 26 + a.status.code * 2 ^ 27 + a.data.toNat * 2 ^ 32

end Sys2Proof.Machine
end

