-- ==== Sys2Proof/Tests/Slice0.lean ====
section
/-! SUPPORT. Tests of single steps against the worked examples of the spec, ill-formed terms that `Instr.wf` refuses, and for
each obligation with hypotheses a state and operands that meet them. -/

namespace Sys2Proof
set_option Elab.async false
open Sys2Proof.Machine

/-! ### Small states for tests and witnesses -/

/-- An open command of an opcode, with nothing else set. -/
def cmd0 (op : Nat) : OpenCmd := ⟨op, 0, 0, 0, 0, 0, none⟩

/-- The same from issuer 1, which may own basins (R331). -/
def cmd1 (op : Nat) : OpenCmd := { cmd0 op with issuer := 1 }

/-- A state whose mailbox runs a command. -/
def runIn (s : State) (mb : Nat) (c : OpenCmd) : State :=
  let u := s.put (MB_STAT_STATE mb) mbRUNNING
  { u with wh := { u.wh with cmds := [(mb, c)] } }

def cmdS (mb op : Nat) : State := runIn State.reset mb (cmd0 op)

def cmdF (mb op : Nat) : State := runIn State.reset mb { cmd0 op with flags := 1 }

/-- A packet of a kind with `len` dwords of zeros. -/
def pktOf (kind len : Nat) : Pkt := pkt0 kind 0 0 len 0 0 (List.replicate len 0)

/-- One packet has arrived at a tile. -/
def arrS (t : Nat) (p : Pkt) : State := { State.reset with mesh := { arrived := [(t, p)] } }

def portAP : Pkt := { pktOf kTLP 0 with tlp := some { tlp0 with typ := tyMRd, hlen := 1 } }

def aptS : State := State.reset.wr (remapOff .portB 0) 1

def dbgS : State := { State.reset with gd := { dbgOut := some 0 } }

/-- PD_TL is asleep, WAKE_ON_ACCESS is set, and an access of Control Port B waits. -/
def woaS : State :=
  let u := (State.reset.put (PW_DOM_CFG_WAKE_ON_ACCESS 61) 1).setDom 61 dRETAINED
  { u with wh := { u.wh with cxq := [⟨.portB, R_TL_CFG, none, false, none⟩] } }

/-- Port 0 is a Runnel port of 16 lanes. -/
def runnelS : State := (State.reset.put (PORT_CFG_KIND 0 0) kindRunnel).put (PORT_CFG_WIDTH 0 0) 3

/-- The same with its link ACTIVE on every lane. -/
def upS : State :=
  ((((runnelS.setLst 0 lkACTIVE).pput LNK_LANES_OK 0 0xFFFF).pput LNK_STAT_WIDTH 0 16).pput LNK_STAT_RATE 0 3).pput LNK_WINDOW_SLOTS 0 2 |>.lkMap 0 (fun x => { x with txMap := 0xFFFF, rxMap := 0xFFFF })

def runnelCmd (op : Nat) : State := runIn runnelS 0 (cmd0 op)

def portCmd (op : Nat) : State := runnelCmd op

def widthS' (op : Nat) : State := runIn upS 0 (cmd0 op)

def widthS : State := widthS' 0x0222

def linkSetS : State := runnelCmd 0x0220

/-- GRACE, TLOCK, ERRCRIT, ACK, TMO, RECAL, LANECRIT and INT_EN as they read after reset. -/
def linkCrit : List Nat :=
  [R_LNK_GRACE 0 0, R_LNK_TLOCK 0 0, R_LNK_ERRCRIT 0 0, R_LNK_ACK 0 0, R_LNK_TMO 0 0, R_LNK_RECAL 0 0, R_LNK_LANECRIT 0 0,
    R_LNK_INT_EN 0 0].map State.reset.rd

def linkMem : List Nat := [200, 0, 0, 100, 100, 100, 100, 100]

def slotS : State := State.reset.put (PORT_CFG_KIND 0 0) kindDown

/-- Bank 0 is retired. -/
def bankS : State := State.reset.put (CT_STAT_STATE 0) 1

/-- A TIME packet of a subtype, with XSEQ 7. -/
def timeP (sub : Nat) : Pkt := pkt0 kTIME 0 4 3 0 0 [BitVec.ofNat 32 (sub + 7 * 256), 0, 0]

/-- A packet waits at port 0, which is the parent port and has an exchange open. -/
def nearWith (p : Pkt) : State :=
  { runnelS with tm := { parent := some 0, exch := [(0, ⟨7, 0, 0, 0⟩)] }, lnk := { near := [(0, 5, p)] } }

def nearS (n : Nat) : State := nearWith (timeP n)

/-- An ANNOUNCE of port 0 has reached timebase tile 9. -/
def annS : State :=
  { runnelS with mesh := { arrived := [(9, { timeP 4 with src := tileEid 0 (ptTile 0) })] } }

def helloS : State := nearWith { timeP 0 with kind := kMGMT }

/-- Ticks fire. -/
def tickS : State :=
  { (State.reset.put TM_FRAME_CTL_EN 1).put TM_FRAME_CTL_FREE 1 with tm := { last := some 0, hdl := 0 } }

def tickCmd (op : Nat) : State := runIn tickS 0 (cmd0 op)

/-- The Wellhead has a barrier open. -/
def whBarS : State := { State.reset with ord := { bars := [⟨whTile, 1, 0, 0, .ok, none, [], 0⟩] } }

def atomP : Pkt := { pktOf kATOMIC 6 with data := [1, 0, 0, 0, 0, 0] }

/-- An entry that waits for the completion of a read. -/
def roE : RoEntry := ⟨0, 1, 0, 0, .native 0 0, pktOf kREAD 1, none, 4⟩

def roS : State := { State.reset with req := { ro := [(roKey 0 0, roE)] } }

def cplP : Pkt := pktOf kCPL 0

def cplS : State := { roS with mesh := { arrived := [(0, cplP)] } }

def flyF (ret : Bool) : Flight := ⟨0, 0, 1, 0, 0, 1, ret, none, pktOf kWRITE_P 1, 0, 0⟩

def flyS (ret : Bool) : State := { State.reset.setPlane 0 pIN with mesh := { fly := [flyF ret], nextFly := 1 } }

/-- Both planes are in service and the plane domains are awake. -/
def planesS : State := State.forEach ((State.reset.setPlane 0 pIN).setPlane 1 pIN) (List.range' 52 8) (fun d s => s.setDom d dON)

def returnS : State := planesS.setPlane 0 pRETURNING

def queueE : QEnt := ⟨0, 7, 0, pktOf kWRITE_P 1⟩

/-- A packet waits at the ACTIVE port 0 with credit. -/
def queueS : State :=
  { upS with sch := { eq_ := [queueE] }, lnk := { upS.lnk with cum := [(vnKey 0 0, 50)] } }

/-- Port 0 is an ACTIVE PCI Express port in FLIT mode. -/
def pcieS (kind : Nat) : State :=
  let u := (State.reset.put (PORT_CFG_KIND 0 0) kind).put (PORT_CFG_WIDTH 0 0) 3
  ((((u.setLstat 0 lsACTIVE).put (PCFG_LSTAT_FLIT 0 0) 1).put (PCFG_EN 0 0) 1).put (PCFG_LSTAT_WIDTH 0 0) 16).put (PCFG_LSTAT_RATE 0 0) 5

def queueP : State :=
  { pcieS kindDown with sch := { eq_ := [queueE] }, pc := { credit := [(0, 50), (1, 50)] } }

/-- Ticks fire and port 0 has a list of two entries. -/
def gclS : State :=
  let u := (tickS.put (PORT_CFG_KIND 0 0) kindRunnel).put (GCL_CTL_EN 0 0) 1
  u.writeList 0 0 [(0, 255, false), (100, 1, true)]

/-- A record that delivers a stream at engine 0. -/
def streamR : StreamRec :=
  { stream := 1, role := 0, path := 1, pl := 3, inp := 0, outPort := 0, outTile := 0, open_ := 0, close := 2000, budget := 1, maxlen := 1,
    lat := 5000, dest := 31, base := 0, size := 12, xlat := 0, elim := 0 }

/-- A state whose mailbox 0 has a record in its body. -/
def withRec (s : State) (r : StreamRec) : State := s.forEach (recWords r).zipIdx (fun x u => u.wr (R_MB_CMD 0 (4 + x.2)) x.1)

def streamS : State := withRec (cmdS 0 0x0401) streamR

def jobP : Pkt := { pktOf kJOB 16 with addr := 2 }

def jobS : State := (arrS (ktTile 0) jobP).put (KT_Q_CFG_EN 0 2) 1

def queuedJ : QJob := ⟨0, 2, List.replicate 16 0, 0, 0⟩

/-- Engine 0 is enabled and a job waits in queue 2. -/
def queuedS : State :=
  { (State.reset.put (KT_CTL_EN 0) 1).put (KT_Q_CFG_EN 0 2) 1 with kt := { queue := [queuedJ] } }

def runningJ (q : Nat) : RunJob := { newRun 0 q 0 0 ⟨0, q, List.replicate 16 0, 0, 0⟩ with jst := some 0 }

def runningS (q : Nat) : State := { State.reset.put (KT_STAT_STATE 0) ktRUNNING with kt := { run := [runningJ q] } }

def waitingJ : RunJob := newRun 0 0 0 32 ⟨0, 0, [], 0, 0⟩

def waitingS : State := { State.reset with kt := { run := [waitingJ] } }

/-- A frame program of engine 0 is enabled and ticks fire. -/
def fpS : State := (tickS.put (FP_CTL_EN 0 0) 1).put (KT_CTL_EN 0) 1

def scatX : ScatRec := ⟨0, ⟨0, 2, 0, none, false, 0⟩, none, 0, [], false, none⟩

def nopDesc : List Word := 8 :: List.replicate 15 0

def plumeN : List PlumeNode := [(ktTile 0, 7, 0, [31])]

/-- Partition 0 is mirrored and DEGRADED; `lost` names the lost copy. -/
def mirrorS (lost : Nat) : State :=
  let u := ((((State.reset.put (PART_SIZE_UNITS 0) 1).put (PART_CTL_EN 0) 1).put (PART_CTL_MOFS 0) 1).put (PART_STAT_DEGRADED 0) 1)
  runIn (u.put (PART_STAT_LOST 0) lost) 0 (cmd0 0x0509)

def barB : Bar := ⟨5, 1, 0, 0, .ok, none, [], 0⟩

def barS : State := { State.reset with ord := { bars := [barB] } }

def ordO : FlushOrd := ⟨5, false, 0, 0, 0, 0, [], 0⟩

def hostN : State := pcieS kindHost

/-- Port 0 is the host port of partition 1. -/
def hostS : State := (hostN.put (GLB_HPART_HOST_A_EID 1) (hostN.viewEid 0 1)).put (GLB_HPART_CTL_EN 1) 1

def downS : State := pcieS kindDown

def downC : State := runIn downS 0 (cmd0 0x0206)

def sharedS : State := runIn (downS.put (PCFG_SHARED 0 0) 1) 0 (cmd0 0x0203)

def tlpMRd : Tlp := { tlp0 with typ := tyMRd, hlen := 3, cls := 1 }

/-- Slot 0 belongs to the downstream port 0. -/
def slotSt (st : Nat) : State := (((State.reset.put (PORT_CFG_KIND 0 0) kindDown).put (PORT_CFG_WIDTH 0 0) 3).put (SLOT_CFG_EN 0) 1).put (SLOT_STAT_STATE 0) st

def slotSt' (st prsnt : Nat) : State := (slotSt st).put (SLOT_STAT_PRSNT 0) prsnt

def slotWant : State := ((slotSt' slOFF 1).put (SLOT_CTL_POWER 0) 1)

/-- Host port 0 serves partition 1; basin 1 is ACTIVE with binding 0 to engine 0. -/
def bellWith (ring : Nat) : State :=
  let u := ((((hostS.setCfg 1 dvMgmt rgCommand 2).put (GLB_HPART_CTL_PRIV 1) 1).put (BSN_CTL_STATE 1) bACTIVE).put (BSN_CTL_HPART 1) 1).put (BIND_CTL_EN 1 0) 1
  let v := (u.put (BIND_CTL_RING 1 0) ring).put (BIND_CTL_QUEUE 1 0) 2
  { v with bsn := { map := [⟨1, 0, 0, true, 1⟩] } }

def bellS : State := bellWith 0

def ringS : State := (bellWith 1).put (BIND_CTL_RING 1 0) 1

def ringMsgS : State :=
  { ((State.reset.put (BIND_CTL_EN 1 0) 1).put (BIND_CTL_RING 1 0) 1) with
    mesh := { arrived := [(ktTile 0, { pktOf kMSG 0 with addr := 0x10601, basin := 1 })] } }

/-- Basin 1 is RESETTING and its flush is complete. -/
def resetS : State :=
  { State.reset.put (BSN_CTL_STATE 1) bRESETTING with ord := { flushes := [⟨0, 0, .ok⟩] }, bsn := { wait := [(1, 0)] } }

def basinNew : State := runIn (State.reset.put (GLB_HPART_CTL_EN 1) 1) 0 (cmd1 0x0601)

/-- Basin 1 is ACTIVE. -/
def basinCmdS (op : Nat) : State := runIn (State.reset.put (BSN_CTL_STATE 1) bACTIVE) 0 (cmd1 op)

/-- A partition open to basins holds the log buffers of basin 1. -/
def logS (op : Nat) : State :=
  (((basinCmdS op).put (PART_CTL_EN 0) 1).put (PART_CTL_USE 0) 3).put (PART_SIZE_UNITS 0) 2

/-- Domain 16 stands in a state, with a sleep target and no vote. -/
def idleDom (st : Nat) : State := (State.reset.put (PW_DOM_CFG_TARGET 16) tgRETAINED).setDom 16 st

def abortS : State := (idleDom dCLOSING).put (PW_DOM_VOTE_WH 16) 1

/-- Sensor 0 reads a temperature in quarter degrees. -/
def hotS (t : Nat) : State := (State.reset.put (PW_TS_VALID 0) 1).put (PW_TS_TEMP 0) t

/-- Mailbox 0 has been rung with a command. -/
def rungS (op seq : Nat) : State :=
  let u := ((State.reset.setWh whUP).wr (R_MB_CMD 0 0) op).wr (R_MB_CMD 0 2) seq
  { u with wh := { u.wh with rung := [0] } }

def bootS : State := { State.reset with wh := { imgWait := false } }

def whS : State := bootS.setWh whUP

/-- An update is open. -/
def imgCmd (op : Nat) : State := runIn (State.reset.put GLB_WH_STAT_UPD uOPEN) 0 (cmd0 op)

/-- An unsigned image that passes every check stands in slot 1, which the update writes. -/
def imgS : State :=
  let u := (imgCmd 0x0A03).cisWrite (slotBase 1) [0x49, 0x57, 0x46, 0x4F, 1, 0, 0, 0]
  { u with wh := { u.wh with minMajor := some 0 } }

/-- A kept flit of port 0 without packets. -/
def keptF : KFlit := ⟨0, 4, 0, noStart, false, 0, [], [], none⟩

/-- A TIME packet in the ingress storage of port 0. -/
def inP : InPkt := ⟨0, timeP 1, 0, true, none, false, false⟩

/-- A training block of lane 15 with its CRC. -/
def blk0 : TrainBlk := State.myBlock upS 0 15

def blkWs : List Nat := blk0.words

/-- Dword `i` of that block. -/
def blkW (i : Nat) : Nat := blkWs.getD i 0

/-- A map marker that brings lanes 0 to 3. -/
def markerB : List Nat := (leBytes 4 0x5A3CC3A5 ++ [0, 0, 15, 0, 0, 0, 0, 0, 0, 0]) ++ leBytes 2 (crc16 (leBytes 4 0x5A3CC3A5 ++ [0, 0, 15, 0, 0, 0, 0, 0, 0, 0]))

/-- A LOCAL barrier VDM with token 5. -/
def vdmX : Tlp := { tlp0 with typ := tyVdm, rid := 0, msg := 1 + 1 * 2 ^ 8 + 5 * 2 ^ 16 }

/-- The trace tile's domain is CLOSING when a ring is enabled. -/
def depS : State := (((State.reset.put (PW_DOM_CFG_TARGET 61) tgRETAINED).setDom 61 dCLOSING).put (TL_CTL_EN 0) 1)

def whRunS : State := { State.reset.setWh whUP with wh := { State.reset.wh with entered := true } }

/-- Port 0 has sent all that its window lets it keep. -/
def fullS : State := { upS with lnk := { upS.lnk with keep := List.replicate (upS.window 0) keptF } }

/-! ### Worked examples of the spec, and single steps -/

/-- The next state of an outcome; reset where there is none. -/
def nextOf (o : Host.Outcome State Fault Refusal) : State :=
  match o with
  | .next t => t
  | _ => State.reset

/-- What the last access of a master returned. -/
def got (s : State) (m : Master) : Option Acc := tget s.acc (masterIdx m)

/-- One step with a command at the front of the queue. -/
def ran (s : State) (c : Instr) : State := nextOf (step { s with pending := [c] })

/-- Offsets of "Worked example: locating registers and endpoints" (00_scope.md) and of the examples of 06, 07 and 17. -/
theorem test_register_offsets :
    R_RT_ID 1 27 = 0x2B6000 ∧ R_GD_CTL 29 = 0x057400 + 0x200 ∧ R_BSN_CTL 1023 = 0x6FFC00 ∧ R_GCL_ENT0 1 64 = 0x112200 ∧
    R_GCL_SWAP_LO 1 0 = 0x114008 ∧ R_FP_CTL 0 1 = 0x408840 ∧ C_LNK_REPLAY 1 0 = 0x118138 := by decide +kernel

/-- Endpoints of the examples of 00_scope.md and 03_packets_and_addresses.md. -/
theorem test_endpoint_identifiers :
    tileEid 0x012 (ktTile 4) = 0x0125BF ∧ tileEid 0x3A0 (ctTile 9) = 0x3A029F ∧ eidNode 0x2A5223 = 0x2A5 ∧
    eidPort 0x2A5223 = 17 ∧ eidSub 0x2A5223 = 3 := by decide +kernel

/-- Table 3-10: the header of the READ. -/
def table310 : Pkt :=
  { pkt0 kREAD 2 0 256 0x3A029F 0x0125BF [] with repoch := 1, priv := 1, gen := 5, tag := 0x123, addr := 0x48000 }

theorem test_read_header : (List.range 6).map (hdrWord table310) =
    [0x01000201, 0x033A029F, 0x050125BF, 0x00000123, 0x00048000, 0] := by decide +kernel

/-- Table 2-7: the node as it enters sleep. -/
def table27 : State :=
  { (State.reset.wr R_TM_AREF_TRIM (2 ^ 32 - 12)).put TM_FRAME_CTL_EN 1 with
    tm := { entryAt := some ((5000 * 10 ^ 9 + 123456789) * 2 ^ 32), hdl := 80001975, tclk := false } }

def table27b : State := (table27.put TM_STATUS_VALID 1).ledgerLoad 250000123

theorem test_ledger_load_time : table27b.nowSec = 5010 ∧ table27b.nowNs = 123461588 ∧ table27b.nowFrac = 65532 := by
  decide +kernel

theorem test_ledger_load_error : table27b.get TM_HOLD_ERR_ERR = 0x3EA0 ∧ table27b.cnt C_TM_MISSED_TICKS = 160000 ∧
    table27b.tm.hdl = 80161975 := by decide +kernel

/-- Table 17-10: the counter as Port B starts, and after five replays. -/
def table1710 : State := { State.reset with ctrs := [(0x118138, 0x1FFFFFFFE)] }

def table1710b : State := (ran table1710 (.counterSnapshotRead .portB 0x118138)).bump 0x118138 5

def table1710c : State := ran table1710b (.counterSnapshotRead .debug 0x118138)

theorem test_snapshot_low_words :
    got table1710b .portB = some ⟨.ok, 0xFFFFFFFE⟩ ∧ got table1710c .debug = some ⟨.ok, 3⟩ := by decide +kernel

theorem test_snapshot_high_words :
    got (ran table1710c (.registerRead .portB 0x11813C)) .portB = some ⟨.ok, 1⟩ ∧
    got (ran table1710c (.registerRead .debug 0x11813C)) .debug = some ⟨.ok, 2⟩ := by decide +kernel

/-- A cleared counter reads 0, and the latches keep their words. -/
theorem test_counter_clear_keeps_latches :
    (ran table1710c (.counterClear .wellhead 0x118138)).cnt 0x118138 = 0 ∧
    (ran table1710c (.counterClear .wellhead 0x118138)).latch = table1710c.latch := by decide +kernel

/-- A saturated counter (17_register_map.md). -/
theorem test_saturated_counter_words :
    let s : State := { State.reset with ctrs := [(0x118138, ctrMax)] }
    (s.regRead .portB 0x118138).1 = 0xFFFFFFFF ∧ s.ctrHi 0x118138 = 0x8000FFFF := by decide +kernel

/-- R1: GLB_ID; R9: a write of a read-only register is OK and drops. -/
theorem test_identification :
    got (ran State.reset (.registerRead .portB R_GLB_ID)) .portB = some ⟨.ok, 0x4F464301⟩ ∧
    got (ran State.reset (.registerWrite .portB R_GLB_ID 5)) .portB = some ⟨.ok, 0⟩ ∧
    (ran State.reset (.registerWrite .portB R_GLB_ID 5)).rd R_GLB_ID = 0x4F464301 := by decide +kernel

/-- An unoccupied offset (R13). -/
theorem test_unoccupied_offset :
    got (ran State.reset (.registerRead .portB 0x3C0000)) .portB = some ⟨.unsupported, 0⟩ := by decide +kernel

/-- The node ID after a write. -/
theorem test_node_write : (ran State.reset (.registerWrite .wellhead R_GLB_NODE 0x2A5)).node = 0x2A5 := by decide +kernel

/-- Of two commands in the queue the one in front runs and the other waits. -/
theorem test_first_in_first_out :
    (nextOf (step { State.reset with pending := [.receipt 0, .wakeIn] })).pending = [.wakeIn] := by decide +kernel

/-- R214: the check values over the ASCII bytes "123456789". -/
theorem test_crc_check_values :
    let bs := [0x31, 0x32, 0x33, 0x34, 0x35, 0x36, 0x37, 0x38, 0x39]
    crc32c bs = 0xE3069283 ∧ crc64 bs = 0x995DC9BBDF1939FA := by decide +kernel

/-- R265: two wrong bytes of a codeword are corrected, wherever they stand. -/
theorem test_two_symbols_are_corrected :
    let d := [1, 2, 3, 250, 0, 7]
    rsDecode (fixAt (fixAt (d ++ rsParity d) 0 0x5A) 9 0x81) = some (d ++ rsParity d, [0, 9]) := by decide +kernel

/-! ### Ill-formed terms -/

/-- For each check of Instr.wf a term just past its bound, which it refuses. -/
theorem test_each_check_refuses_an_ill_formed_term :
    ([.registerWrite .portB (2 ^ 24) 0, .counterSnapshotRead .portB (2 ^ 24), .counterClear .portB (2 ^ 24),
      .stageLowWord .portB (2 ^ 24) 0, .commitHighWord .portB (2 ^ 24) 0, .syncIntervalExpiry 128, .sync 128, .dreq 128,
      .dresp 128, .announce 128, .timeSetTod 2 0, .timeAdjust 2 false 0, .frameSet 2 0 0 0, .timePtpTs 2 0, .timeTbResync 2,
      .packetInject 64, .read 64, .flushingRead 64, .writeP 64, .writeNp 64, .atomic 64, .reserveRead 64, .condWrite 64, .msg 64,
      .cpl 64, .completionTimeout 64 0, .completionTimeout 0 65536, .quarantineEnd 64 0, .quarantineEnd 0 65536,
      .packetDelivery 64 0 0 0, .packetDelivery 0 64 0 0, .packetDelivery 0 0 2 0, .packetDelivery 0 0 0 8,
      .transitKeyAgeOut 64 0 0, .transitKeyAgeOut 0 65536 0, .transitKeyAgeOut 0 0 65536, .receipt 64, .flowFenceRelease 64 0,
      .flowFenceRelease 0 64, .creditReturn 2 0 0 0] : List Instr).all (fun i => !i.wf) = true ∧
    ([.creditReturn 0 64 0 0, .creditReturn 0 0 5 0, .creditReturn 0 0 0 8, .planeReqClear .portB 2, .planeReqSet .portB 2,
      .planeFenceDone 2, .planeHardFault 2 0 0 0 0, .planeHardFault 0 0 64 0 0, .planeHardFault 0 0 0 0 8, .endWord 64 0,
      .endWord 0 64, .planeResendDone 2, .planeSelftestDone 2 false, .routerCe 2 0 0 0, .routerCe 0 64 0 0, .routerCe 0 0 5 0,
      .routerCe 0 0 0 8, .routerFenceSet .portB 2 0 0, .routerFenceSet .portB 0 64 0, .routerInputDrained 2 0 0,
      .routerInputDrained 0 64 0, .routerInputDrained 0 0 5, .hiWeightWrite .portB 2 0 0, .hiWeightWrite .portB 0 64 0,
      .routeSetNode 2 0 0 0, .routeNeighbours 2, .routeLoad 2 0 [] [], .routeCommit 2 0, .routeFlip 2 0, .routeDrainStat 2,
      .routeFree 2 0, .quietSwitchEnd 64, .helloIntervalExpiry 128, .hello 128, .elimAgeExpiry 64 0, .elimAgeExpiry 0 1024,
      .elimEntryWrite .portB 64 0 0, .elimEntryWrite .portB 0 1024 0, .packetStart 128, .gclEntryChange 128] : List Instr).all (fun i => !i.wf) = true ∧
    ([.gclSwapArm .portB 128 0, .shaperRefill 128 0, .shaperRefill 0 8, .streamHoldRelease 16 0, .streamHoldRelease 0 64,
      .streamAdd 2 streamR, .streamDel 2 0 0 0, .streamQuery 2 0 0 0, .gclLoad 2 0 [], .gclSwap 2 [] 0, .shaperSet 2 0 0 0 0 0,
      .fqSet 2 0 0 0, .telSet 2 0 0 0 [], .telemetrySample 128, .scrub 24, .bankFault 24, .snapshotCommit 64,
      .publicationDecision 64, .cascadeJob 12, .jobStart 12, .jobComplete 12, .engineFault 12 0, .fpStart 12 0, .fpStart 0 8,
      .fpComplete 12, .fpWeirAbort 12 0, .fpWeirAbort 0 8, .plumePacket 64, .ktQueueSet 2 0 0 0 0, .fpLoad 2 0 0 0 0 0 0 0 [],
      .fpSwap 2 [] [] 0, .snapSet 2 0 0 0, .ktReset 2 0, .plumeSet 2 0 [], .partSet 2 0 0 0 0, .partSeal 2 0, .partResync 2 0,
      .ktQuery 2 0, .whBarrierWrite 4, .localBarrierComplete 64] : List Instr).all (fun i => !i.wf) = true ∧
    ([.barrier 64, .barrierAck 64, .barrierTimeout 4096, .flitReceive 0 [] [] [] [] [] [], .flitReceive 128 [0, 0, 0, 0] (List.replicate 296 0) (List.replicate 8 0) [0, 0, 0, 0] [0, 0, 0, 0] [0, 0, 0, 0],
      .flitReceive 0 [0, 0, 0, 256] (List.replicate 296 0) (List.replicate 8 0) [0, 0, 0, 0] [0, 0, 0, 0] [0, 0, 0, 0], .ack 128 0, .ack 0 65536, .nak 128 0,
      .nak 0 65536, .ackTimerExpiry 128, .nakResendExpiry 128, .credit 128 0 0, .credit 0 5 0, .ingressRelease 128 0,
      .ingressRelease 0 5, .mapReq 128 0 0 0 0 0, .mapReq 0 65536 0 0 0 0, .mapRsp 128 0 false, .mapRsp 0 65536 false,
      .lanesReady 128 0, .lanesReady 0 65536, .lanesReadyTimeout 128, .mapMarkerSend 128, .mapMarkerReceive 128 (List.replicate 16 0), .mapMarkerReceive 0 [0], .mapMarkerReceive 0 (List.replicate 16 256),
      .laneIdleAfterMarker 128, .laneFail 128 0, .laneLockLoss 128 0, .lockCriterionExpiry 128, .stop 128, .retrainReq 128,
      .linkEnSet .portB 128, .linkEnClear .portB 128, .lnkRetrainWrite .portB 128, .signalDetect 128 0, .symbolLock 128 0,
      .trainTmoExpiry 128, .trainingBlock 128 0 0 0 0 0 0 0 0 0 0 0 0 0 [0, 0, 0, 0, 0] 0, .trainingBlock 0 16 0 0 0 0 0 0 0 0 0 0 0 0 [0, 0, 0, 0, 0] 0,
      .trainingBlock 0 0 0 0 0 0 0 0 0 0 0 0 0 0 [0] 0, .trainingBlock 0 0 (2 ^ 32) 0 0 0 0 0 0 0 0 0 0 0 [0, 0, 0, 0, 0] 0, .retrainTmoExpiry 128, .graceExpiry 128,
      .eidleRelease 128, .recalPeriodExpiry 128] : List Instr).all (fun i => !i.wf) = true ∧
    ([.recalAck 128 0, .recalTimeout 128, .linkSet 2 0 0 [] none 0 false, .linkRetrain 2 0, .linkWidth 2 0 0, .linkRecal 2 0 0,
      .linkLaneReturn 2 0 0, .linkQuery 2 0, .hostTlp 128 tlp0 [], .downstreamTlp 128 tlp0 [], .pctoExpiry 128 0,
      .pctoExpiry 0 65536, .configRequest 128 tlp0 [], .vdmBarrier 128 0 0 0 0, .vdmBarrier 0 65536 0 0 0, .vdmBarrier 0 0 0 4 0,
      .dpcTrigger 128 0, .ptmRequest 128, .secondaryBusReset 30 0, .functionLevelReset 128 0, .functionLevelReset 0 65536,
      .slotCfgEn .portB 64 false, .slotPrsntChange 64 false, .slotPowerOn 64, .slotPgood 64 false, .slotPgTimeout 64,
      .slotPerstTimer 64, .slotDlActive 64 0 0 false false 0, .slotLinkTimeout 64, .slotSurpriseDown 64 false, .slotFlt 64 0,
      .slotSettleExpiry 64, .slotReinsert 64, .slotRetry 64, .slotClrFault .portB 64, .slotPowerOff .portB 64, .attentionButton 64,
      .pmbusPoll 64 none none none none none, .portSet 2 0 0 0 0, .hpartSet 2 0 0 0 0 []] : List Instr).all (fun i => !i.wf) = true ∧
    ([.fnBind 2 0 [], .slotSet 2 0 0 0 0 0, .slotPower 2 0 0, .portDpcRelease 2 0, .portQuery 2 0,
      .doorbellPushWrite 128 0 0 none 0 0 [], .doorbellPushWrite 0 30 0 none 0 0 [], .doorbellPushWrite 0 0 65536 none 0 0 [],
      .doorbellRingWrite 128 0 0 none 0 0 0, .doorbellRingWrite 0 30 0 none 0 0 0, .doorbellRingWrite 0 0 65536 none 0 0 0,
      .ringDoorbellMsg 12, .consWriteback 1024, .vectorUnmask .portB 1024 0, .vectorUnmask .portB 0 8, .dirtyMark 24,
      .basinCreate 2 0 0 0 0 0 0 [] [], .basinReset 2 0, .basinResetDone 1024, .basinDestroy 2 0, .basinMapAdd 2 0 [],
      .basinMapDel 2 0 [], .basinLogSet 2 0 0 0 0 0 false, .basinHarvest 2 0, .basinQuery 2 0, .guardSwapGo .portB 30,
      .sealBitWrite .portB 32, .guardLoad 2 0 0 [], .guardSwap 2 0 0, .guardQuery 2 0, .lockSet 2 0, .scQuery 2,
      .debugAccess (2 ^ 24) none, .hysteresisExpiry 63, .entryRetry 63, .domainClosed 63, .domainDrained 63, .drainTimeout 63,
      .retentionSaveDone 63, .retentionToOff 63] : List Instr).all (fun i => !i.wf) = true ∧
    ([.domainWake 63, .entryAbort 63, .wakeComplete 63, .edgeWake .portB 63, .wakeOnAccessTimeout 3, .accessHoldExpiry 63,
      .powerVote 2 0 false, .powerDomainSet 2 0 0, .powerLevel 2 0, .powerFullRet 2, .pllLock 23 0, .pllLockLoss 23,
      .sensorTimeout 16, .powerLedger 2, .powerQuery 2, .thermalSet 2 0, .safeClear 2, .supplyLoss 63, .supplyGoodTimeout 63,
      .burstHoldExpire 3, .semAcquire .portB 32, .semRelease .portB 32 0, .semLeaseExpiry 32, .mailboxDoorbell .portB 2,
      .mailboxAck .portB 2, .identify 2, .caps 2, .echo 2 [], .fwLog 2, .updateBegin 2, .updateWrite 2 0 [], .updateVerify 2,
      .updateActivate 2 0, .updateCancel 2, .updateStatus 2, .errRead 2, .errClear 2 0, .eventMap 2 [] 0, .counters 2 [],
      .errInject 2 0 0 0 0] : List Instr).all (fun i => !i.wf) = true ∧
    ([.bankReturn .portB 24, .bankSelftestDone 24 false, .coldReset [] false 64, .imageLoadWrite 2 0 0 0,
      .imageLoadWrite 0 131072 0 0, .imageLoadWrite 0 0 (2 ^ 32) 0, .imageLoadWrite 0 0 0 (2 ^ 32), .imageLoadDone 2,
      .mgmtPacket 64, .hostLinkDown 128, .hostLinkUp 128 0 0 false false 0, .scatterRecordTime 12, .basinReleaseComplete 1024,
      .guardSwapLimitExpiry 2, .cisternApertureAccess .portB (2 ^ 24) none, .registerRead .portB (2 ^ 24), .shedMissTimeout 128,
      .eidleAckWaitExpiry 128, .pcieCreditUpdate 128 0 0 0] : List Instr).all (fun i => !i.wf) = true := by decide +kernel

theorem test_last_units_are_well_formed :
    ([.sync 127, .read 63, .jobStart 11, .scrub 23, .creditReturn 1 63 4 7, .imageLoadWrite 1 131071 0 0, .identify 1] : List Instr).all
      (fun i => i.wf) = true := by decide +kernel

/-! ### Witnesses of the statements about single units -/

theorem witness_EmptyQueueLetsOneCyclePass : ∃ s : State, s.pending = [] := ⟨State.reset, rfl⟩

/-- The clocks stand still in full retention. -/
theorem witness_StoppedClocksKeepEveryValue : ∃ (c : Instr) (s : State), s.stopped = true ∧ c.reachesSleepers = false :=
  ⟨.creditReturn 0 0 4 0, { State.reset with pw := { full := 2 } }, by decide +kernel⟩

/-- The local port of the last tile, and a link of the grid. -/
theorem witness_CreditReturnToAFullCounterFaults :
    (∃ (s : State) (p ti vc : Nat), p < 2 ∧ hasPort ti 4 = true ∧ vc < 8 ∧ s.stopped = false ∧ tgetD s.mesh.credUsed (credKey p ti 4 vc) 0 = 0) ∧
    (∃ (s : State) (p ti dd vc : Nat), p < 2 ∧ hasPort ti dd = true ∧ dd < 4 ∧ vc < 8 ∧
      bit (s.get (RT_FENCE_PORTS p (nextTile ti dd))) (backDir dd) = false ∧ s.stopped = false ∧
      tgetD s.mesh.credUsed (credKey p ti dd vc) 0 = 0) :=
  ⟨⟨State.reset, 1, ptTile 15, 7, by decide +kernel⟩, ⟨State.reset, 1, 63, 0, 7, by decide +kernel⟩⟩

theorem witness_EveryStepSettlesTheInterrupts :
    (∃ s t : State, step s = .next t ∧ s.stopped = false) ∧ (∃ s t : State, step s = .next t ∧ s.settled ∧ s.stopped = true) :=
  ⟨⟨State.reset, State.reset.idle.settle, rfl, by decide +kernel⟩,
   ⟨{ State.reset with pw := { full := 2 }, irq := { prev := ({ State.reset with pw := { full := 2 } } : State).levels } }, _, rfl, by decide +kernel⟩⟩

/-- A fault record is unread, so the level of source 0 has risen. -/
theorem witness_MessagesGoOutOnRisesAlone : ∃ s : State, s.guardWaits = s ∧ bit s.levels 0 = true ∧ bit s.irq.prev 0 = false :=
  ⟨State.reset.put GLB_FLT_WR_UNREAD 1, by decide +kernel⟩

theorem witness_SnapshotReadsLatchForTheirReader :
    (∃ (off : Nat) (p : RegPlace) (r : RegRow) (d : Nat), decodeOffset off = some p ∧ regRow off = some (r, d) ∧
      (r.kind = .pair ∨ r.kind = .cntLo) ∧ r.isHi p.rel = false) ∧
    (∃ (off : Nat) (p : RegPlace) (r : RegRow) (d : Nat), decodeOffset off = some p ∧ regRow off = some (r, d) ∧ r.isHi p.rel = true) := by
  refine ⟨⟨C_GLB_SM_IGNORED, _, _, _, rfl, rfl, ?_, ?_⟩, ⟨C_GLB_SM_IGNORED + 4, _, _, _, rfl, rfl, ?_⟩⟩ <;> decide +kernel

theorem witness_LowWritesStageAndHighWritesCommit : ∃ (s : State) (m : Master) (lo v : Nat) (q r : RegRow), Pair64 s m lo q r ∧ v < 2 ^ 32 := by
  refine ⟨State.reset, .portB, R_SNAP_INT_EN_LO, 0xFFFFFFFF, ((regRow R_SNAP_INT_EN_LO).get (by decide +kernel)).1,
    ((regRow R_SNAP_INT_EN_HI).get (by decide +kernel)).1, ⟨?_, ?_, ?_, ?_, ?_, ?_, ?_, ?_, ?_, ?_, ?_, fun _ => rfl, fun _ => rfl⟩, ?_⟩
  all_goals decide +kernel

/-- The first dword past the bank regions. -/
theorem witness_UnoccupiedOffsetsAnswerUnsupported :
    (∃ (s : State) (m : Master) (off t : Nat), m ≠ .debug ∧ s.cxOn = true ∧ s.stopped = false ∧ s.wh.cxq = [] ∧ s.portRight m off false = true ∧
      cxTarget off = some t ∧ cxPath m t = true ∧ off < 0x800000 ∧ (regRow off).isNone = true) ∧
    (∃ (s : State) (m : Master) (off t : Nat), m ≠ .debug ∧ s.cxOn = true ∧ s.stopped = false ∧ s.wh.cxq = [] ∧ s.portRight m off true = true ∧
      cxTarget off = some t ∧ cxPath m t = true ∧ off < 0x800000 ∧ (regRow off).isNone = true) :=
  ⟨⟨State.reset, .portB, 0x3C0000, 6, by decide +kernel⟩, ⟨State.reset, .portB, 0x6FFFFE, 6, by decide +kernel⟩⟩

/-- Lock group 0 covers the swap register of guard 15; group 6 is the last. -/
theorem witness_LockedRegistersDropEveryWrite :
    (∃ (s : State) (m : Master) (off g d : Nat) (r : RegRow), regRow off = some (r, d) ∧ r.kind = .plain ∧ lockGroup off = some g ∧
      bit (s.get SC_LOCK_GROUPS) g = true ∧ (r.rw ||| r.w1c ||| r.w1s ||| r.wo) &&& masterMask m off ≠ 0 ∧
      ((r.rw ||| r.w1c ||| r.w1s ||| r.wo) &&& masterMask m off) &&& lockMask off = (r.rw ||| r.w1c ||| r.w1s ||| r.wo) &&& masterMask m off) ∧
    (∃ (s : State) (v g : Nat), g < 7 ∧ (bit (s.get SC_LOCK_GROUPS) g = true ∨ bit v g = true)) := by
  refine ⟨⟨State.reset.put SC_LOCK_GROUPS 1, .debug, R_GD_SWAP 15, 0, ((regRow (R_GD_SWAP 15)).get (by decide +kernel)).2,
    ((regRow (R_GD_SWAP 15)).get (by decide +kernel)).1, ?_⟩, ⟨State.reset, 64, 6, by decide +kernel⟩⟩
  decide +kernel

theorem witness_CountersStopAtTheirLargestCount :
    (∃ (s : State) (off n : Nat), s.cnt off ≤ ctrMax ∧ s.cnt off + n ≤ ctrMax) ∧
    (∃ (s : State) (off n : Nat), s.cnt off ≤ ctrMax ∧ s.cnt off < ctrMax ∧ ctrMax ≤ s.cnt off + n) ∧
    (∃ (s : State) (off : Nat), s.cnt off ≤ ctrMax ∧ s.cnt off = ctrMax) :=
  ⟨⟨State.reset, C_GLB_SM_IGNORED, 5, by decide +kernel⟩,
   ⟨{ State.reset with ctrs := [(C_GLB_SM_IGNORED, 2 ^ 48 - 2)] }, C_GLB_SM_IGNORED, 1, by decide +kernel⟩,
   ⟨{ State.reset with ctrs := [(C_GLB_SM_IGNORED, 2 ^ 48 - 1)] }, C_GLB_SM_IGNORED, by decide +kernel⟩⟩

theorem witness_SemaphoresBelongToTheirOwner :
    (∃ (s : State) (m : Master) (n : Nat), n < 32 ∧ m ≠ .debug ∧ (s.get (SEM_OWN_OWNER n) = 0 ∨ s.get (SEM_OWN_OWNER n) = ownerId m)) ∧
    (∃ (s : State) (m : Master) (n : Nat), n < 32 ∧ m ≠ .debug ∧ s.get (SEM_OWN_OWNER n) ≠ 0 ∧ s.get (SEM_OWN_OWNER n) ≠ ownerId m) ∧
    (∃ (s : State) (m : Master) (n v : Nat), n < 32 ∧ m ≠ .debug ∧ s.get (SEM_OWN_OWNER n) = ownerId m ∧ v % 256 = ownerId m) ∧
    (∃ (s : State) (m : Master) (n v : Nat), n < 32 ∧ (s.get (SEM_OWN_OWNER n) ≠ ownerId m ∨ v % 256 ≠ ownerId m)) :=
  ⟨⟨State.reset, .portA 29, 31, by decide +kernel⟩,
   ⟨State.reset.put (SEM_OWN_OWNER 31) 1, .wellhead, 31, by decide +kernel⟩,
   ⟨State.reset.put (SEM_OWN_OWNER 0) 1, .portB, 0, 257, by decide +kernel⟩,
   ⟨State.reset.put (SEM_OWN_OWNER 0) 1, .portB, 0, 2, by decide +kernel⟩⟩

theorem witness_DoorbellsRingOnlyIdleMailboxes :
    (∃ (s : State) (m : Master) (mb v : Nat), mb < 2 ∧ bit v 0 = true ∧ s.sem0Other m = false ∧ s.get (MB_STAT_STATE mb) = mbIDLE ∧
      (s.whState = whUP ∨ s.whState = whBOOTING)) ∧
    (∃ (s : State) (mb : Nat), mb < 2 ∧ s.get (MB_STAT_STATE mb) ≠ mbIDLE) :=
  ⟨⟨State.reset.setWh whUP, .portA 29, 0, 1, by decide +kernel⟩, ⟨cmdS 1 0x0103, 1, by decide +kernel⟩⟩

/-- One record of class 5, unit 7 is unread at slot 63. -/
def recS (unread : Nat) : State :=
  (((State.reset.put GLB_FLT_WR_NEXT 0).put GLB_FLT_WR_UNREAD unread).wr (fltOff 63 0) (5 + 7 * 2 ^ 8))

theorem witness_FaultRecordsFoldOrAdvanceTheRing :
    (∃ (s : State) (c u : Nat), s.folds c u = true) ∧
    (∃ (s : State) (c u : Nat), c < 12 ∧ s.folds c u = false ∧ s.get GLB_FLT_WR_NEXT < 64 ∧ s.get GLB_FLT_WR_UNREAD ≤ 64) ∧
    (∃ (s : State) (c u : Nat), c < 12 ∧ s.folds c u = false ∧ s.get GLB_FLT_WR_NEXT < 64 ∧ s.get GLB_FLT_WR_UNREAD = 64) :=
  ⟨⟨recS 1, 5, 7, by decide +kernel⟩, ⟨recS 0, 11, 7, by decide +kernel⟩, ⟨recS 64, 5, 8, by decide +kernel⟩⟩

/-- The bank 0 holds a reservation of granule 0 for a key, or for none. -/
def resvS : State := { State.reset with ord := { resv := [⟨0, 0, 7, 0, none⟩] } }

theorem witness_ConditionalWritesNeedTheirReservation :
    (∃ (s : State) (a : Nat) (bs : List Nat) (k : ResKey), s.resOk a bs.length = true ∧
      (∃ r ∈ s.ord.resv, r.bank = bankOf a ∧ r.granule = a % 0x400000 / 2 ^ s.granLog ∧ r.src = k.src ∧ r.pasid = k.pasid ∧ r.basin = k.basin) ∧
      s.rowsOk (bankOf a) (a % 0x400000) bs.length = true ∧ s.sealed a = false ∧ s.sealed (a + bs.length - 1) = false) ∧
    (∃ (s : State) (a : Nat) (bs : List Nat) (k : ResKey), s.resOk a bs.length = true ∧
      s.rowsOk (bankOf a) (a % 0x400000) bs.length = true ∧ s.sealed a = false ∧ s.sealed (a + bs.length - 1) = false ∧
      ∀ r ∈ s.ord.resv, ¬ (r.bank = bankOf a ∧ r.granule = a % 0x400000 / 2 ^ s.granLog ∧ r.src = k.src ∧ r.pasid = k.pasid ∧ r.basin = k.basin)) :=
  ⟨⟨resvS, 252, [1, 2, 3, 4], ⟨7, 0, none⟩, by decide +kernel⟩, ⟨resvS, 252, [1, 2, 3, 4], ⟨7, 1, none⟩, by decide +kernel⟩⟩

theorem witness_BankWritesStoreTheirBytesAndNoOthers :
    (∃ (s : State) (a : Nat) (bs : List Nat), memWf s.cis.mem = true ∧ bs.length ≠ 0 ∧ (s.bankWrite a bs false none).1 = .ok) ∧
    (∃ (s : State) (a : Nat) (bs : List Nat), memWf s.cis.mem = true ∧ (s.bankWrite a bs false none).1 ≠ .ok) :=
  ⟨⟨State.reset, 0x3FFFF8, [1, 2, 3, 4, 5, 6, 7, 8], by decide +kernel⟩,
   ⟨State.reset.put (CT_STAT_STATE 0) 1, 0, [1], by decide +kernel⟩⟩

/-- Partition 0, sealed, covers the whole of bank 0. -/
def sealS : State := ((State.reset.put (PART_SIZE_UNITS 0) 64).put (PART_CTL_EN 0) 1).put (PART_CTL_SEAL 0) 1

theorem witness_CisternRangesZeroAndCopy :
    (∃ (s : State) (src dst n : Nat), memWf s.cis.mem = true ∧ s.cis.mem ≠ [] ∧ (src + n ≤ dst ∨ dst + n ≤ src)) ∧
    (∃ (s : State) (a n : Nat), 0 < n ∧ a % 65536 + n ≤ 65536 ∧ s.bankRetired (bankOf a) = true) ∧
    (∃ (s : State) (a n : Nat), 0 < n ∧ a % 65536 + n ≤ 65536 ∧ s.bankRetired (bankOf a) = false ∧ s.sealed a = true) ∧
    (∃ (s : State) (a n : Nat), 0 < n ∧ a % 65536 + n ≤ 65536 ∧ s.bankRetired (bankOf a) = false ∧ s.sealed a = false) :=
  ⟨⟨State.reset.cisWrite 8 [1, 2], 0, 64, 64, by decide +kernel⟩, ⟨State.reset.put (CT_STAT_STATE 0) 1, 65535, 1, by decide +kernel⟩,
   ⟨sealS, 0, 65536, by decide +kernel⟩, ⟨State.reset, 0, 65536, by decide +kernel⟩⟩

/-- A packet of stream flow 1. -/
def copyP : Pkt := { pkt0 kWRITE_P 7 0 0 0 0 [] with tag := 1, seq := 65535 }

theorem witness_TransitFilterPassesOneOfTwoCopies :
    (∃ (s : State) (c : Nat) (p : Pkt), c < 16 ∧ s.mesh.transit.any (fun e => e.1 == ptTile c && e.2.1 == p.tag && e.2.2.1 == p.seq) = false ∧
      s.mesh.aged.contains (ptTile c, p.tag, p.seq, p.stamp) = false) ∧
    (∃ (s : State) (c : Nat) (p : Pkt), c < 16 ∧ s.mesh.transit.any (fun e => e.1 == ptTile c && e.2.1 == p.tag && e.2.2.1 == p.seq) = false ∧
      s.mesh.aged.contains (ptTile c, p.tag, p.seq, p.stamp) = true) :=
  ⟨⟨State.reset, 15, copyP, by decide +kernel⟩,
   ⟨{ State.reset with mesh := { aged := [(ptTile 0, 1, 65535, 0)] } }, 0, copyP, by decide +kernel⟩⟩

/-- Entry 1023 of a PT serves stream 5. -/
def elimS : State :=
  (State.reset.put (NI_ELIM_CFG_EN (elimBase (ptTile 0)) 1023) 1).put (NI_ELIM_CFG_STREAM (elimBase (ptTile 0)) 1023) 5

/-- The entry in its initial state, a newer number, a late one, and a stream without an entry. -/
theorem witness_EliminationDeliversEachNumberOnce :
    (∃ (s : State) (ti stream seq : Nat), seq < 65536 ∧ (s.eliminate ti stream seq).1 = true) ∧
    (∃ (s : State) (ti stream seq : Nat), seq < 65536 ∧ s.on (NI_ELIM_ST_INIT (elimBase ti) 1023) = false ∧ (s.eliminate ti stream seq).1 = true) ∧
    (∃ (s : State) (ti stream : Nat), s.elimEntry ti stream = none) := by
  refine ⟨⟨elimS, ptTile 0, 5, 65535, ?_⟩, ⟨elimS.put (NI_ELIM_ST_INIT (elimBase (ptTile 0)) 1023) 0, ptTile 0, 5, 65473, ?_⟩,
    ⟨State.reset, ptTile 0, 5, ?_⟩⟩ <;> decide +kernel

/-- The only entry used, and the same with every other entry used before. -/
theorem witness_RetiredEntriesMatchNoResponse :
    (∃ (s : State) (ti tag : Nat) (e : RoEntry), tget s.req.ro (roKey ti tag) = some e) ∧
    (∃ (s : State) (ti tag : Nat) (e : RoEntry), tget s.req.ro (roKey ti tag) = some e ∧ roSize ti ≤ tgetD s.req.roNext ti 0) :=
  ⟨⟨roS, 0, 0, roE, by decide +kernel⟩,
   ⟨{ roS with req := { roS.req with roNext := [(0, roSize 0)] } }, 0, 0, roE, by decide +kernel⟩⟩

theorem witness_RefillsStopAtTheBurst :
    (∃ (s : State) (p q : Nat), p < 128 ∧ q < 8 ∧ s.shpOn p q = true) ∧
    (∃ (s : State) (p q : Nat), p < 128 ∧ q < 8 ∧ s.shpOn p q = false ∧ (s.refill p q).shpOn p q = true) :=
  ⟨⟨State.reset.put (SHP_CFG_EN (portC 127) (portK 127) 7) 1, 127, 7, by decide +kernel⟩,
   ⟨{ State.reset with sch := { staged := [(R_SHP_CFG 0 0 0, insBits 0 (SHP_CFG_EN 0 0 0).lo 1 1)] } }, 0, 0, by decide +kernel⟩⟩

theorem witness_EdgeWakesActByTheDomainsState :
    (∃ (s : State) (d : Nat), d < 62 ∧ (s.dom d = dCLKSTOP ∨ s.dom d = dRETAINED ∨ s.dom d = dOFF)) ∧
    (∃ (s : State) (d : Nat), d < 62 ∧ (s.dom d = dCLOSING ∨ s.dom d = dDRAINING) ∧ s.bankBack d = false) ∧
    (∃ (s : State) (d : Nat), d < 62 ∧ s.dom d = dISOLATED) ∧
    (∃ (s : State) (d : Nat), d < 62 ∧ (s.dom d = dON ∨ s.dom d = dWAKING)) :=
  ⟨⟨State.reset.setDom 61 dOFF, 61, by decide +kernel⟩, ⟨idleDom dDRAINING, 16, by decide +kernel⟩, ⟨idleDom dISOLATED, 16, by decide +kernel⟩,
   ⟨State.reset, 61, by decide +kernel⟩⟩

theorem witness_GuardSwapsExchangeTheSets : ∃ (s : State) (n r k : Nat), n < 30 ∧ r < 16 ∧ k < 3 ∧ s.guardLocked n = false :=
  ⟨State.reset, 29, 15, 2, by decide +kernel⟩

theorem witness_GuardLoadsWriteTheInactiveSetAlone :
    (∃ (s : State) (n o : Nat) (l : List RgnArg), n < 30 ∧ (∀ x ∈ l, x.1 < 16) ∧ o ≠ R_GD_SCTL n (1 - s.activeSet n) ∧
      (o < rgnBase n (1 - s.activeSet n) 0 ∨ rgnBase n (1 - s.activeSet n) 0 + 0x100 ≤ o)) ∧
    (∃ (n r k : Nat) (l : List RgnArg), n < 30 ∧ r < 16 ∧ k < 3 ∧ l ≠ [] ∧ ∀ x ∈ l, x.1 < 16 ∧ x.1 ≠ r) :=
  ⟨⟨State.reset, 29, rgnBase 29 0 15, [(15, 64, 1)], by decide +kernel⟩, ⟨0, 15, 2, [(0, 64, 1)], by decide +kernel⟩⟩

theorem witness_ColdResetActsAtOnceAndMasksWarmReset :
    (∃ s : State, s.wh.coldLow = true) ∧ (∃ s : State, s.wh.rstBusy = true) :=
  ⟨⟨{ State.reset with wh := { coldLow := true } }, rfl⟩, ⟨{ State.reset with wh := { rstBusy := true } }, rfl⟩⟩

theorem witness_TicksFallOnTheFrameGrid : ∃ (s : State) (n x : Int), s.baseSched.instant n ≤ x ∧ x < s.baseSched.instant (n + 1) :=
  ⟨State.reset, 3, 187500, by decide +kernel⟩

/-- Each command RUNNING in mailbox 0 with a body in its range. -/
theorem witness_TimeCommandsComplete :
    (∃ (s : State) (mb : Nat) (c : OpenCmd) (sec e : Nat), s.runs mb 0x0801 c ∧ s.stopped = false ∧ sec < 2 ^ 48 ∧ s.tm.ppsEdge = some e ∧
      s.tm.ppsAge ≤ 900000000) ∧
    (∃ (s : State) (mb : Nat) (c : OpenCmd) (v : Int), s.runs mb 0x0802 c ∧ s.stopped = false ∧ -(2 ^ 31) ≤ v ∧ v < 2 ^ 31) ∧
    (∃ (s : State) (mb : Nat) (c : OpenCmd) (per ph frame : Nat), s.runs mb 0x0803 c ∧ s.stopped = false ∧ 8000 ≤ per ∧ per ≤ 4096000 ∧
      ph < per ∧ frame < 2 ^ 64 ∧ s.periodFail per = 0 ∧ (s.frameAsked per ph frame).on TM_FRAME_CTL_SWITCH_ARMED = true) ∧
    (∃ (s : State) (mb : Nat) (c : OpenCmd) (p : Nat), s.runs mb 0x0804 c ∧ s.stopped = false ∧ p < 128) ∧
    (∃ (s : State) (mb : Nat) (c : OpenCmd), s.runs mb 0x0805 c ∧ s.stopped = false ∧ s.tm.retired.length ≠ 2) :=
  ⟨⟨{ cmdS 0 0x0801 with tm := { ppsEdge := some 0 } }, 0, cmd0 0x0801, 2 ^ 48 - 1, 0, by decide +kernel⟩,
   ⟨cmdS 0 0x0802, 0, cmd0 0x0802, -(2 ^ 31), by decide +kernel⟩, ⟨cmdS 0 0x0803, 0, cmd0 0x0803, 8000, 7999, 3, by decide +kernel⟩,
   ⟨cmdS 0 0x0804, 0, cmd0 0x0804, 127, by decide +kernel⟩, ⟨cmdS 0 0x0805, 0, cmd0 0x0805, by decide +kernel⟩⟩

/-! ### Witnesses of the statements about groups of commands -/

theorem witness_RegisterAccessesActAtTheirRegister :
    (∃ (s : State) (m : Master) (off : Nat) (t : Nat) (d : Nat), s.cxReady m off false t none d ∧ s.stopped = false) ∧
    (∃ (s : State) (_ : Nat), s.stopped = false) ∧
    (∃ (s : State) (m : Master) (off : Nat) (t : Nat) (d : Nat) (w : Word) (u : State), s.cxReady m off true t none d ∧ s.takes m off w d u ∧ s.stopped = false) ∧
    (∃ (s : State) (_ : Nat) (_ : Word), s.stopped = false) ∧
    (∃ (s : State) (m : Master) (off : Nat) (t : Nat) (d : Nat), (counterAt off).isSome = true ∧ s.cxReady m off false t none d ∧ s.stopped = false) ∧
    (∃ (s : State) (m : Master) (off : Nat) (t : Nat) (d : Nat) (u : State), (counterAt off).isSome = true ∧ s.cxReady m off true t none d ∧ s.takes m off 0 d u ∧ s.stopped = false) ∧
    (∃ (s : State) (m : Master) (off : Nat) (t : Nat) (d : Nat) (w : Word) (u : State), lowOf64 off = true ∧ s.cxReady m off true t none d ∧ s.takes m off w d u ∧ s.stopped = false) ∧
    (∃ (s : State) (m : Master) (off : Nat) (t : Nat) (d : Nat) (w : Word) (u : State), 4 ≤ off ∧ lowOf64 (off - 4) = true ∧ s.cxReady m off true t none d ∧ s.takes m off w d u ∧ s.stopped = false) ∧
    (∃ (s : State) (m : Master) (off : Nat) (t : Nat) (d : Nat) (a : Nat) (w : Option Word), inReg off 0x800000 0x1000000 = true ∧ s.cxReady m off w.isSome t (some a) d ∧ s.stopped = false) ∧
    (∃ (s : State) (m : Master) (t : Nat) (d : Nat), s.cxReady m R_TM_NOW_NS false t none d ∧ s.stopped = false) ∧
    (∃ (s : State) (_ : Nat) (_ : Option Word), s.stopped = false) ∧
    (∃ (s : State) (i : Nat), s.gd.dbgOut = some i ∧ s.stopped = false) :=
  ⟨⟨(State.reset), (.portB : Master), (0 : Nat), (((cxTarget 0).getD 0) : Nat), ((((State.cxPlace (State.reset) (Master.portB) 0 false).getD (none, 0)).2) : Nat), by decide +kernel⟩,
   ⟨(State.reset), (0 : Nat), by decide +kernel⟩,
   ⟨(State.reset), (.portB : Master), (R_GLB_SAT_EN : Nat), (((cxTarget R_GLB_SAT_EN).getD 0) : Nat), ((((State.cxPlace (State.reset) (Master.portB) R_GLB_SAT_EN true).getD (none, 0)).2) : Nat), (5 : Word), ((((State.cxBegin (State.reset) (Master.portB) R_GLB_SAT_EN (some (5 : Word)) (((State.cxPlace (State.reset) (Master.portB) R_GLB_SAT_EN true).getD (none, 0)).2)).regWrite (Master.portB) R_GLB_SAT_EN (BitVec.toNat (5 : Word))).2) : State), by decide +kernel⟩,
   ⟨(State.reset), (0 : Nat), (0 : Word), by decide +kernel⟩,
   ⟨(State.reset), (.portB : Master), (C_GLB_SM_IGNORED : Nat), (((cxTarget C_GLB_SM_IGNORED).getD 0) : Nat), ((((State.cxPlace (State.reset) (Master.portB) C_GLB_SM_IGNORED false).getD (none, 0)).2) : Nat), by decide +kernel⟩,
   ⟨(State.reset), (.portB : Master), (C_GLB_SM_IGNORED : Nat), (((cxTarget C_GLB_SM_IGNORED).getD 0) : Nat), ((((State.cxPlace (State.reset) (Master.portB) C_GLB_SM_IGNORED true).getD (none, 0)).2) : Nat), ((((State.cxBegin (State.reset) (Master.portB) C_GLB_SM_IGNORED (some (0 : Word)) (((State.cxPlace (State.reset) (Master.portB) C_GLB_SM_IGNORED true).getD (none, 0)).2)).regWrite (Master.portB) C_GLB_SM_IGNORED (BitVec.toNat (0 : Word))).2) : State), by decide +kernel⟩,
   ⟨(State.reset), (.portB : Master), (R_SNAP_INT_EN_LO : Nat), (((cxTarget R_SNAP_INT_EN_LO).getD 0) : Nat), ((((State.cxPlace (State.reset) (Master.portB) R_SNAP_INT_EN_LO true).getD (none, 0)).2) : Nat), (3 : Word), ((((State.cxBegin (State.reset) (Master.portB) R_SNAP_INT_EN_LO (some (3 : Word)) (((State.cxPlace (State.reset) (Master.portB) R_SNAP_INT_EN_LO true).getD (none, 0)).2)).regWrite (Master.portB) R_SNAP_INT_EN_LO (BitVec.toNat (3 : Word))).2) : State), by decide +kernel⟩,
   ⟨(State.reset), (.portB : Master), (R_SNAP_INT_EN_HI : Nat), (((cxTarget R_SNAP_INT_EN_HI).getD 0) : Nat), ((((State.cxPlace (State.reset) (Master.portB) R_SNAP_INT_EN_HI true).getD (none, 0)).2) : Nat), (3 : Word), ((((State.cxBegin (State.reset) (Master.portB) R_SNAP_INT_EN_HI (some (3 : Word)) (((State.cxPlace (State.reset) (Master.portB) R_SNAP_INT_EN_HI true).getD (none, 0)).2)).regWrite (Master.portB) R_SNAP_INT_EN_HI (BitVec.toNat (3 : Word))).2) : State), by decide +kernel⟩,
   ⟨(aptS), (.portB : Master), (0x800000 : Nat), (((cxTarget 0x800000).getD 0) : Nat), ((((State.cxPlace (aptS) (Master.portB) 0x800000 ((none : Option Word) : Option Word).isSome).getD (none, 0)).2) : Nat), (0 : Nat), ((none : Option Word) : Option Word), by decide +kernel⟩,
   ⟨(State.reset), (.portB : Master), (((cxTarget R_TM_NOW_NS).getD 0) : Nat), ((((State.cxPlace (State.reset) (Master.portB) R_TM_NOW_NS false).getD (none, 0)).2) : Nat), by decide +kernel⟩,
   ⟨(State.reset), (0 : Nat), (none : Option Word), by decide +kernel⟩,
   ⟨(dbgS), (0 : Nat), by decide +kernel⟩⟩

theorem witness_NamedRegisterWritesAct :
    (∃ (s : State) (m : Master) (v : Word) (t : Nat) (d : Nat) (u : State), s.cxReady m R_TM_FRAME_SWITCH_HI true t none d ∧ s.takes m R_TM_FRAME_SWITCH_HI v d u ∧ s.stopped = false) ∧
    (∃ (s : State) (m : Master) (ph : Bool) (v : Word) (t : Nat) (d : Nat) (u : State), s.cxReady m (if ph then R_TM_FRAME_PHASE else R_TM_FRAME_PERIOD) true t none d ∧ s.takes m (if ph then R_TM_FRAME_PHASE else R_TM_FRAME_PERIOD) v d u ∧ s.stopped = false) ∧
    (∃ (s : State) (m : Master) (p : Nat) (t : Nat) (d : Nat) (u : State), p < 2 ∧ s.cxReady m (planeReq p).off true t none d ∧ s.takes m (planeReq p).off (s.fldWord (planeReq p) 0) d u ∧ s.stopped = false) ∧
    (∃ (s : State) (m : Master) (p : Nat) (t : Nat) (d : Nat) (u : State), p < 2 ∧ s.cxReady m (planeReq p).off true t none d ∧ s.takes m (planeReq p).off (s.fldWord (planeReq p) 1) d u ∧ s.stopped = false) ∧
    (∃ (s : State) (m : Master) (p : Nat) (rt : Nat) (v : Nat) (t : Nat) (d : Nat) (u : State), p < 2 ∧ rt < 64 ∧ s.cxReady m (RT_FENCE_PORTS p rt).off true t none d ∧ s.takes m (RT_FENCE_PORTS p rt).off (s.fldWord (RT_FENCE_PORTS p rt) v) d u ∧ s.stopped = false) ∧
    (∃ (s : State) (m : Master) (p : Nat) (rt : Nat) (v : Nat) (t : Nat) (d : Nat) (u : State), p < 2 ∧ rt < 64 ∧ s.cxReady m (RT_CTL_HI_WEIGHT p rt).off true t none d ∧ s.takes m (RT_CTL_HI_WEIGHT p rt).off (s.fldWord (RT_CTL_HI_WEIGHT p rt) v) d u ∧ s.stopped = false) ∧
    (∃ (s : State) (m : Master) (ti : Nat) (n : Nat) (v : Nat) (t : Nat) (d : Nat) (u : State), elimBase ti ≠ 0 ∧ n < 1024 ∧ s.cxReady m (R_NI_ELIM_CFG (elimBase ti) n) true t none d ∧ s.takes m (R_NI_ELIM_CFG (elimBase ti) n) (BitVec.ofNat 32 (v % 2 ^ 16)) d u ∧ s.stopped = false) ∧
    (∃ (s : State) (m : Master) (p : Nat) (v : Word) (t : Nat) (d : Nat) (u : State), p < 128 ∧ s.cxReady m (R_GCL_SWAP_HI (portC p) (portK p)) true t none d ∧ s.takes m (R_GCL_SWAP_HI (portC p) (portK p)) v d u ∧ s.stopped = false) ∧
    (∃ (s : State) (sc : Nat) (t : Nat) (d : Nat) (u : State), s.whIssues = true ∧ s.cxReady .wellhead R_CX_WHBAR true t none d ∧ s.takes .wellhead R_CX_WHBAR (BitVec.ofNat 32 (sc % 4)) d u ∧ s.stopped = false) :=
  ⟨⟨(State.reset), (.portB : Master), (0 : Word), (((cxTarget R_TM_FRAME_SWITCH_HI).getD 0) : Nat), ((((State.cxPlace (State.reset) (Master.portB) R_TM_FRAME_SWITCH_HI true).getD (none, 0)).2) : Nat), ((((State.cxBegin (State.reset) (Master.portB) R_TM_FRAME_SWITCH_HI (some (0 : Word)) (((State.cxPlace (State.reset) (Master.portB) R_TM_FRAME_SWITCH_HI true).getD (none, 0)).2)).regWrite (Master.portB) R_TM_FRAME_SWITCH_HI (BitVec.toNat (0 : Word))).2) : State), by decide +kernel⟩,
   ⟨(State.reset), (.portB : Master), (true : Bool), (100 : Word), (((cxTarget (if true then R_TM_FRAME_PHASE else R_TM_FRAME_PERIOD)).getD 0) : Nat), ((((State.cxPlace (State.reset) (Master.portB) (if true then R_TM_FRAME_PHASE else R_TM_FRAME_PERIOD) true).getD (none, 0)).2) : Nat), ((((State.cxBegin (State.reset) (Master.portB) (if true then R_TM_FRAME_PHASE else R_TM_FRAME_PERIOD) (some (100 : Word)) (((State.cxPlace (State.reset) (Master.portB) (if true then R_TM_FRAME_PHASE else R_TM_FRAME_PERIOD) true).getD (none, 0)).2)).regWrite (Master.portB) (if true then R_TM_FRAME_PHASE else R_TM_FRAME_PERIOD) (BitVec.toNat (100 : Word))).2) : State), by decide +kernel⟩,
   ⟨(State.reset), (.portB : Master), (1 : Nat), (((cxTarget (planeReq 1).off).getD 0) : Nat), ((((State.cxPlace (State.reset) (Master.portB) (planeReq 1).off true).getD (none, 0)).2) : Nat), ((((State.cxBegin (State.reset) (Master.portB) (planeReq 1).off (some ((State.reset).fldWord (planeReq 1) 0)) (((State.cxPlace (State.reset) (Master.portB) (planeReq 1).off true).getD (none, 0)).2)).regWrite (Master.portB) (planeReq 1).off (BitVec.toNat ((State.reset).fldWord (planeReq 1) 0))).2) : State), by decide +kernel⟩,
   ⟨(State.reset), (.portB : Master), (1 : Nat), (((cxTarget (planeReq 1).off).getD 0) : Nat), ((((State.cxPlace (State.reset) (Master.portB) (planeReq 1).off true).getD (none, 0)).2) : Nat), ((((State.cxBegin (State.reset) (Master.portB) (planeReq 1).off (some ((State.reset).fldWord (planeReq 1) 1)) (((State.cxPlace (State.reset) (Master.portB) (planeReq 1).off true).getD (none, 0)).2)).regWrite (Master.portB) (planeReq 1).off (BitVec.toNat ((State.reset).fldWord (planeReq 1) 1))).2) : State), by decide +kernel⟩,
   ⟨(planesS), (.portB : Master), (0 : Nat), (0 : Nat), (1 : Nat), (((cxTarget (RT_FENCE_PORTS 0 0).off).getD 0) : Nat), ((((State.cxPlace (planesS) (Master.portB) (RT_FENCE_PORTS 0 0).off true).getD (none, 0)).2) : Nat), ((((State.cxBegin (planesS) (Master.portB) (RT_FENCE_PORTS 0 0).off (some ((planesS).fldWord (RT_FENCE_PORTS 0 0) 1)) (((State.cxPlace (planesS) (Master.portB) (RT_FENCE_PORTS 0 0).off true).getD (none, 0)).2)).regWrite (Master.portB) (RT_FENCE_PORTS 0 0).off (BitVec.toNat ((planesS).fldWord (RT_FENCE_PORTS 0 0) 1))).2) : State), by decide +kernel⟩,
   ⟨(planesS.setPlane 1 pOUT), (.portB : Master), (1 : Nat), (63 : Nat), (4 : Nat), (((cxTarget (RT_CTL_HI_WEIGHT 1 63).off).getD 0) : Nat), ((((State.cxPlace (planesS.setPlane 1 pOUT) (Master.portB) (RT_CTL_HI_WEIGHT 1 63).off true).getD (none, 0)).2) : Nat), ((((State.cxBegin (planesS.setPlane 1 pOUT) (Master.portB) (RT_CTL_HI_WEIGHT 1 63).off (some ((planesS.setPlane 1 pOUT).fldWord (RT_CTL_HI_WEIGHT 1 63) 4)) (((State.cxPlace (planesS.setPlane 1 pOUT) (Master.portB) (RT_CTL_HI_WEIGHT 1 63).off true).getD (none, 0)).2)).regWrite (Master.portB) (RT_CTL_HI_WEIGHT 1 63).off (BitVec.toNat ((planesS.setPlane 1 pOUT).fldWord (RT_CTL_HI_WEIGHT 1 63) 4))).2) : State), by decide +kernel⟩,
   ⟨(State.reset), (.portB : Master), ((ptTile 0) : Nat), (0 : Nat), (5 : Nat), (((cxTarget (R_NI_ELIM_CFG (elimBase ((ptTile 0) : Nat)) 0)).getD 0) : Nat), ((((State.cxPlace (State.reset) (Master.portB) (R_NI_ELIM_CFG (elimBase ((ptTile 0) : Nat)) 0) true).getD (none, 0)).2) : Nat), ((((State.cxBegin (State.reset) (Master.portB) (R_NI_ELIM_CFG (elimBase ((ptTile 0) : Nat)) 0) (some (BitVec.ofNat 32 (5 % 2 ^ 16))) (((State.cxPlace (State.reset) (Master.portB) (R_NI_ELIM_CFG (elimBase ((ptTile 0) : Nat)) 0) true).getD (none, 0)).2)).regWrite (Master.portB) (R_NI_ELIM_CFG (elimBase ((ptTile 0) : Nat)) 0) (BitVec.toNat (BitVec.ofNat 32 (5 % 2 ^ 16)))).2) : State), by decide +kernel⟩,
   ⟨(State.reset), (.portB : Master), (0 : Nat), (1 : Word), (((cxTarget (R_GCL_SWAP_HI (portC 0) (portK 0))).getD 0) : Nat), ((((State.cxPlace (State.reset) (Master.portB) (R_GCL_SWAP_HI (portC 0) (portK 0)) true).getD (none, 0)).2) : Nat), ((((State.cxBegin (State.reset) (Master.portB) (R_GCL_SWAP_HI (portC 0) (portK 0)) (some (1 : Word)) (((State.cxPlace (State.reset) (Master.portB) (R_GCL_SWAP_HI (portC 0) (portK 0)) true).getD (none, 0)).2)).regWrite (Master.portB) (R_GCL_SWAP_HI (portC 0) (portK 0)) (BitVec.toNat (1 : Word))).2) : State), by decide +kernel⟩,
   ⟨(whRunS), (1 : Nat), (((cxTarget R_CX_WHBAR).getD 0) : Nat), ((((State.cxPlace (whRunS) (Master.wellhead) R_CX_WHBAR true).getD (none, 0)).2) : Nat), ((((State.cxBegin (whRunS) (Master.wellhead) R_CX_WHBAR (some (BitVec.ofNat 32 (1 % 4))) (((State.cxPlace (whRunS) (Master.wellhead) R_CX_WHBAR true).getD (none, 0)).2)).regWrite (Master.wellhead) R_CX_WHBAR (BitVec.toNat (BitVec.ofNat 32 (1 % 4)))).2) : State), by decide +kernel⟩⟩

theorem witness_LinkSlotAndPowerRegisterRowsAct :
    (∃ (s : State) (m : Master) (p : Nat) (t : Nat) (d : Nat) (u : State), p < 128 ∧ s.cxReady m (LNK_CTL_EN (portC p) (portK p)).off true t none d ∧ s.takes m (LNK_CTL_EN (portC p) (portK p)).off (s.fldWord (LNK_CTL_EN (portC p) (portK p)) 1) d u ∧ s.stopped = false) ∧
    (∃ (s : State) (m : Master) (p : Nat) (t : Nat) (d : Nat) (u : State), p < 128 ∧ s.cxReady m (LNK_CTL_EN (portC p) (portK p)).off true t none d ∧ s.takes m (LNK_CTL_EN (portC p) (portK p)).off (s.fldWord (LNK_CTL_EN (portC p) (portK p)) 0) d u ∧ s.stopped = false) ∧
    (∃ (s : State) (m : Master) (p : Nat) (t : Nat) (d : Nat) (u : State), p < 128 ∧ s.cxReady m (LNK_CTL_RETRAIN (portC p) (portK p)).off true t none d ∧ s.takes m (LNK_CTL_RETRAIN (portC p) (portK p)).off (s.fldWord (LNK_CTL_RETRAIN (portC p) (portK p)) 1) d u ∧ s.stopped = false) ∧
    (∃ (s : State) (m : Master) (n : Nat) (en : Bool) (t : Nat) (d : Nat) (u : State), n < 64 ∧ s.cxReady m (SLOT_CFG_EN n).off true t none d ∧ s.takes m (SLOT_CFG_EN n).off (s.fldWord (SLOT_CFG_EN n) (b2n en)) d u ∧ s.stopped = false) ∧
    (∃ (s : State) (m : Master) (n : Nat) (t : Nat) (d : Nat) (u : State), n < 64 ∧ s.cxReady m (SLOT_CTL_CLR_FAULT n).off true t none d ∧ s.takes m (SLOT_CTL_CLR_FAULT n).off (s.fldWord (SLOT_CTL_CLR_FAULT n) 1) d u ∧ s.stopped = false) ∧
    (∃ (s : State) (m : Master) (n : Nat) (t : Nat) (d : Nat) (u : State), n < 64 ∧ s.cxReady m (SLOT_CTL_POWER n).off true t none d ∧ s.takes m (SLOT_CTL_POWER n).off (s.fldWord (SLOT_CTL_POWER n) 0) d u ∧ s.stopped = false) ∧
    (∃ (s : State) (m : Master) (b : Nat) (v : Nat) (t : Nat) (d : Nat) (u : State), b < 1024 ∧ v < 8 ∧ s.cxReady m (VEC_CTL_MASK b v).off true t none d ∧ s.takes m (VEC_CTL_MASK b v).off (s.fldWord (VEC_CTL_MASK b v) 0) d u ∧ s.stopped = false) ∧
    (∃ (s : State) (m : Master) (n : Nat) (t : Nat) (d : Nat) (u : State), n < 30 ∧ s.cxReady m (R_GD_SWAP n) true t none d ∧ s.takes m (R_GD_SWAP n) (BitVec.ofNat 32 1) d u ∧ s.stopped = false) ∧
    (∃ (s : State) (m : Master) (g : Nat) (t : Nat) (d : Nat) (u : State), g < 32 ∧ s.cxReady m R_SC_LOCK true t none d ∧ s.takes m R_SC_LOCK (BitVec.ofNat 32 (2 ^ g)) d u ∧ s.stopped = false) ∧
    (∃ (s : State) (m : Master) (n : Nat) (t : Nat) (d : Nat) (u : State), n < 32 ∧ s.cxReady m (PART_CTL_SEAL n).off true t none d ∧ s.takes m (PART_CTL_SEAL n).off (s.fldWord (PART_CTL_SEAL n) 1) d u ∧ s.stopped = false) ∧
    (∃ (s : State) (m : Master) (n : Nat) (t : Nat) (d : Nat) (u : State), n < 62 ∧ s.cxReady m (R_PW_DOM_WAKE n) true t none d ∧ s.takes m (R_PW_DOM_WAKE n) (BitVec.ofNat 32 1) d u ∧ s.stopped = false) ∧
    (∃ (s : State) (m : Master) (b : Nat) (t : Nat) (d : Nat) (u : State), b < 24 ∧ s.cxReady m (R_CT_RETURN b) true t none d ∧ s.takes m (R_CT_RETURN b) (BitVec.ofNat 32 1) d u ∧ s.stopped = false) :=
  ⟨⟨(runnelS), (.portB : Master), (0 : Nat), (((cxTarget (LNK_CTL_EN (portC 0) (portK 0)).off).getD 0) : Nat), ((((State.cxPlace (runnelS) (Master.portB) (LNK_CTL_EN (portC 0) (portK 0)).off true).getD (none, 0)).2) : Nat), ((((State.cxBegin (runnelS) (Master.portB) (LNK_CTL_EN (portC 0) (portK 0)).off (some ((runnelS).fldWord (LNK_CTL_EN (portC 0) (portK 0)) 1)) (((State.cxPlace (runnelS) (Master.portB) (LNK_CTL_EN (portC 0) (portK 0)).off true).getD (none, 0)).2)).regWrite (Master.portB) (LNK_CTL_EN (portC 0) (portK 0)).off (BitVec.toNat ((runnelS).fldWord (LNK_CTL_EN (portC 0) (portK 0)) 1))).2) : State), by decide +kernel⟩,
   ⟨(runnelS), (.portB : Master), (0 : Nat), (((cxTarget (LNK_CTL_EN (portC 0) (portK 0)).off).getD 0) : Nat), ((((State.cxPlace (runnelS) (Master.portB) (LNK_CTL_EN (portC 0) (portK 0)).off true).getD (none, 0)).2) : Nat), ((((State.cxBegin (runnelS) (Master.portB) (LNK_CTL_EN (portC 0) (portK 0)).off (some ((runnelS).fldWord (LNK_CTL_EN (portC 0) (portK 0)) 0)) (((State.cxPlace (runnelS) (Master.portB) (LNK_CTL_EN (portC 0) (portK 0)).off true).getD (none, 0)).2)).regWrite (Master.portB) (LNK_CTL_EN (portC 0) (portK 0)).off (BitVec.toNat ((runnelS).fldWord (LNK_CTL_EN (portC 0) (portK 0)) 0))).2) : State), by decide +kernel⟩,
   ⟨(runnelS), (.portB : Master), (0 : Nat), (((cxTarget (LNK_CTL_RETRAIN (portC 0) (portK 0)).off).getD 0) : Nat), ((((State.cxPlace (runnelS) (Master.portB) (LNK_CTL_RETRAIN (portC 0) (portK 0)).off true).getD (none, 0)).2) : Nat), ((((State.cxBegin (runnelS) (Master.portB) (LNK_CTL_RETRAIN (portC 0) (portK 0)).off (some ((runnelS).fldWord (LNK_CTL_RETRAIN (portC 0) (portK 0)) 1)) (((State.cxPlace (runnelS) (Master.portB) (LNK_CTL_RETRAIN (portC 0) (portK 0)).off true).getD (none, 0)).2)).regWrite (Master.portB) (LNK_CTL_RETRAIN (portC 0) (portK 0)).off (BitVec.toNat ((runnelS).fldWord (LNK_CTL_RETRAIN (portC 0) (portK 0)) 1))).2) : State), by decide +kernel⟩,
   ⟨(slotS), (.portB : Master), (0 : Nat), (true : Bool), (((cxTarget (SLOT_CFG_EN 0).off).getD 0) : Nat), ((((State.cxPlace (slotS) (Master.portB) (SLOT_CFG_EN 0).off true).getD (none, 0)).2) : Nat), ((((State.cxBegin (slotS) (Master.portB) (SLOT_CFG_EN 0).off (some ((slotS).fldWord (SLOT_CFG_EN 0) (b2n true))) (((State.cxPlace (slotS) (Master.portB) (SLOT_CFG_EN 0).off true).getD (none, 0)).2)).regWrite (Master.portB) (SLOT_CFG_EN 0).off (BitVec.toNat ((slotS).fldWord (SLOT_CFG_EN 0) (b2n true)))).2) : State), by decide +kernel⟩,
   ⟨(State.reset), (.portB : Master), (63 : Nat), (((cxTarget (SLOT_CTL_CLR_FAULT 63).off).getD 0) : Nat), ((((State.cxPlace (State.reset) (Master.portB) (SLOT_CTL_CLR_FAULT 63).off true).getD (none, 0)).2) : Nat), ((((State.cxBegin (State.reset) (Master.portB) (SLOT_CTL_CLR_FAULT 63).off (some ((State.reset).fldWord (SLOT_CTL_CLR_FAULT 63) 1)) (((State.cxPlace (State.reset) (Master.portB) (SLOT_CTL_CLR_FAULT 63).off true).getD (none, 0)).2)).regWrite (Master.portB) (SLOT_CTL_CLR_FAULT 63).off (BitVec.toNat ((State.reset).fldWord (SLOT_CTL_CLR_FAULT 63) 1))).2) : State), by decide +kernel⟩,
   ⟨(State.reset), (.portB : Master), (63 : Nat), (((cxTarget (SLOT_CTL_POWER 63).off).getD 0) : Nat), ((((State.cxPlace (State.reset) (Master.portB) (SLOT_CTL_POWER 63).off true).getD (none, 0)).2) : Nat), ((((State.cxBegin (State.reset) (Master.portB) (SLOT_CTL_POWER 63).off (some ((State.reset).fldWord (SLOT_CTL_POWER 63) 0)) (((State.cxPlace (State.reset) (Master.portB) (SLOT_CTL_POWER 63).off true).getD (none, 0)).2)).regWrite (Master.portB) (SLOT_CTL_POWER 63).off (BitVec.toNat ((State.reset).fldWord (SLOT_CTL_POWER 63) 0))).2) : State), by decide +kernel⟩,
   ⟨(State.reset), (.portB : Master), (1023 : Nat), (7 : Nat), (((cxTarget (VEC_CTL_MASK 1023 7).off).getD 0) : Nat), ((((State.cxPlace (State.reset) (Master.portB) (VEC_CTL_MASK 1023 7).off true).getD (none, 0)).2) : Nat), ((((State.cxBegin (State.reset) (Master.portB) (VEC_CTL_MASK 1023 7).off (some ((State.reset).fldWord (VEC_CTL_MASK 1023 7) 0)) (((State.cxPlace (State.reset) (Master.portB) (VEC_CTL_MASK 1023 7).off true).getD (none, 0)).2)).regWrite (Master.portB) (VEC_CTL_MASK 1023 7).off (BitVec.toNat ((State.reset).fldWord (VEC_CTL_MASK 1023 7) 0))).2) : State), by decide +kernel⟩,
   ⟨(State.reset), (.portB : Master), (29 : Nat), (((cxTarget (R_GD_SWAP 29)).getD 0) : Nat), ((((State.cxPlace (State.reset) (Master.portB) (R_GD_SWAP 29) true).getD (none, 0)).2) : Nat), ((((State.cxBegin (State.reset) (Master.portB) (R_GD_SWAP 29) (some (BitVec.ofNat 32 1)) (((State.cxPlace (State.reset) (Master.portB) (R_GD_SWAP 29) true).getD (none, 0)).2)).regWrite (Master.portB) (R_GD_SWAP 29) (BitVec.toNat (BitVec.ofNat 32 1))).2) : State), by decide +kernel⟩,
   ⟨(State.reset), (.portB : Master), (6 : Nat), (((cxTarget R_SC_LOCK).getD 0) : Nat), ((((State.cxPlace (State.reset) (Master.portB) R_SC_LOCK true).getD (none, 0)).2) : Nat), ((((State.cxBegin (State.reset) (Master.portB) R_SC_LOCK (some (BitVec.ofNat 32 (2 ^ 6))) (((State.cxPlace (State.reset) (Master.portB) R_SC_LOCK true).getD (none, 0)).2)).regWrite (Master.portB) R_SC_LOCK (BitVec.toNat (BitVec.ofNat 32 (2 ^ 6)))).2) : State), by decide +kernel⟩,
   ⟨(State.reset), (.portB : Master), (31 : Nat), (((cxTarget (PART_CTL_SEAL 31).off).getD 0) : Nat), ((((State.cxPlace (State.reset) (Master.portB) (PART_CTL_SEAL 31).off true).getD (none, 0)).2) : Nat), ((((State.cxBegin (State.reset) (Master.portB) (PART_CTL_SEAL 31).off (some ((State.reset).fldWord (PART_CTL_SEAL 31) 1)) (((State.cxPlace (State.reset) (Master.portB) (PART_CTL_SEAL 31).off true).getD (none, 0)).2)).regWrite (Master.portB) (PART_CTL_SEAL 31).off (BitVec.toNat ((State.reset).fldWord (PART_CTL_SEAL 31) 1))).2) : State), by decide +kernel⟩,
   ⟨(State.reset), (.portB : Master), (61 : Nat), (((cxTarget (R_PW_DOM_WAKE 61)).getD 0) : Nat), ((((State.cxPlace (State.reset) (Master.portB) (R_PW_DOM_WAKE 61) true).getD (none, 0)).2) : Nat), ((((State.cxBegin (State.reset) (Master.portB) (R_PW_DOM_WAKE 61) (some (BitVec.ofNat 32 1)) (((State.cxPlace (State.reset) (Master.portB) (R_PW_DOM_WAKE 61) true).getD (none, 0)).2)).regWrite (Master.portB) (R_PW_DOM_WAKE 61) (BitVec.toNat (BitVec.ofNat 32 1))).2) : State), by decide +kernel⟩,
   ⟨(bankS), (.portB : Master), (0 : Nat), (((cxTarget (R_CT_RETURN 0)).getD 0) : Nat), ((((State.cxPlace (bankS) (Master.portB) (R_CT_RETURN 0) true).getD (none, 0)).2) : Nat), ((((State.cxBegin (bankS) (Master.portB) (R_CT_RETURN 0) (some (BitVec.ofNat 32 1)) (((State.cxPlace (bankS) (Master.portB) (R_CT_RETURN 0) true).getD (none, 0)).2)).regWrite (Master.portB) (R_CT_RETURN 0) (BitVec.toNat (BitVec.ofNat 32 1))).2) : State), by decide +kernel⟩⟩

theorem witness_CrossbarRowsAct :
    (∃ (s : State) (m : Master) (n : Nat) (t : Nat) (d : Nat) (u : State), s.cxReady m (R_CX_HOLD (masterIdx m)) true t none d ∧ s.takes m (R_CX_HOLD (masterIdx m)) (BitVec.ofNat 32 (n % 32)) d u ∧ s.stopped = false) ∧
    (∃ (s : State) (m : Master) (n : Nat) (t : Nat) (d : Nat), n < 32 ∧ s.cxReady m (R_SEM n) false t none d ∧ s.stopped = false) ∧
    (∃ (s : State) (m : Master) (n : Nat) (v : Nat) (t : Nat) (d : Nat) (u : State), n < 32 ∧ s.cxReady m (R_SEM n) true t none d ∧ s.takes m (R_SEM n) (BitVec.ofNat 32 v) d u ∧ s.stopped = false) ∧
    (∃ (s : State) (m : Master) (mb : Nat) (t : Nat) (d : Nat) (u : State), mb < 2 ∧ s.cxReady m (R_MB_DB mb) true t none d ∧ s.takes m (R_MB_DB mb) (BitVec.ofNat 32 1) d u ∧ s.stopped = false) ∧
    (∃ (s : State) (m : Master) (mb : Nat) (t : Nat) (d : Nat) (u : State), mb < 2 ∧ s.cxReady m (R_MB_STAT mb) true t none d ∧ s.takes m (R_MB_STAT mb) (BitVec.ofNat 32 8) d u ∧ s.stopped = false) ∧
    (∃ (s : State) (t : Nat) (d : Nat) (u : State), s.cxReady .wellhead R_GLB_WH_CTL true t none d ∧ s.takes .wellhead R_GLB_WH_CTL (BitVec.ofNat 32 (2 + s.slotBit)) d u ∧ s.stopped = false) ∧
    (∃ (s : State) (t : Nat) (d : Nat) (u : State), s.cxReady .wellhead R_GLB_WH_CTL true t none d ∧ s.takes .wellhead R_GLB_WH_CTL (BitVec.ofNat 32 (1 + s.slotBit)) d u ∧ s.stopped = false) ∧
    (∃ (s : State) (m : Master) (t : Nat) (d : Nat) (u : State), s.cxReady m R_GLB_WH_CTL true t none d ∧ s.takes m R_GLB_WH_CTL (BitVec.ofNat 32 (4 + s.slotBit)) d u ∧ s.stopped = false) ∧
    (∃ (s : State) (m : Master) (v : Nat) (t : Nat) (d : Nat) (u : State), s.cxReady m R_GLB_FLT_RD true t none d ∧ s.takes m R_GLB_FLT_RD (BitVec.ofNat 32 (v % 64)) d u ∧ s.stopped = false) ∧
    (∃ (s : State) (i : Nat), s.wh.holds.any (fun h => h.1 == i && h.2.2.isSome) = true ∧ s.stopped = false) ∧
    (∃ (s : State) (i : Nat) (x : CxAcc) (apt : Option Nat) (d : Nat) (t : Nat), s.cxFirst i = some x ∧ s.cxPlace x.m x.off x.w.isSome = some (apt, d) ∧ cxTarget x.off = some t ∧ x.out = none ∧ s.regAsleep d = true ∧ s.woa d = true ∧ s.stopped = false) ∧
    (∃ (s : State) (n : Nat), n < 32 ∧ s.get (SEM_OWN_OWNER n) ≠ 0 ∧ s.stopped = false) ∧
    (∃ (s : State) (bs : List Nat), s.cxOn = true ∧ s.pbBusy = false ∧ bs.length % 4 = 0 ∧ 2 ≤ bs.length / 4 ∧ bs.length / 4 ≤ 17 ∧ frameOk 1 bs = true ∧ s.stopped = false) ∧
    (∃ (s : State) (bs : List Nat), s.cxOn = true ∧ s.pbBusy = false ∧ bs.length = 5 ∧ bs.getD 3 0 ≤ 15 ∧ frameOk 2 bs = true ∧ s.stopped = false) ∧
    (∃ (s : State) (bs : List Nat), s.cxOn = true ∧ s.pbBusy = false ∧ bs.length = 1 ∧ frameOk 3 bs = true ∧ s.stopped = false) ∧
    (∃ (s : State) (_ : Nat), s.cxOn = true ∧ s.pbBusy = false ∧ s.wh.pbSetup = none ∧ s.stopped = false) ∧
    (∃ (s : State) (_ : Nat), s.cxOn = true ∧ s.pbBusy = false ∧ s.wh.pbSetup = some none ∧ s.stopped = false) ∧
    (∃ (s : State) (_ : Nat) (off : Nat) (k : Nat), s.cxOn = true ∧ s.pbBusy = false ∧ s.wh.pbSetup = some (some (off, k)) ∧ s.stopped = false) :=
  ⟨⟨(State.reset), (.portB : Master), (4 : Nat), (((cxTarget (R_CX_HOLD (masterIdx .portB))).getD 0) : Nat), ((((State.cxPlace (State.reset) (Master.portB) (R_CX_HOLD (masterIdx .portB)) true).getD (none, 0)).2) : Nat), ((((State.cxBegin (State.reset) (Master.portB) (R_CX_HOLD (masterIdx .portB)) (some (BitVec.ofNat 32 (4 % 32))) (((State.cxPlace (State.reset) (Master.portB) (R_CX_HOLD (masterIdx .portB)) true).getD (none, 0)).2)).regWrite (Master.portB) (R_CX_HOLD (masterIdx .portB)) (BitVec.toNat (BitVec.ofNat 32 (4 % 32)))).2) : State), by decide +kernel⟩,
   ⟨(State.reset), (.portB : Master), (31 : Nat), (((cxTarget (R_SEM 31)).getD 0) : Nat), ((((State.cxPlace (State.reset) (Master.portB) (R_SEM 31) false).getD (none, 0)).2) : Nat), by decide +kernel⟩,
   ⟨(State.reset), (.portB : Master), (31 : Nat), (1 : Nat), (((cxTarget (R_SEM 31)).getD 0) : Nat), ((((State.cxPlace (State.reset) (Master.portB) (R_SEM 31) true).getD (none, 0)).2) : Nat), ((((State.cxBegin (State.reset) (Master.portB) (R_SEM 31) (some (BitVec.ofNat 32 1)) (((State.cxPlace (State.reset) (Master.portB) (R_SEM 31) true).getD (none, 0)).2)).regWrite (Master.portB) (R_SEM 31) (BitVec.toNat (BitVec.ofNat 32 1))).2) : State), by decide +kernel⟩,
   ⟨(State.reset), (.portB : Master), (1 : Nat), (((cxTarget (R_MB_DB 1)).getD 0) : Nat), ((((State.cxPlace (State.reset) (Master.portB) (R_MB_DB 1) true).getD (none, 0)).2) : Nat), ((((State.cxBegin (State.reset) (Master.portB) (R_MB_DB 1) (some (BitVec.ofNat 32 1)) (((State.cxPlace (State.reset) (Master.portB) (R_MB_DB 1) true).getD (none, 0)).2)).regWrite (Master.portB) (R_MB_DB 1) (BitVec.toNat (BitVec.ofNat 32 1))).2) : State), by decide +kernel⟩,
   ⟨(State.reset), (.portB : Master), (1 : Nat), (((cxTarget (R_MB_STAT 1)).getD 0) : Nat), ((((State.cxPlace (State.reset) (Master.portB) (R_MB_STAT 1) true).getD (none, 0)).2) : Nat), ((((State.cxBegin (State.reset) (Master.portB) (R_MB_STAT 1) (some (BitVec.ofNat 32 8)) (((State.cxPlace (State.reset) (Master.portB) (R_MB_STAT 1) true).getD (none, 0)).2)).regWrite (Master.portB) (R_MB_STAT 1) (BitVec.toNat (BitVec.ofNat 32 8))).2) : State), by decide +kernel⟩,
   ⟨(State.reset), (((cxTarget R_GLB_WH_CTL).getD 0) : Nat), ((((State.cxPlace (State.reset) (Master.wellhead) R_GLB_WH_CTL true).getD (none, 0)).2) : Nat), ((((State.cxBegin (State.reset) (Master.wellhead) R_GLB_WH_CTL (some (BitVec.ofNat 32 (2 + (State.reset).slotBit))) (((State.cxPlace (State.reset) (Master.wellhead) R_GLB_WH_CTL true).getD (none, 0)).2)).regWrite (Master.wellhead) R_GLB_WH_CTL (BitVec.toNat (BitVec.ofNat 32 (2 + (State.reset).slotBit)))).2) : State), by decide +kernel⟩,
   ⟨(State.reset), (((cxTarget R_GLB_WH_CTL).getD 0) : Nat), ((((State.cxPlace (State.reset) (Master.wellhead) R_GLB_WH_CTL true).getD (none, 0)).2) : Nat), ((((State.cxBegin (State.reset) (Master.wellhead) R_GLB_WH_CTL (some (BitVec.ofNat 32 (1 + (State.reset).slotBit))) (((State.cxPlace (State.reset) (Master.wellhead) R_GLB_WH_CTL true).getD (none, 0)).2)).regWrite (Master.wellhead) R_GLB_WH_CTL (BitVec.toNat (BitVec.ofNat 32 (1 + (State.reset).slotBit)))).2) : State), by decide +kernel⟩,
   ⟨(State.reset), (.portB : Master), (((cxTarget R_GLB_WH_CTL).getD 0) : Nat), ((((State.cxPlace (State.reset) (Master.portB) R_GLB_WH_CTL true).getD (none, 0)).2) : Nat), ((((State.cxBegin (State.reset) (Master.portB) R_GLB_WH_CTL (some (BitVec.ofNat 32 (4 + (State.reset).slotBit))) (((State.cxPlace (State.reset) (Master.portB) R_GLB_WH_CTL true).getD (none, 0)).2)).regWrite (Master.portB) R_GLB_WH_CTL (BitVec.toNat (BitVec.ofNat 32 (4 + (State.reset).slotBit)))).2) : State), by decide +kernel⟩,
   ⟨(State.reset), (.portB : Master), (3 : Nat), (((cxTarget R_GLB_FLT_RD).getD 0) : Nat), ((((State.cxPlace (State.reset) (Master.portB) R_GLB_FLT_RD true).getD (none, 0)).2) : Nat), ((((State.cxBegin (State.reset) (Master.portB) R_GLB_FLT_RD (some (BitVec.ofNat 32 (3 % 64))) (((State.cxPlace (State.reset) (Master.portB) R_GLB_FLT_RD true).getD (none, 0)).2)).regWrite (Master.portB) R_GLB_FLT_RD (BitVec.toNat (BitVec.ofNat 32 (3 % 64)))).2) : State), by decide +kernel⟩,
   ⟨({ State.reset with wh := { State.reset.wh with holds := [(1, 3, some 0)] } }), (1 : Nat), by decide +kernel⟩,
   ⟨(woaS), (1 : Nat), (⟨.portB, R_TL_CFG, none, false, none⟩ : CxAcc), (none : Option Nat), (61 : Nat), (5 : Nat), by decide +kernel⟩,
   ⟨(State.reset.put (SEM_OWN_OWNER 3) 1), (3 : Nat), by decide +kernel⟩,
   ⟨(State.reset), ([0, 0, 0, 1, 0, 0, 0, crc8 [1, 0, 0, 0, 1, 0, 0, 0]] : List Nat), by decide +kernel⟩,
   ⟨(State.reset), ([0, 0, 0, 15, crc8 [2, 0, 0, 0, 15]] : List Nat), by decide +kernel⟩,
   ⟨(State.reset), ([crc8 [3]] : List Nat), by decide +kernel⟩,
   ⟨(State.reset), (3 : Nat), by decide +kernel⟩,
   ⟨({ State.reset with wh := { State.reset.wh with pbSetup := some none } }), (3 : Nat), by decide +kernel⟩,
   ⟨({ State.reset with wh := { State.reset.wh with pbSetup := some (some (0, 1)) } }), (9 : Nat), (0 : Nat), (1 : Nat), by decide +kernel⟩⟩

theorem witness_TimeExchangeRowsAct :
    (∃ (s : State) (p : Nat), s.portUp p = true ∧ s.tm.parent ≠ some p ∧ s.stopped = false) ∧
    (∃ (s : State) (p : Nat) (a : Nat) (k : Pkt) (u : State), s.takeOwn p (fun k => timeSub k == 1) = (some (a, k), u) ∧ u.tm.parent = some p ∧ s.stopped = false) ∧
    (∃ (s : State) (p : Nat) (a : Nat) (k : Pkt) (u : State), s.takeOwn p (fun k => timeSub k == 2) = (some (a, k), u) ∧ s.stopped = false) ∧
    (∃ (s : State) (p : Nat) (a : Nat) (k : Pkt) (u : State) (x : Exch), s.takeOwn p (fun k => timeSub k == 3) = (some (a, k), u) ∧ tget u.tm.exch p = some x ∧ x.xseq = timeSeq k ∧ u.tm.parent = some p ∧ s.stopped = false) ∧
    (∃ (s : State), s.stopped = false) ∧
    (∃ (s : State) (p : Nat) (k : Pkt) (u : State), s.takeAnnounce p = (some (u.tbTile, k), u) ∧ (gmOf k).node ≠ u.node ∧ s.stopped = false) ∧
    (∃ (s : State) (p : Nat) (k : Pkt) (u : State), s.takeAnnounce p = (some (u.tbTile, k), u) ∧ (gmOf k).node = u.node ∧ s.stopped = false) ∧
    (∃ (s : State) (p : Nat), s.tm.parent = some p ∧ s.stopped = false) ∧
    (∃ (s : State) (p : Nat), s.isRunnel p = true ∧ s.linkIsUp p = true ∧ s.stopped = false) ∧
    (∃ (s : State) (p : Nat) (a : Nat) (k : Pkt) (u : State), s.takeOwn p (fun k => k.kind == kMGMT) = (some (a, k), u) ∧ s.stopped = false) ∧
    (∃ (s : State) (p : Nat) (t : Nat) (k : Pkt) (u : State), s.takeAnnounce p = (some (t, k), u) ∧ t ≠ u.tbTile ∧ s.stopped = false) :=
  ⟨⟨(upS), (0 : Nat), by decide +kernel⟩,
   ⟨(nearS 1), (0 : Nat), (5 : Nat), (timeP 1 : Pkt), ((((nearS 1).takeOwn 0 (fun k => timeSub k == 1)).2) : State), by decide +kernel⟩,
   ⟨(nearS 2), (0 : Nat), (5 : Nat), (timeP 2 : Pkt), ((((nearS 2).takeOwn 0 (fun k => timeSub k == 2)).2) : State), by decide +kernel⟩,
   ⟨(nearS 3), (0 : Nat), (5 : Nat), (timeP 3 : Pkt), ((((nearS 3).takeOwn 0 (fun k => timeSub k == 3)).2) : State), (⟨7, 0, 0, 0⟩ : Exch), by decide +kernel⟩,
   ⟨(State.reset), by decide +kernel⟩,
   ⟨(annS.put GLB_NODE_ID 9), (0 : Nat), ({ timeP 4 with src := tileEid 0 (ptTile 0) } : Pkt), ((((annS.put GLB_NODE_ID 9).takeAnnounce 0).2) : State), by decide +kernel⟩,
   ⟨(annS), (0 : Nat), ({ timeP 4 with src := tileEid 0 (ptTile 0) } : Pkt), ((((annS).takeAnnounce 0).2) : State), by decide +kernel⟩,
   ⟨(nearS 1), (0 : Nat), by decide +kernel⟩,
   ⟨(upS), (0 : Nat), by decide +kernel⟩,
   ⟨(helloS), (0 : Nat), (5 : Nat), ({ timeP 0 with kind := kMGMT } : Pkt), ((((helloS).takeOwn 0 (fun k => k.kind == kMGMT)).2) : State), by decide +kernel⟩,
   ⟨(annS.put TM_STATUS_TB_ACTIVE 1), (0 : Nat), (9 : Nat), ({ timeP 4 with src := tileEid 0 (ptTile 0) } : Pkt), ((((annS.put TM_STATUS_TB_ACTIVE 1).takeAnnounce 0).2) : State), by decide +kernel⟩⟩

theorem witness_TimebaseRowsAct :
    (∃ (s : State), s.tm.growing = true ∧ s.on TM_STATUS_OUT_OF_BOUND = false ∧ s.stopped = false) ∧
    (∃ (s : State) (u : State), u = ({ s with tm := { s.tm with ppsEdge := some (s.ns * 65536), ppsAge := 0, cls := 0 } }).chooseGm ∧ u.on TM_STATUS_VALID = true ∧ u.tm.parent = none ∧ s.stopped = false) ∧
    (∃ (s : State) (u : State), u = ({ s with tm := { s.tm with ppsEdge := some (s.ns * 65536), ppsAge := 0, cls := 0 } }).chooseGm ∧ (u.on TM_STATUS_VALID = false ∨ u.tm.parent ≠ none) ∧ s.stopped = false) ∧
    (∃ (s : State) (u : State), s.tm.cls = 0 ∧ u = s.pass (1500000001 - s.tm.ppsAge) ∧ s.stopped = false) ∧
    (∃ (s : State), s.on TM_STATUS_VALID = true ∧ s.tm.ppsLeft = 0 ∧ s.tm.tclk = true ∧ s.stopped = false) ∧
    (∃ (s : State), s.tm.ppsLeft ≠ 0 ∧ s.stopped = false) ∧
    (∃ (s : State) (n : Nat), s.ticking = true ∧ n = s.cyclesTo s.nextTickNs ∧ s.stopped = false) ∧
    (∃ (s : State) (_ : Bool), s.tm.retired.length ≠ 2 ∧ s.stopped = false) ∧
    (∃ (s : State), s.tm.retired.length ≠ 2 ∧ s.tm.tclk = true ∧ s.stopped = false) ∧
    (∃ (s : State), s.tm.retired = [] ∧ s.tm.tclk = true ∧ s.stopped = false) ∧
    (∃ (s : State) (_ : Nat), s.tm.tclk = true ∧ s.stopped = false) :=
  ⟨⟨({ State.reset with tm := { growing := true } }), by decide +kernel⟩,
   ⟨(State.reset.put TM_STATUS_VALID 1), ((({ (State.reset.put TM_STATUS_VALID 1) with tm := { (State.reset.put TM_STATUS_VALID 1).tm with ppsEdge := some ((State.reset.put TM_STATUS_VALID 1).ns * 65536), ppsAge := 0, cls := 0 } }).chooseGm) : State), by decide +kernel⟩,
   ⟨(State.reset), ((({ (State.reset) with tm := { (State.reset).tm with ppsEdge := some ((State.reset).ns * 65536), ppsAge := 0, cls := 0 } }).chooseGm) : State), by decide +kernel⟩,
   ⟨({ State.reset with tm := { cls := 0, ppsAge := 1500000001 } }), ((({ State.reset with tm := { cls := 0, ppsAge := 1500000001 } }).pass (1500000001 - ({ State.reset with tm := { cls := 0, ppsAge := 1500000001 } }).tm.ppsAge)) : State), ⟨by decide +kernel, rfl, by decide +kernel⟩⟩,
   ⟨(State.reset.put TM_STATUS_VALID 1), by decide +kernel⟩,
   ⟨({ State.reset with tm := { ppsLeft := 3 } }), by decide +kernel⟩,
   ⟨(tickS), (62500 : Nat), by decide +kernel⟩,
   ⟨(State.reset), (false : Bool), by decide +kernel⟩,
   ⟨(State.reset), by decide +kernel⟩,
   ⟨(State.reset), by decide +kernel⟩,
   ⟨(State.reset), (87960930222080 : Nat), by decide +kernel⟩⟩

theorem witness_TimeCommandsAct :
    (∃ (s : State) (mb : Nat) (c : OpenCmd) (sec : Nat) (e : Nat), s.runs mb 0x0801 c ∧ sec < 2 ^ 48 ∧ s.tm.ppsEdge = some e ∧ s.tm.ppsAge ≤ 900000000 ∧ s.on TM_STATUS_VALID = false ∧ s.stopped = false) ∧
    (∃ (s : State) (mb : Nat) (c : OpenCmd) (sec : Nat) (e : Nat), s.runs mb 0x0801 c ∧ sec < 2 ^ 48 ∧ s.tm.ppsEdge = some e ∧ s.tm.ppsAge ≤ 900000000 ∧ s.on TM_STATUS_VALID = true ∧ sec ≠ (e / 65536 + 500000000) / 1000000000 ∧ s.stopped = false) ∧
    (∃ (s : State) (mb : Nat) (c : OpenCmd) (v : Int), s.runs mb 0x0802 c ∧ -(2 ^ 31) ≤ v ∧ v < 2 ^ 31 ∧ s.stopped = false) ∧
    (∃ (s : State) (mb : Nat) (c : OpenCmd) (_ : Int), s.runs mb 0x0802 c ∧ s.stopped = false) ∧
    (∃ (s : State) (mb : Nat) (c : OpenCmd) (per : Nat) (ph : Nat) (frame : Nat) (u : State), s.runs mb 0x0803 c ∧ 8000 ≤ per ∧ per ≤ 4096000 ∧ ph < per ∧ frame < 2 ^ 64 ∧ s.periodFail per = 0 ∧ u = ((((s.put TM_FRAME_NEXT_PERIOD_NS per).put TM_FRAME_NEXT_PHASE_NS ph).wr R_TM_FRAME_SWITCH_LO frame).wr R_TM_FRAME_SWITCH_HI (frame / 2 ^ 32)).armSwitch frame ∧ u.on TM_FRAME_CTL_SWITCH_ARMED = true ∧ s.stopped = false) ∧
    (∃ (s : State) (mb : Nat) (c : OpenCmd) (p : Nat), s.runs mb 0x0804 c ∧ p < 128 ∧ s.stopped = false) ∧
    (∃ (s : State) (mb : Nat) (c : OpenCmd), s.runs mb 0x0805 c ∧ s.tm.retired.length ≠ 2 ∧ s.stopped = false) ∧
    (∃ (s : State) (mb : Nat) (c : OpenCmd) (sec : Nat) (e : Nat), s.runs mb 0x0801 c ∧ sec < 2 ^ 48 ∧ s.tm.ppsEdge = some e ∧ s.tm.ppsAge ≤ 900000000 ∧ s.on TM_STATUS_VALID = true ∧ sec = (e / 65536 + 500000000) / 1000000000 ∧ s.stopped = false) ∧
    (∃ (s : State) (mb : Nat) (c : OpenCmd) (sec : Nat), s.runs mb 0x0801 c ∧ sec < 2 ^ 48 ∧ (s.tm.ppsEdge = none ∨ 900000000 < s.tm.ppsAge) ∧ s.stopped = false) ∧
    (∃ (s : State) (mb : Nat) (c : OpenCmd) (per : Nat) (ph : Nat) (frame : Nat), s.runs mb 0x0803 c ∧ (per < 8000 ∨ 4096000 < per ∨ per ≤ ph ∨ 2 ^ 64 ≤ frame) ∧ s.stopped = false) ∧
    (∃ (s : State) (mb : Nat) (c : OpenCmd) (per : Nat) (ph : Nat) (frame : Nat), s.runs mb 0x0803 c ∧ 8000 ≤ per ∧ per ≤ 4096000 ∧ ph < per ∧ frame < 2 ^ 64 ∧ s.periodFail per ≠ 0 ∧ s.stopped = false) ∧
    (∃ (s : State) (mb : Nat) (c : OpenCmd), s.runs mb 0x0805 c ∧ s.tm.retired.length = 2 ∧ s.stopped = false) :=
  ⟨⟨({ cmdS 0 0x0801 with tm := { ppsEdge := some 0 } }), (0 : Nat), ((cmd0 0x0801) : OpenCmd), (5 : Nat), (0 : Nat), by decide +kernel⟩,
   ⟨({ (cmdS 0 0x0801).put TM_STATUS_VALID 1 with tm := { ppsEdge := some 0 } }), (0 : Nat), ((cmd0 0x0801) : OpenCmd), (5 : Nat), (0 : Nat), by decide +kernel⟩,
   ⟨(cmdS 0 0x0802), (0 : Nat), ((cmd0 0x0802) : OpenCmd), (900000 : Int), by decide +kernel⟩,
   ⟨(cmdS 0 0x0802), (0 : Nat), ((cmd0 0x0802) : OpenCmd), (5 : Int), by decide +kernel⟩,
   ⟨(cmdS 0 0x0803), (0 : Nat), ((cmd0 0x0803) : OpenCmd), (62500 : Nat), (0 : Nat), (3 : Nat), (((((((cmdS 0 0x0803).put TM_FRAME_NEXT_PERIOD_NS 62500).put TM_FRAME_NEXT_PHASE_NS 0).wr R_TM_FRAME_SWITCH_LO 3).wr R_TM_FRAME_SWITCH_HI (3 / 2 ^ 32)).armSwitch 3) : State), ⟨by decide +kernel, by decide +kernel, by decide +kernel, by decide +kernel, by decide +kernel, by decide +kernel, rfl, by decide +kernel, by decide +kernel⟩⟩,
   ⟨(cmdS 0 0x0804), (0 : Nat), ((cmd0 0x0804) : OpenCmd), (127 : Nat), by decide +kernel⟩,
   ⟨(cmdS 0 0x0805), (0 : Nat), ((cmd0 0x0805) : OpenCmd), by decide +kernel⟩,
   ⟨({ (cmdS 0 0x0801).put TM_STATUS_VALID 1 with tm := { ppsEdge := some 0 } }), (0 : Nat), ((cmd0 0x0801) : OpenCmd), (0 : Nat), (0 : Nat), by decide +kernel⟩,
   ⟨(cmdS 0 0x0801), (0 : Nat), ((cmd0 0x0801) : OpenCmd), (5 : Nat), by decide +kernel⟩,
   ⟨(cmdS 0 0x0803), (0 : Nat), ((cmd0 0x0803) : OpenCmd), (7999 : Nat), (0 : Nat), (3 : Nat), by decide +kernel⟩,
   ⟨({ cmdS 0 0x0803 with sch := { adm := [⟨{ streamR with close := 9000 }, strBase (ptTile 0) 0, 99, 0, 0, 0, 0⟩] } }), (0 : Nat), ((cmd0 0x0803) : OpenCmd), (8000 : Nat), (0 : Nat), (3 : Nat), by decide +kernel⟩,
   ⟨({ cmdS 0 0x0805 with tm := { retired := [0, 1] } }), (0 : Nat), ((cmd0 0x0805) : OpenCmd), by decide +kernel⟩⟩

theorem witness_MasterAndDeliveryRowsAct :
    (∃ (s : State) (_ : Nat) (_ : Nat) (_ : Nat) (_ : Nat) (_ : List Word), s.whIssues = true ∧ s.ord.bars.any (fun b => b.tile == whTile) = false ∧ s.wh.accq = [] ∧ s.stopped = false) ∧
    (∃ (s : State) (_ : Nat) (_ : Nat) (_ : Nat) (_ : Nat) (_ : List Word), s.whIssues = true ∧ (s.ord.bars.any (fun b => b.tile == whTile) = true ∨ s.wh.accq ≠ []) ∧ s.stopped = false) ∧
    (∃ (s : State) (ti : Nat) (u : State), u = (s.resendAt ti).retry (fun h => h.tile == ti && retryable h) ∧ (ti ≠ whTile ∨ u.ord.bars.any (fun b => b.tile == whTile) = true ∨ u.wh.accq = []) ∧ s.stopped = false) ∧
    (∃ (s : State) (u : State) (x : WAcc) (rest : List WAcc), u = (s.resendAt whTile).retry (fun h => h.tile == whTile && retryable h) ∧ u.ord.bars.any (fun b => b.tile == whTile) = false ∧ u.wh.accq = x :: rest ∧ s.stopped = false) ∧
    (∃ (s : State) (ti : Nat) (p : Pkt) (u : State), s.gives ti (fun p => (p.kind == kREAD && p.len != 0) || isTlp p tyMRd) p u ∧ atPortA ti p = false ∧ s.stopped = false) ∧
    (∃ (s : State) (ti : Nat) (p : Pkt) (u : State), s.gives ti (fun p => (p.kind == kREAD && p.len != 0) || isTlp p tyMRd) p u ∧ atPortA ti p = true ∧ s.stopped = false) ∧
    (∃ (s : State) (ti : Nat) (p : Pkt) (u : State), s.gives ti flushRead p u ∧ s.stopped = false) ∧
    (∃ (s : State) (ti : Nat) (p : Pkt) (u : State), s.gives ti (fun p => p.kind == kWRITE_P || isTlp p tyMWr) p u ∧ atPortA ti p = false ∧ s.stopped = false) ∧
    (∃ (s : State) (ti : Nat) (p : Pkt) (u : State), s.gives ti (fun p => p.kind == kWRITE_NP || isTlp p tyDMWr) p u ∧ atPortA ti p = false ∧ s.stopped = false) ∧
    (∃ (s : State) (ti : Nat) (a : Nat) (op : Nat) (size : Nat) (o1 : Nat) (o2 : Nat) (p : Pkt) (u : State) (v : State) (old : Nat) (st : Status), s.gives ti (fun p => p.kind == kATOMIC || isTlp p tyAtomic) p u ∧ (¬ (p.kind = kTLP ∧ bit ((p.data.getD 0 0).toNat) 5 = true)) ∧ atomicArgs p = (op, size, o1, o2) ∧ bankRange ti p size = some a ∧ u.bankAtomic a size op o1 o2 = (old, st, v) ∧ s.stopped = false) ∧
    (∃ (s : State) (ti : Nat) (a : Nat) (p : Pkt) (u : State) (v : State) (bs : List Nat) (st : Status), s.gives ti (fun p => p.kind == kRESERVE) p u ∧ bankRange ti p (4 * p.len) = some a ∧ u.bankReserve a (4 * p.len) (resKey p) = (bs, st, v) ∧ s.stopped = false) ∧
    (∃ (s : State) (ti : Nat) (a : Nat) (p : Pkt) (u : State) (v : State) (st : Status), s.gives ti (fun p => p.kind == kCOND) p u ∧ bankRange ti p (4 * p.data.length) = some a ∧ u.bankCond a (wordsBytes p.data) (resKey p) = (st, v) ∧ s.stopped = false) ∧
    (∃ (s : State) (ti : Nat) (e : Nat) (p : Pkt) (u : State), s.gives ti (fun p => p.kind == kMSG) p u ∧ tileUnit ti = .kt e ∧ p.addr % 65536 = 0x0601 ∧ s.stopped = false) ∧
    (∃ (s : State) (ti : Nat) (b : Nat) (p : Pkt) (u : State), s.gives ti (fun p => p.kind == kMSG) p u ∧ tileUnit ti = .ct b ∧ p.addr % 65536 = 0x0602 ∧ s.stopped = false) ∧
    (∃ (s : State) (ti : Nat) (p : Pkt) (u : State), s.gives ti (fun k => k.kind == kMGMT) p u ∧ ti = cxTile ∧ p.addr % 65536 = 0x10 ∧ s.stopped = false) ∧
    (∃ (s : State) (ti : Nat) (p : Pkt) (u : State), s.gives ti (fun p => p.kind == kWRITE_P || isTlp p tyMWr) p u ∧ atPortA ti p = true ∧ s.stopped = false) ∧
    (∃ (s : State) (ti : Nat) (p : Pkt) (u : State), s.gives ti (fun p => p.kind == kWRITE_NP || isTlp p tyDMWr) p u ∧ atPortA ti p = true ∧ s.stopped = false) :=
  ⟨⟨(whRunS), (kWRITE_P : Nat), (0 : Nat), (1 : Nat), (0 : Nat), ([0] : List Word), by decide +kernel⟩,
   ⟨({ whRunS with ord := { bars := [⟨whTile, 1, 0, 0, .ok, none, [], 0⟩] } }), (kWRITE_P : Nat), (0 : Nat), (1 : Nat), (0 : Nat), ([0] : List Word), by decide +kernel⟩,
   ⟨(State.reset), (0 : Nat), ((((State.reset).resendAt 0).retry (fun h => h.tile == 0 && retryable h)) : State), by decide +kernel⟩,
   ⟨({ State.reset with wh := { State.reset.wh with accq := [⟨kWRITE_P, 0, 1, 0, [0]⟩] } }), (((({ State.reset with wh := { State.reset.wh with accq := [⟨kWRITE_P, 0, 1, 0, [0]⟩] } }).resendAt whTile).retry (fun h => h.tile == whTile && retryable h)) : State), (⟨kWRITE_P, 0, 1, 0, [0]⟩ : WAcc), ([] : List WAcc), by decide +kernel⟩,
   ⟨(arrS (ctTile 0) (pktOf kREAD 1)), (ctTile 0 : Nat), (pktOf kREAD 1 : Pkt), (((State.takeArrived (arrS (ctTile 0) (pktOf kREAD 1)) ((ctTile 0 : Nat)) (fun p => (p.kind == kREAD && p.len != 0) || isTlp p tyMRd)).2) : State), by decide +kernel⟩,
   ⟨(arrS cxTile portAP), (cxTile : Nat), (portAP : Pkt), (((State.takeArrived (arrS cxTile portAP) (cxTile) (fun p => (p.kind == kREAD && p.len != 0) || isTlp p tyMRd)).2) : State), by decide +kernel⟩,
   ⟨(arrS 5 (pktOf kREAD 0)), (5 : Nat), (pktOf kREAD 0 : Pkt), (((State.takeArrived (arrS 5 (pktOf kREAD 0)) (5) flushRead).2) : State), by decide +kernel⟩,
   ⟨(arrS (ctTile 0) (pktOf kWRITE_P 1)), (ctTile 0 : Nat), (pktOf kWRITE_P 1 : Pkt), (((State.takeArrived (arrS (ctTile 0) (pktOf kWRITE_P 1)) ((ctTile 0 : Nat)) (fun p => p.kind == kWRITE_P || isTlp p tyMWr)).2) : State), by decide +kernel⟩,
   ⟨(arrS (ctTile 0) (pktOf kWRITE_NP 1)), (ctTile 0 : Nat), (pktOf kWRITE_NP 1 : Pkt), (((State.takeArrived (arrS (ctTile 0) (pktOf kWRITE_NP 1)) ((ctTile 0 : Nat)) (fun p => p.kind == kWRITE_NP || isTlp p tyDMWr)).2) : State), by decide +kernel⟩,
   ⟨(arrS (ctTile 0) atomP), (ctTile 0 : Nat), (0 : Nat), (1 : Nat), (4 : Nat), (0 : Nat), (0 : Nat), (atomP : Pkt), (((State.takeArrived (arrS (ctTile 0) atomP) ((ctTile 0 : Nat)) (fun p => p.kind == kATOMIC || isTlp p tyAtomic)).2) : State), (((((State.takeArrived (arrS (ctTile 0) atomP) ((ctTile 0 : Nat)) (fun p => p.kind == kATOMIC || isTlp p tyAtomic)).2).bankAtomic 0 4 1 0 0).2.2) : State), (0 : Nat), (.ok : Status), by decide +kernel⟩,
   ⟨(arrS (ctTile 0) (pktOf kRESERVE 1)), (ctTile 0 : Nat), (0 : Nat), (pktOf kRESERVE 1 : Pkt), (((State.takeArrived (arrS (ctTile 0) (pktOf kRESERVE 1)) ((ctTile 0 : Nat)) (fun p => p.kind == kRESERVE)).2) : State), (((((State.takeArrived (arrS (ctTile 0) (pktOf kRESERVE 1)) ((ctTile 0 : Nat)) (fun p => p.kind == kRESERVE)).2).bankReserve 0 (4 * (pktOf kRESERVE 1 : Pkt).len) (resKey (pktOf kRESERVE 1 : Pkt))).2.2) : State), ([0, 0, 0, 0] : List Nat), (.ok : Status), by decide +kernel⟩,
   ⟨(arrS (ctTile 0) (pktOf kCOND 1)), (ctTile 0 : Nat), (0 : Nat), (pktOf kCOND 1 : Pkt), (((State.takeArrived (arrS (ctTile 0) (pktOf kCOND 1)) ((ctTile 0 : Nat)) (fun p => p.kind == kCOND)).2) : State), (((((State.takeArrived (arrS (ctTile 0) (pktOf kCOND 1)) ((ctTile 0 : Nat)) (fun p => p.kind == kCOND)).2).bankCond 0 (wordsBytes (pktOf kCOND 1 : Pkt).data) (resKey (pktOf kCOND 1 : Pkt))).2) : State), (.reservationLost : Status), by decide +kernel⟩,
   ⟨(arrS (ktTile 0) { pktOf kMSG 0 with addr := 0x0601 }), (ktTile 0 : Nat), (0 : Nat), ({ pktOf kMSG 0 with addr := 0x0601 } : Pkt), (((State.takeArrived (arrS (ktTile 0) { pktOf kMSG 0 with addr := 0x0601 }) ((ktTile 0 : Nat)) (fun p => p.kind == kMSG)).2) : State), by decide +kernel⟩,
   ⟨(arrS (ctTile 0) { pktOf kMSG 0 with addr := 0x0602 }), (ctTile 0 : Nat), (0 : Nat), ({ pktOf kMSG 0 with addr := 0x0602 } : Pkt), (((State.takeArrived (arrS (ctTile 0) { pktOf kMSG 0 with addr := 0x0602 }) ((ctTile 0 : Nat)) (fun p => p.kind == kMSG)).2) : State), by decide +kernel⟩,
   ⟨(arrS cxTile { pktOf kMGMT 0 with addr := 0x10 }), (cxTile : Nat), ({ pktOf kMGMT 0 with addr := 0x10 } : Pkt), (((State.takeArrived (arrS cxTile { pktOf kMGMT 0 with addr := 0x10 }) (cxTile) (fun k => k.kind == kMGMT)).2) : State), by decide +kernel⟩,
   ⟨(arrS cxTile { portAP with tlp := some { tlp0 with typ := tyMWr, hlen := 1 } }), (cxTile : Nat), ({ portAP with tlp := some { tlp0 with typ := tyMWr, hlen := 1 } } : Pkt), (((State.takeArrived (arrS cxTile { portAP with tlp := some { tlp0 with typ := tyMWr, hlen := 1 } }) (cxTile) (fun p => p.kind == kWRITE_P || isTlp p tyMWr)).2) : State), by decide +kernel⟩,
   ⟨(arrS cxTile { portAP with tlp := some { tlp0 with typ := tyDMWr, hlen := 1 } }), (cxTile : Nat), ({ portAP with tlp := some { tlp0 with typ := tyDMWr, hlen := 1 } } : Pkt), (((State.takeArrived (arrS cxTile { portAP with tlp := some { tlp0 with typ := tyDMWr, hlen := 1 } }) (cxTile) (fun p => p.kind == kWRITE_NP || isTlp p tyDMWr)).2) : State), by decide +kernel⟩⟩

theorem witness_MeshRowsAct :
    (∃ (s : State) (ti : Nat) (c : Pkt) (u : State) (e : RoEntry), s.gives ti (fun p => pktClass p == 2) c u ∧ u.roMatch ti c = some e ∧ s.stopped = false) ∧
    (∃ (s : State) (ti : Nat) (c : Pkt) (u : State), s.gives ti (fun p => pktClass p == 2) c u ∧ u.roMatch ti c = none ∧ s.stopped = false) ∧
    (∃ (s : State) (ti : Nat) (tag : Nat) (e : RoEntry), tget s.req.ro (roKey ti tag) = some e ∧ e.st = 1 ∧ tag < 65536 ∧ s.outranked ti tag e = false ∧ e.fgen = s.get GLB_FAULT_GEN_GEN ∧ s.stopped = false) ∧
    (∃ (s : State) (ti : Nat) (tag : Nat) (e : RoEntry), tget s.req.ro (roKey ti tag) = some e ∧ e.st = 1 ∧ tag < 65536 ∧ s.outranked ti tag e = false ∧ e.fgen ≠ s.get GLB_FAULT_GEN_GEN ∧ s.stopped = false) ∧
    (∃ (s : State) (ti : Nat) (tag : Nat) (e : RoEntry), tget s.req.ro (roKey ti tag) = some e ∧ e.st = 2 ∧ tag < 65536 ∧ s.stopped = false) ∧
    (∃ (s : State) (src : Nat) (dt : Nat) (p : Nat) (vc : Nat) (f : Flight), s.mesh.fly.find? (fun f => f.src == src && f.dtile == dt && f.plane == p && f.vc == vc) = some f ∧ s.planeRuns p = true ∧ s.stopped = false) ∧
    (∃ (s : State) (src : Nat) (dt : Nat) (p : Nat) (vc : Nat) (f : Flight), s.mesh.fly.find? (fun f => f.src == src && f.dtile == dt && f.plane == p && f.vc == vc) = some f ∧ s.planeRuns p = false ∧ s.stopped = false) ∧
    (∃ (s : State) (ti : Nat) (tag : Nat) (seq : Nat) (x : Nat × Nat × Nat × Nat), s.mesh.transit.find? (fun e => e.1 == ti && e.2.1 == tag && e.2.2.1 == seq) = some x ∧ s.stopped = false) ∧
    (∃ (s : State) (ti : Nat) (r : Receipt), s.mesh.rcpts.find? (fun r => r.tgt == ti) = some r ∧ s.stopped = false) ∧
    (∃ (s : State) (ti : Nat) (dt : Nat), s.mesh.fences.any (fun f => f.tile == ti && f.dtile == dt && s.fenceOpen f) = true ∧ s.stopped = false) ∧
    (∃ (s : State) (p : Nat) (ti : Nat) (dd : Nat) (vc : Nat), p < 2 ∧ hasPort ti dd = true ∧ (dd < 4 → bit (s.get (RT_FENCE_PORTS p (nextTile ti dd))) (backDir dd) = false) ∧ vc < 8 ∧ tgetD s.mesh.credUsed (credKey p ti dd vc) 0 ≠ 0 ∧ s.stopped = false) ∧
    (∃ (s : State) (ti : Nat) (tag : Nat) (e : RoEntry), tget s.req.ro (roKey ti tag) = some e ∧ e.st = 1 ∧ tag < 65536 ∧ s.outranked ti tag e = true ∧ s.stopped = false) :=
  ⟨⟨(cplS), (0 : Nat), (cplP : Pkt), (((State.takeArrived (cplS) (0) (fun p => pktClass p == 2)).2) : State), (roE : RoEntry), by decide +kernel⟩,
   ⟨(arrS 0 cplP), (0 : Nat), (cplP : Pkt), (((State.takeArrived (arrS 0 cplP) (0) (fun p => pktClass p == 2)).2) : State), by decide +kernel⟩,
   ⟨(roS), (0 : Nat), (0 : Nat), (roE : RoEntry), by decide +kernel⟩,
   ⟨(roS.put GLB_FAULT_GEN_GEN 1), (0 : Nat), (0 : Nat), (roE : RoEntry), by decide +kernel⟩,
   ⟨({ State.reset with req := { ro := [(roKey 0 0, { roE with st := 2 })] } }), (0 : Nat), (0 : Nat), ({ roE with st := 2 } : RoEntry), by decide +kernel⟩,
   ⟨(flyS true), (0 : Nat), (1 : Nat), (0 : Nat), (0 : Nat), (flyF true : Flight), by decide +kernel⟩,
   ⟨({ State.reset with mesh := { fly := [flyF false] } }), (0 : Nat), (1 : Nat), (0 : Nat), (0 : Nat), (flyF false : Flight), by decide +kernel⟩,
   ⟨({ State.reset with mesh := { transit := [(0, 1, 2, 3)] } }), (0 : Nat), (1 : Nat), (2 : Nat), (((0, 1, 2, 3) : Nat × Nat × Nat × Nat) : Nat × Nat × Nat × Nat), by decide +kernel⟩,
   ⟨({ State.reset with mesh := { rcpts := [⟨0, 1, 0, 0, 1, false⟩] } }), (0 : Nat), (⟨0, 1, 0, 0, 1, false⟩ : Receipt), by decide +kernel⟩,
   ⟨({ State.reset with mesh := { fences := [⟨0, 1, 0, 0, 0, 0⟩] } }), (0 : Nat), (1 : Nat), by decide +kernel⟩,
   ⟨({ State.reset with mesh := { credUsed := [(credKey 1 63 4 7, 1)] } }), (1 : Nat), (63 : Nat), (4 : Nat), (7 : Nat), by decide +kernel⟩,
   ⟨({ roS with pending := [.warmDrainEnd], wh := { roS.wh with rstBusy := true } }), (0 : Nat), (0 : Nat), (roE : RoEntry), by decide +kernel⟩⟩

theorem witness_PlaneRowsAct :
    (∃ (s : State) (p : Nat), p < 2 ∧ s.plane p = pFENCING ∧ s.mesh.kept.any (fun k => k.plane == p) = false ∧ s.mesh.fly.any (fun f => f.plane == p) = false ∧ s.stopped = false) ∧
    (∃ (s : State) (p : Nat) (cause : Nat) (ti : Nat) (port : Nat) (_ : Nat) (f : Fld), p < 2 ∧ 1 ≤ cause ∧ cause ≤ 6 ∧ hasPort ti port = true ∧ s.plane p ≠ pOUT ∧ s.plane p ≠ pFAILED ∧ rtErrBit p ti cause = some f ∧ s.stopped = false) ∧
    (∃ (s : State) (p : Nat) (cause : Nat) (ti : Nat) (port : Nat) (_ : Nat), p < 2 ∧ 1 ≤ cause ∧ cause ≤ 6 ∧ hasPort ti port = true ∧ s.plane p ≠ pOUT ∧ s.plane p ≠ pFAILED ∧ rtErrBit p ti cause = none ∧ s.stopped = false) ∧
    (∃ (s : State) (ti : Nat) (dt : Nat) (p : Nat), s.mesh.ends.find? (fun e => e.2.1 == ti && e.2.2 == dt) = some (p, ti, dt) ∧ s.stopped = false) ∧
    (∃ (s : State) (p : Nat), p < 2 ∧ s.plane p = pFAILED ∧ s.mesh.ends.any (fun e => e.1 == p) = false ∧ s.mesh.kept.any (fun k => k.plane == p) = false ∧ s.stopped = false) ∧
    (∃ (s : State) (p : Nat), p < 2 ∧ s.plane p = pRETURNING ∧ (planeDoms p).any (fun d => s.dom d != dON) = false ∧ s.stopped = false) ∧
    (∃ (s : State) (p : Nat), p < 2 ∧ s.plane p = pRETURNING ∧ s.stopped = false) ∧
    (∃ (s : State) (p : Nat) (ti : Nat) (dd : Nat) (vc : Nat), p < 2 ∧ hasPort ti dd = true ∧ vc < 8 ∧ s.stopped = false) ∧
    (∃ (s : State) (p : Nat) (ti : Nat) (dd : Nat) (u : State), p < 2 ∧ hasPort ti dd = true ∧ bit (s.get (RT_FENCE_PORTS p ti)) dd = true ∧ bit (s.get (RT_FENCE_STAT_DONE p ti)) dd = false ∧ u = State.meshRun s.meshFuel p (fun v => v.inputEmpty p ti dd) s ∧ u.inputEmpty p ti dd = true ∧ s.stopped = false) ∧
    (∃ (s : State) (ti : Nat) (u : State), s.mesh.unswitched.contains ti = true ∧ u = s.passTo (tgetD s.mesh.recent ti 0 + clampN 2000 10000000 (s.get RTE_QUIET_NS)) ∧ s.stopped = false) ∧
    (∃ (s : State), s.on RTE_STAT_SYNC_BUSY = true ∧ s.stopped = false) ∧
    (∃ (s : State) (ti : Nat) (n : Nat), elimBase ti ≠ 0 ∧ n < 1024 ∧ s.stopped = false) ∧
    (∃ (s : State) (p : Nat) (ti : Nat) (dd : Nat) (u : State), p < 2 ∧ hasPort ti dd = true ∧ bit (s.get (RT_FENCE_PORTS p ti)) dd = true ∧ bit (s.get (RT_FENCE_STAT_DONE p ti)) dd = false ∧ u = State.meshRun s.meshFuel p (fun v => v.inputEmpty p ti dd) s ∧ u.inputEmpty p ti dd = false ∧ s.stopped = false) :=
  ⟨⟨(State.reset.setPlane 0 pFENCING), (0 : Nat), by decide +kernel⟩,
   ⟨(State.reset.setPlane 0 pIN), (0 : Nat), (1 : Nat), (0 : Nat), (1 : Nat), (0 : Nat), ((rtErrBit 0 0 1).getD ⟨0, 0, 0⟩ : Fld), by decide +kernel⟩,
   ⟨(State.reset.setPlane 0 pIN), (0 : Nat), (6 : Nat), (0 : Nat), (1 : Nat), (0 : Nat), by decide +kernel⟩,
   ⟨({ State.reset with mesh := { ends := [(0, 1, 2)] } }), (1 : Nat), (2 : Nat), (0 : Nat), by decide +kernel⟩,
   ⟨(State.reset.setPlane 1 pFAILED), (1 : Nat), by decide +kernel⟩,
   ⟨(returnS), (0 : Nat), by decide +kernel⟩,
   ⟨(returnS), (0 : Nat), by decide +kernel⟩,
   ⟨(State.reset), (1 : Nat), (63 : Nat), (4 : Nat), (7 : Nat), by decide +kernel⟩,
   ⟨(State.reset.put (RT_FENCE_PORTS 0 0) 16), (0 : Nat), (0 : Nat), (4 : Nat), ((State.meshRun (State.reset.put (RT_FENCE_PORTS 0 0) 16).meshFuel 0 (fun v => v.inputEmpty 0 0 4) (State.reset.put (RT_FENCE_PORTS 0 0) 16)) : State), by decide +kernel⟩,
   ⟨({ State.reset with mesh := { unswitched := [5] } }), (5 : Nat), ((({ State.reset with mesh := { unswitched := [5] } }).passTo (tgetD ({ State.reset with mesh := { unswitched := [5] } }).mesh.recent 5 0 + clampN 2000 10000000 (({ State.reset with mesh := { unswitched := [5] } }).get RTE_QUIET_NS))) : State), ⟨by decide +kernel, rfl, by decide +kernel⟩⟩,
   ⟨(State.reset.put RTE_STAT_SYNC_BUSY 1), by decide +kernel⟩,
   ⟨(State.reset), ((ptTile 0) : Nat), (1023 : Nat), by decide +kernel⟩,
   ⟨({ State.reset.put (RT_FENCE_PORTS 0 0) 16 with mesh := { rbuf := [⟨0, 0, 4, 0, 0, 1, true, true, 0⟩], credUsed := [(credKey 0 0 1 0, 8)] } }), (0 : Nat), (0 : Nat), (4 : Nat), ((State.meshRun ({ State.reset.put (RT_FENCE_PORTS 0 0) 16 with mesh := { rbuf := [⟨0, 0, 4, 0, 0, 1, true, true, 0⟩], credUsed := [(credKey 0 0 1 0, 8)] } }).meshFuel 0 (fun v => v.inputEmpty 0 0 4) ({ State.reset.put (RT_FENCE_PORTS 0 0) 16 with mesh := { rbuf := [⟨0, 0, 4, 0, 0, 1, true, true, 0⟩], credUsed := [(credKey 0 0 1 0, 8)] } })) : State), by decide +kernel⟩⟩

theorem witness_RouteCommandsAct :
    (∃ (s : State) (mb : Nat) (c : OpenCmd) (node : Nat) (tier : Nat) (set : Nat), s.runs mb 0x0301 c ∧ node < 4096 ∧ tier < 3 ∧ set < 2 ∧ s.nodeFree = true ∧ s.stopped = false) ∧
    (∃ (s : State) (mb : Nat) (c : OpenCmd), s.runs mb 0x0302 c ∧ s.stopped = false) ∧
    (∃ (s : State) (mb : Nat) (c : OpenCmd) (bank : Nat) (ents : List (Nat × Word)) (grps : List (Nat × List Nat)), s.runs mb 0x0303 c ∧ bank < 2 ∧ ents.findIdx? (fun e => decide (4096 ≤ e.1)) = none ∧ grps.findIdx? (fun g => decide (256 ≤ g.1)) = none ∧ s.bank bank = 0 ∧ s.stopped = false) ∧
    (∃ (s : State) (mb : Nat) (c : OpenCmd) (bank : Nat), s.runs mb 0x0304 c ∧ bank < 2 ∧ s.bank bank = 0 ∧ s.on RTE_STAT_SYNC_BUSY = false ∧ s.commitFail bank = none ∧ s.stopped = false) ∧
    (∃ (s : State) (mb : Nat) (c : OpenCmd) (bank : Nat), s.runs mb 0x0305 c ∧ bank < 2 ∧ s.bank bank = 1 ∧ s.stopped = false) ∧
    (∃ (s : State) (mb : Nat) (c : OpenCmd), s.runs mb 0x0306 c ∧ s.stopped = false) ∧
    (∃ (s : State) (mb : Nat) (c : OpenCmd) (bank : Nat), s.runs mb 0x0307 c ∧ bank < 2 ∧ s.bank bank = 3 ∧ s.on RTE_STAT_SWITCHED = true ∧ s.get (RTE_RES_COUNT bank) = 0 ∧ s.stopped = false) :=
  ⟨⟨(cmdS 0 0x0301), (0 : Nat), ((cmd0 0x0301) : OpenCmd), (4095 : Nat), (2 : Nat), (1 : Nat), by decide +kernel⟩,
   ⟨(cmdS 0 0x0302), (0 : Nat), ((cmd0 0x0302) : OpenCmd), by decide +kernel⟩,
   ⟨((cmdS 0 0x0303).setBank 1 0), (0 : Nat), ((cmd0 0x0303) : OpenCmd), (1 : Nat), (([(4095, 7)] : List (Nat × Word)) : List (Nat × Word)), (([(0, []), (255, [1])] : List (Nat × List Nat)) : List (Nat × List Nat)), by decide +kernel⟩,
   ⟨((cmdS 0 0x0304).setBank 1 0), (0 : Nat), ((cmd0 0x0304) : OpenCmd), (1 : Nat), ⟨by decide +kernel, by decide, by decide +kernel, by decide +kernel, commitFail_unset _ 1 (by decide) (by decide +kernel), by decide +kernel⟩⟩,
   ⟨((cmdS 0 0x0305).setBank 1 1), (0 : Nat), ((cmd0 0x0305) : OpenCmd), (1 : Nat), by decide +kernel⟩,
   ⟨(cmdS 0 0x0306), (0 : Nat), ((cmd0 0x0306) : OpenCmd), by decide +kernel⟩,
   ⟨(((cmdS 0 0x0307).setBank 1 3).put RTE_STAT_SWITCHED 1), (0 : Nat), ((cmd0 0x0307) : OpenCmd), (1 : Nat), by decide +kernel⟩⟩

theorem witness_GateAndShaperRowsAct :
    (∃ (s : State) (p : Nat) (u : State) (v : State) (w : State) (x : Nat × FqTag × QEnt), u = (s.endPkt p).backIn ∧ u.isRunnel p = true ∧ u.lst p = lkACTIVE ∧ (u.lk p).stopping = false ∧ v = u.pump p false ∧ v.txBusy p = false ∧ w = v.fqHeads p (v.linkCredit p) ∧ w.selectNext p (w.linkCredit p) = some x ∧ s.stopped = false) ∧
    (∃ (s : State) (p : Nat) (u : State) (w : State) (x : Nat × FqTag × QEnt), u = (s.endPkt p).backIn ∧ u.isRunnel p = false ∧ (u.isHost p || u.isDown p) = true ∧ u.lstat p = lsACTIVE ∧ u.pw.idle.contains p = false ∧ w = u.fqHeads p (u.pcCredit p) ∧ w.selectNext p (w.pcCredit p) = some x ∧ s.stopped = false) ∧
    (∃ (s : State) (p : Nat) (x : Nat × Nat), p < 128 ∧ s.gclUsed p = true ∧ (s.gcl p (s.gclActive p))[entryAt (s.gcl p (s.gclActive p)) s.tm.e + 1]? = some x ∧ s.reaches x.1 = true ∧ s.stopped = false) ∧
    (∃ (s : State) (p : Nat), p < 128 ∧ s.gclUsed p = true ∧ (s.gcl p (s.gclActive p))[entryAt (s.gcl p (s.gclActive p)) s.tm.e + 1]? = none ∧ s.stopped = false) ∧
    (∃ (s : State) (p : Nat) (q : Nat) (n : Nat), p < 128 ∧ q < 8 ∧ s.tm.tclk = true ∧ tget s.sch.refAt (p * 8 + q) = some n ∧ s.stopped = false) ∧
    (∃ (s : State) (c : Nat) (w : Nat), (s.sch.shold.filter (fun h => h.win == strBase (ptTile c) w)).isEmpty = false ∧ s.reaches (s.get (STR_OPEN_NS (strBase (ptTile c) w))) = true ∧ s.stopped = false) ∧
    (∃ (s : State) (p : Nat) (n : Nat) (u : State), p < 128 ∧ s.tm.tclk = true ∧ s.on (TEL_CFG_EN (portC p) (portK p)) = true ∧ s.telNext p = some n ∧ u = s.pass n ∧ s.stopped = false) ∧
    (∃ (s : State) (p : Pkt) (u : State), s.gives tlTile (fun p => p.kind == kMSG && p.addr % 65536 == telCode) p u ∧ p.addr / 65536 < 16 ∧ s.stopped = false) ∧
    (∃ (s : State) (p : Nat) (u : State) (v : State), u = (s.endPkt p).backIn ∧ u.isRunnel p = true ∧ u.lst p = lkACTIVE ∧ (u.lk p).stopping = false ∧ v = u.pump p false ∧ v.txBusy p = true ∧ s.stopped = false) ∧
    (∃ (s : State) (p : Nat) (u : State) (v : State) (w : State), u = (s.endPkt p).backIn ∧ u.isRunnel p = true ∧ u.lst p = lkACTIVE ∧ (u.lk p).stopping = false ∧ v = u.pump p false ∧ v.txBusy p = false ∧ w = v.fqHeads p (v.linkCredit p) ∧ w.selectNext p (w.linkCredit p) = none ∧ s.stopped = false) :=
  ⟨⟨(queueS), (0 : Nat), ((((queueS).endPkt 0).backIn) : State), (((((queueS).endPkt 0).backIn).pump 0 false) : State), ((((((queueS).endPkt 0).backIn).pump 0 false).fqHeads 0 (((((queueS).endPkt 0).backIn).pump 0 false).linkCredit 0)) : State), (((7, ⟨0, 0, none⟩, queueE) : Nat × FqTag × QEnt) : Nat × FqTag × QEnt), ⟨rfl, by decide +kernel, by decide +kernel, by decide +kernel, rfl, by decide +kernel, rfl, by decide +kernel, by decide +kernel⟩⟩,
   ⟨(queueP), (0 : Nat), ((((queueP).endPkt 0).backIn) : State), (((((queueP).endPkt 0).backIn).fqHeads 0 ((((queueP).endPkt 0).backIn).pcCredit 0)) : State), (((7, ⟨0, 0, none⟩, queueE) : Nat × FqTag × QEnt) : Nat × FqTag × QEnt), ⟨rfl, by decide +kernel, by decide +kernel, by decide +kernel, by decide +kernel, rfl, by decide +kernel, by decide +kernel⟩⟩,
   ⟨(gclS), (0 : Nat), (((100, 1) : Nat × Nat) : Nat × Nat), by decide +kernel⟩,
   ⟨({ gclS with tm := { gclS.tm with e := 200 } }), (0 : Nat), by decide +kernel⟩,
   ⟨({ State.reset with sch := { refAt := [(1023, 5)] } }), (127 : Nat), (7 : Nat), (5 : Nat), by decide +kernel⟩,
   ⟨({ State.reset with sch := { shold := [⟨strBase (ptTile 0) 0, ptTile 0, pktOf kWRITE_P 1, none⟩] } }), (0 : Nat), (0 : Nat), by decide +kernel⟩,
   ⟨(State.reset.put (TEL_CFG_EN 0 0) 1), (0 : Nat), (((State.reset.put (TEL_CFG_EN 0 0) 1).telNext 0).getD 0 : Nat), (((State.reset.put (TEL_CFG_EN 0 0) 1).pass (((State.reset.put (TEL_CFG_EN 0 0) 1).telNext 0).getD 0 : Nat)) : State), ⟨by decide +kernel, by decide +kernel, by decide +kernel, by decide +kernel, rfl, by decide +kernel⟩⟩,
   ⟨(arrS tlTile { pktOf kMSG 0 with addr := telCode }), ({ pktOf kMSG 0 with addr := telCode } : Pkt), (((State.takeArrived (arrS tlTile { pktOf kMSG 0 with addr := telCode }) (tlTile) (fun p => p.kind == kMSG && p.addr % 65536 == telCode)).2) : State), by decide +kernel⟩,
   ⟨(fullS), (0 : Nat), ((((fullS).endPkt 0).backIn) : State), (((((fullS).endPkt 0).backIn).pump 0 false) : State), ⟨rfl, by decide +kernel, by decide +kernel, by decide +kernel, rfl, by decide +kernel, by decide +kernel⟩⟩,
   ⟨(upS), (0 : Nat), ((((upS).endPkt 0).backIn) : State), (((((upS).endPkt 0).backIn).pump 0 false) : State), ((((((upS).endPkt 0).backIn).pump 0 false).fqHeads 0 (((((upS).endPkt 0).backIn).pump 0 false).linkCredit 0)) : State), ⟨rfl, by decide +kernel, by decide +kernel, by decide +kernel, rfl, by decide +kernel, rfl, by decide +kernel, by decide +kernel⟩⟩⟩

theorem witness_StreamCommandsAct :
    (∃ (s : State) (mb : Nat) (c : OpenCmd) (r : StreamRec) (b : Nat) (u : State) (v : State), s.runs mb 0x0401 c ∧ r = s.cmdRecord mb ∧ recArg r = true ∧ s.admFail r = 0 ∧ s.recBlk r = some b ∧ u = s.recProgram r b ∧ v = { u with sch := { u.sch with adm := u.sch.adm ++ [{ s.cand r with blk := b, dom := recDom r }] } } ∧ s.stopped = false) ∧
    (∃ (s : State) (mb : Nat) (c : OpenCmd) (stream : Nat) (role : Nat) (path : Nat) (a : Adm) (u : State), s.runs mb 0x0402 c ∧ s.admFind stream role path = some a ∧ a.r.role = 2 ∧ u = { s with sch := { s.sch with adm := dropFirst (fun x => x == a) s.sch.adm } } ∧ s.stopped = false) ∧
    (∃ (s : State) (mb : Nat) (c : OpenCmd) (stream : Nat) (role : Nat) (path : Nat) (a : Adm) (u : State), s.runs mb 0x0402 c ∧ s.admFind stream role path = some a ∧ a.r.role < 2 ∧ u = ({ s with sch := { s.sch with adm := dropFirst (fun x => x == a) s.sch.adm } }).put (STR_CTL_EN a.blk) 0 ∧ s.stopped = false) ∧
    (∃ (s : State) (mb : Nat) (c : OpenCmd) (stream : Nat) (role : Nat) (path : Nat) (a : Adm) (v : State) (u : State), s.runs mb 0x0402 c ∧ s.admFind stream role path = some a ∧ a.r.role = 3 ∧ (dropFirst (fun x => x == a) s.sch.adm).any (fun x => x.blk == a.blk) = false ∧ v = { s with sch := { s.sch with adm := dropFirst (fun x => x == a) s.sch.adm } } ∧ u = (v.wr a.blk (v.rd a.blk - v.rd a.blk / 2 ^ 15 % 2 * 2 ^ 15)).wr (a.blk + 4) 1 ∧ s.stopped = false) ∧
    (∃ (s : State) (mb : Nat) (c : OpenCmd) (stream : Nat) (role : Nat) (path : Nat) (ov : Nat) (a : Adm), s.runs mb 0x0403 c ∧ s.admFind stream role path = some a ∧ ov = (if a.r.role < 2 then s.cnt (C_STR_OVER a.blk) else 0) ∧ s.stopped = false) ∧
    (∃ (s : State) (mb : Nat) (c : OpenCmd) (p : Nat) (ents : List (Nat × Nat × Bool)) (u : State), s.runs mb 0x0404 c ∧ p < 128 ∧ s.portKind p ≠ 0 ∧ s.nonFlit p = false ∧ 1 ≤ ents.length ∧ ents.length ≤ 64 ∧ s.on (GCL_STAT_PENDING (portC p) (portK p)) = false ∧ u = s.writeList p (1 - s.gclActive p) ents ∧ s.listFail p s.framePer (u.gcl p (1 - s.gclActive p)) = 0 ∧ s.stopped = false) ∧
    (∃ (s : State) (mb : Nat) (c : OpenCmd) (ports : List Nat) (frame : Nat), s.runs mb 0x0405 c ∧ ports.findIdx? (fun p => decide (128 ≤ p) || s.portKind p == 0 || s.nonFlit p) = none ∧ ports.find? (fun p => s.fired frame || s.on (GCL_STAT_PENDING (portC p) (portK p))) = none ∧ (ports.map (fun p => (p, s.listFail p s.framePer (s.gcl p (1 - s.gclActive p))))).find? (fun x => x.2 ≠ 0) = none ∧ s.stopped = false) ∧
    (∃ (s : State) (mb : Nat) (c : OpenCmd) (p : Nat) (q : Nat) (cfg : Nat) (quant : Nat) (burst : Nat), s.runs mb 0x0406 c ∧ p < 128 ∧ q < 8 ∧ quant < 2 ^ 20 ∧ burst < 2 ^ 24 ∧ (¬ (q = 7 ∧ bit cfg 0 = true ∧ s.carries p = true)) ∧ s.stopped = false) ∧
    (∃ (s : State) (mb : Nat) (c : OpenCmd) (p : Nat) (_ : Nat) (_ : Nat), s.runs mb 0x0407 c ∧ p < 128 ∧ s.stopped = false) ∧
    (∃ (s : State) (mb : Nat) (c : OpenCmd) (p : Nat) (cfg : Nat) (_ : Nat) (rings : List (Nat × Nat × Nat)), s.runs mb 0x0408 c ∧ p < 128 ∧ 8 ≤ bits cfg 2 5 ∧ bits cfg 2 5 ≤ 20 ∧ (rings.findIdx? (fun r => decide (16 ≤ r.1 ∨ bits r.2.2 2 5 < 12 ∨ 24 < bits r.2.2 2 5)) = none) ∧ s.stopped = false) ∧
    (∃ (s : State) (mb : Nat) (c : OpenCmd) (r : StreamRec), s.runs mb 0x0401 c ∧ r = s.cmdRecord mb ∧ recArg r = true ∧ s.admFail r ≠ 0 ∧ s.stopped = false) :=
  ⟨⟨(streamS), (0 : Nat), ((cmd0 0x0401) : OpenCmd), (streamR : StreamRec), ((streamS.recBlk streamR).getD 0 : Nat), (((streamS).recProgram streamR ((streamS.recBlk streamR).getD 0 : Nat)) : State), (({ ((streamS).recProgram streamR ((streamS.recBlk streamR).getD 0 : Nat)) with sch := { ((streamS).recProgram streamR ((streamS.recBlk streamR).getD 0 : Nat)).sch with adm := ((streamS).recProgram streamR ((streamS.recBlk streamR).getD 0 : Nat)).sch.adm ++ [{ (streamS).cand streamR with blk := ((streamS.recBlk streamR).getD 0 : Nat), dom := recDom streamR }] } }) : State), ⟨by decide +kernel, by decide +kernel, by decide +kernel, by decide +kernel, by decide +kernel, rfl, by decide +kernel, by decide +kernel⟩⟩,
   ⟨({ cmdS 0 0x0402 with sch := { adm := [⟨{ streamR with role := 2 }, 0, 99, 0, 0, 0, 0⟩] } }), (0 : Nat), ((cmd0 0x0402) : OpenCmd), (streamR.stream : Nat), (2 : Nat), (streamR.path : Nat), (⟨{ streamR with role := 2 }, 0, 99, 0, 0, 0, 0⟩ : Adm), (({ ({ cmdS 0 0x0402 with sch := { adm := [⟨{ streamR with role := 2 }, 0, 99, 0, 0, 0, 0⟩] } }) with sch := { ({ cmdS 0 0x0402 with sch := { adm := [⟨{ streamR with role := 2 }, 0, 99, 0, 0, 0, 0⟩] } }).sch with adm := dropFirst (fun x => x == (⟨{ streamR with role := 2 }, 0, 99, 0, 0, 0, 0⟩ : Adm)) ({ cmdS 0 0x0402 with sch := { adm := [⟨{ streamR with role := 2 }, 0, 99, 0, 0, 0, 0⟩] } }).sch.adm } }) : State), by decide +kernel⟩,
   ⟨({ cmdS 0 0x0402 with sch := { adm := [⟨streamR, strBase (ptTile 0) 0, 99, 0, 0, 0, 0⟩] } }), (0 : Nat), ((cmd0 0x0402) : OpenCmd), (streamR.stream : Nat), (0 : Nat), (streamR.path : Nat), (⟨streamR, strBase (ptTile 0) 0, 99, 0, 0, 0, 0⟩ : Adm), ((({ ({ cmdS 0 0x0402 with sch := { adm := [⟨streamR, strBase (ptTile 0) 0, 99, 0, 0, 0, 0⟩] } }) with sch := { ({ cmdS 0 0x0402 with sch := { adm := [⟨streamR, strBase (ptTile 0) 0, 99, 0, 0, 0, 0⟩] } }).sch with adm := dropFirst (fun x => x == (⟨streamR, strBase (ptTile 0) 0, 99, 0, 0, 0, 0⟩ : Adm)) ({ cmdS 0 0x0402 with sch := { adm := [⟨streamR, strBase (ptTile 0) 0, 99, 0, 0, 0, 0⟩] } }).sch.adm } }).put (STR_CTL_EN (⟨streamR, strBase (ptTile 0) 0, 99, 0, 0, 0, 0⟩ : Adm).blk) 0) : State), by decide +kernel⟩,
   ⟨({ cmdS 0 0x0402 with sch := { adm := [⟨{ streamR with role := 3 }, R_NI_ELIM_CFG (elimBase (ptTile 0)) 0, 99, 0, 0, 0, 0⟩] } }), (0 : Nat), ((cmd0 0x0402) : OpenCmd), (streamR.stream : Nat), (3 : Nat), (streamR.path : Nat), (⟨{ streamR with role := 3 }, R_NI_ELIM_CFG (elimBase (ptTile 0)) 0, 99, 0, 0, 0, 0⟩ : Adm), (({ ({ cmdS 0 0x0402 with sch := { adm := [⟨{ streamR with role := 3 }, R_NI_ELIM_CFG (elimBase (ptTile 0)) 0, 99, 0, 0, 0, 0⟩] } }) with sch := { ({ cmdS 0 0x0402 with sch := { adm := [⟨{ streamR with role := 3 }, R_NI_ELIM_CFG (elimBase (ptTile 0)) 0, 99, 0, 0, 0, 0⟩] } }).sch with adm := dropFirst (fun x => x == (⟨{ streamR with role := 3 }, R_NI_ELIM_CFG (elimBase (ptTile 0)) 0, 99, 0, 0, 0, 0⟩ : Adm)) ({ cmdS 0 0x0402 with sch := { adm := [⟨{ streamR with role := 3 }, R_NI_ELIM_CFG (elimBase (ptTile 0)) 0, 99, 0, 0, 0, 0⟩] } }).sch.adm } }) : State), (((({ ({ cmdS 0 0x0402 with sch := { adm := [⟨{ streamR with role := 3 }, R_NI_ELIM_CFG (elimBase (ptTile 0)) 0, 99, 0, 0, 0, 0⟩] } }) with sch := { ({ cmdS 0 0x0402 with sch := { adm := [⟨{ streamR with role := 3 }, R_NI_ELIM_CFG (elimBase (ptTile 0)) 0, 99, 0, 0, 0, 0⟩] } }).sch with adm := dropFirst (fun x => x == (⟨{ streamR with role := 3 }, R_NI_ELIM_CFG (elimBase (ptTile 0)) 0, 99, 0, 0, 0, 0⟩ : Adm)) ({ cmdS 0 0x0402 with sch := { adm := [⟨{ streamR with role := 3 }, R_NI_ELIM_CFG (elimBase (ptTile 0)) 0, 99, 0, 0, 0, 0⟩] } }).sch.adm } }).wr (⟨{ streamR with role := 3 }, R_NI_ELIM_CFG (elimBase (ptTile 0)) 0, 99, 0, 0, 0, 0⟩ : Adm).blk (({ ({ cmdS 0 0x0402 with sch := { adm := [⟨{ streamR with role := 3 }, R_NI_ELIM_CFG (elimBase (ptTile 0)) 0, 99, 0, 0, 0, 0⟩] } }) with sch := { ({ cmdS 0 0x0402 with sch := { adm := [⟨{ streamR with role := 3 }, R_NI_ELIM_CFG (elimBase (ptTile 0)) 0, 99, 0, 0, 0, 0⟩] } }).sch with adm := dropFirst (fun x => x == (⟨{ streamR with role := 3 }, R_NI_ELIM_CFG (elimBase (ptTile 0)) 0, 99, 0, 0, 0, 0⟩ : Adm)) ({ cmdS 0 0x0402 with sch := { adm := [⟨{ streamR with role := 3 }, R_NI_ELIM_CFG (elimBase (ptTile 0)) 0, 99, 0, 0, 0, 0⟩] } }).sch.adm } }).rd (⟨{ streamR with role := 3 }, R_NI_ELIM_CFG (elimBase (ptTile 0)) 0, 99, 0, 0, 0, 0⟩ : Adm).blk - ({ ({ cmdS 0 0x0402 with sch := { adm := [⟨{ streamR with role := 3 }, R_NI_ELIM_CFG (elimBase (ptTile 0)) 0, 99, 0, 0, 0, 0⟩] } }) with sch := { ({ cmdS 0 0x0402 with sch := { adm := [⟨{ streamR with role := 3 }, R_NI_ELIM_CFG (elimBase (ptTile 0)) 0, 99, 0, 0, 0, 0⟩] } }).sch with adm := dropFirst (fun x => x == (⟨{ streamR with role := 3 }, R_NI_ELIM_CFG (elimBase (ptTile 0)) 0, 99, 0, 0, 0, 0⟩ : Adm)) ({ cmdS 0 0x0402 with sch := { adm := [⟨{ streamR with role := 3 }, R_NI_ELIM_CFG (elimBase (ptTile 0)) 0, 99, 0, 0, 0, 0⟩] } }).sch.adm } }).rd (⟨{ streamR with role := 3 }, R_NI_ELIM_CFG (elimBase (ptTile 0)) 0, 99, 0, 0, 0, 0⟩ : Adm).blk / 2 ^ 15 % 2 * 2 ^ 15)).wr ((⟨{ streamR with role := 3 }, R_NI_ELIM_CFG (elimBase (ptTile 0)) 0, 99, 0, 0, 0, 0⟩ : Adm).blk + 4) 1) : State), ⟨by decide +kernel, by decide +kernel, by decide +kernel, by decide +kernel, by decide +kernel, rfl, by decide +kernel⟩⟩,
   ⟨({ cmdS 0 0x0403 with sch := { adm := [⟨streamR, strBase (ptTile 0) 0, 99, 0, 0, 0, 0⟩] } }), (0 : Nat), ((cmd0 0x0403) : OpenCmd), (streamR.stream : Nat), (0 : Nat), (streamR.path : Nat), (0 : Nat), (⟨streamR, strBase (ptTile 0) 0, 99, 0, 0, 0, 0⟩ : Adm), by decide +kernel⟩,
   ⟨(portCmd 0x0404), (0 : Nat), ((cmd0 0x0404) : OpenCmd), (0 : Nat), (([(0, 255, true)] : List (Nat × Nat × Bool)) : List (Nat × Nat × Bool)), (((portCmd 0x0404).writeList 0 (1 - (portCmd 0x0404).gclActive 0) ([(0, 255, true)] : List (Nat × Nat × Bool))) : State), ⟨by decide +kernel, by decide +kernel, by decide +kernel, by decide +kernel, by decide +kernel, by decide +kernel, by decide +kernel, rfl, by decide +kernel, by decide +kernel⟩⟩,
   ⟨((portCmd 0x0405).writeList 0 1 [(0, 255, true)]), (0 : Nat), ((cmd0 0x0405) : OpenCmd), ([0] : List Nat), (5 : Nat), by decide +kernel⟩,
   ⟨(cmdS 0 0x0406), (0 : Nat), ((cmd0 0x0406) : OpenCmd), (127 : Nat), (7 : Nat), (1 : Nat), (5 : Nat), (9 : Nat), by decide +kernel⟩,
   ⟨(cmdS 0 0x0407), (0 : Nat), ((cmd0 0x0407) : OpenCmd), (127 : Nat), (1 : Nat), (2 : Nat), by decide +kernel⟩,
   ⟨(cmdS 0 0x0408), (0 : Nat), ((cmd0 0x0408) : OpenCmd), (0 : Nat), (32 : Nat), (5 : Nat), (([(15, 4096, 49)] : List (Nat × Nat × Nat)) : List (Nat × Nat × Nat)), by decide +kernel⟩,
   ⟨(withRec streamS { streamR with open_ := 3000 }), (0 : Nat), ((cmd0 0x0401) : OpenCmd), ({ streamR with open_ := 3000 } : StreamRec), by decide +kernel⟩⟩

theorem witness_CisternAndCascadeRowsAct :
    (∃ (s : State) (b : Nat) (row : Nat) (u : State) (v : State), b < 24 ∧ s.on (CT_SCRUB_EN b) = true ∧ s.bankRetired b = false ∧ row = tgetD s.cis.scrub b 0 ∧ u = { s with cis := { s.cis with scrub := tset s.cis.scrub b ((row + 1) % 32768) } } ∧ v = u.forEach (wordsOf (bankBase b + row * 128) 128) (fun w u => u.meetWord w) ∧ s.stopped = false) ∧
    (∃ (s : State) (b : Nat), b < 24 ∧ s.stopped = false) ∧
    (∃ (s : State) (n : Nat) (x : Commit), s.cis.commits.find? (fun x => x.obj == n) = some x ∧ x.pend.any (fun i => s.mesh.kept.any (fun k => k.id == i) || s.mesh.held.any (fun h => h.id == i)) = false ∧ s.stopped = false) ∧
    (∃ (s : State) (n : Nat) (u : State), n < 64 ∧ s.ticking = true ∧ s.snapOn n = true ∧ s.on (SNAP_CTL_MODE n) = false ∧ u = s.reachNs (s.nextTickNs - max 1 (s.objWeir n)).toNat ∧ s.stopped = false) ∧
    (∃ (s : State) (e : Nat) (p : Pkt) (u : State), e < 12 ∧ s.gives (ktTile e) (fun p => p.kind == kJOB) p u ∧ u.ktState e ≠ ktFAULTED ∧ u.on (KT_Q_CFG_EN e (p.addr % 64)) = true ∧ 2 ≤ p.addr % 64 ∧ p.basin = u.get (KT_Q_BASIN_BASIN e (p.addr % 64)) ∧ p.gen = u.get (KT_Q_BASIN_GEN e (p.addr % 64)) ∧ u.slotsFree e (p.addr % 64) ≠ 0 ∧ s.stopped = false) ∧
    (∃ (s : State) (e : Nat) (p : Pkt) (u : State), e < 12 ∧ s.gives (ktTile e) (fun p => p.kind == kJOB) p u ∧ u.ktState e ≠ ktFAULTED ∧ p.addr % 64 = 1 ∧ u.on (KT_Q_CFG_EN e 1) = true ∧ p.src = tileEid u.node whTile ∧ u.slotsFree e 1 ≠ 0 ∧ s.stopped = false) ∧
    (∃ (s : State) (e : Nat) (j : QJob) (u : State) (v : State), e < 12 ∧ s.on (KT_CTL_EN e) = true ∧ s.ktState e ≠ ktFAULTED ∧ s.kt.stopped = false ∧ s.runOf e = none ∧ s.kt.due.find? (fun k => k / 8 == e) = none ∧ s.pickDrr e = (some j, u) ∧ (¬ ((readDesc j.desc).order = true ∧ s.engQuiet e = false)) ∧ v = { u with kt := { u.kt with queue := dropFirst (fun x => x == j) u.kt.queue } } ∧ s.stopped = false) ∧
    (∃ (s : State) (e : Nat) (k : Nat), e < 12 ∧ s.on (KT_CTL_EN e) = true ∧ s.ktState e ≠ ktFAULTED ∧ s.kt.stopped = false ∧ s.runOf e = none ∧ s.kt.due.find? (fun k => k / 8 == e) = some k ∧ s.engQuiet e = true ∧ s.stopped = false) ∧
    (∃ (s : State) (e : Nat) (k : Nat) (r : RunJob), e < 12 ∧ s.on (KT_CTL_EN e) = true ∧ s.ktState e ≠ ktFAULTED ∧ s.kt.stopped = false ∧ s.runOf e = some r ∧ r.q ≠ 0 ∧ r.gives = true ∧ s.kt.due.find? (fun k => k / 8 == e) = some k ∧ s.engQuiet e = true ∧ s.stopped = false) ∧
    (∃ (s : State) (e : Nat) (r : RunJob), e < 12 ∧ s.on (KT_CTL_EN e) = true ∧ s.ktState e ≠ ktFAULTED ∧ s.kt.stopped = false ∧ s.runOf e = some r ∧ r.q = 0 ∧ r.waits = true ∧ r.idx < s.fpCount e r.fp ∧ s.engQuiet e = true ∧ s.stopped = false) ∧
    (∃ (s : State) (e : Nat) (j : Nat) (r : RunJob), e < 12 ∧ s.runOf e = some r ∧ r.waits = false ∧ s.kt.scat.any (fun x => x.job.e == e && x.job.id == r.id) = false ∧ s.ktState e = ktRUNNING ∧ s.postedRoom e 16 = true ∧ r.jst = some j ∧ r.q ≠ 0 ∧ s.stopped = false) ∧
    (∃ (s : State) (e : Nat) (j : Nat) (r : RunJob), e < 12 ∧ s.runOf e = some r ∧ r.waits = false ∧ s.kt.scat.any (fun x => x.job.e == e && x.job.id == r.id) = false ∧ s.ktState e = ktRUNNING ∧ s.postedRoom e 16 = true ∧ r.jst = some j ∧ r.q = 0 ∧ s.stopped = false) ∧
    (∃ (s : State) (e : Nat) (code : Nat), e < 12 ∧ 1 ≤ code ∧ code ≤ 3 ∧ s.ktState e ≠ ktFAULTED ∧ s.stopped = false) ∧
    (∃ (s : State) (e : Nat) (p : Nat) (u : State), e < 12 ∧ p < 8 ∧ s.ticking = true ∧ s.on (FP_CTL_EN e p) = true ∧ s.tm.last.isSome = true ∧ s.tm.e ≤ s.get (FP_START_NS e p) ∧ s.reaches (s.get (FP_START_NS e p)) = true ∧ s.kt.due.contains (e * 8 + p) = false ∧ tget s.kt.outcome (e * 8 + p) = none ∧ u = s.reachE (s.get (FP_START_NS e p)) ∧ u.on (KT_CTL_EN e) = true ∧ u.ktState e ≠ ktFAULTED ∧ u.kt.stopped = false ∧ s.stopped = false) ∧
    (∃ (s : State) (e : Nat) (r : RunJob), e < 12 ∧ s.runOf e = some r ∧ r.waits = true ∧ s.fpCount e r.fp ≤ r.idx ∧ s.engQuiet e = true ∧ s.stopped = false) ∧
    (∃ (s : State) (e : Nat) (p : Nat), e < 12 ∧ p < 8 ∧ s.ticking = true ∧ s.fpLive e p = true ∧ s.stopped = false) ∧
    (∃ (s : State) (ti : Nat) (x : Nat × Pkt), s.kt.plume.find? (fun x => x.1 == ti) = some x ∧ s.stopped = false) ∧
    (∃ (s : State) (e : Nat) (x : ScatRec), s.scatNext e = some x ∧ x.at_ ≤ s.tm.e ∧ s.scatRoom x = true ∧ s.stopped = false) ∧
    (∃ (s : State) (e : Nat) (x : ScatRec) (u : State), s.scatNext e = some x ∧ s.tm.e < x.at_ ∧ s.reaches x.at_ = true ∧ u = s.reachE x.at_ ∧ u.scatRoom x = true ∧ s.stopped = false) ∧
    (∃ (s : State) (e : Nat) (r : RunJob), e < 12 ∧ s.runOf e = some r ∧ r.jst = none ∧ s.stopped = false) :=
  ⟨⟨(State.reset.put (CT_SCRUB_EN 0) 1), (0 : Nat), (0 : Nat), (({ (State.reset.put (CT_SCRUB_EN 0) 1) with cis := { (State.reset.put (CT_SCRUB_EN 0) 1).cis with scrub := tset (State.reset.put (CT_SCRUB_EN 0) 1).cis.scrub 0 ((0 + 1) % 32768) } }) : State), ((({ (State.reset.put (CT_SCRUB_EN 0) 1) with cis := { (State.reset.put (CT_SCRUB_EN 0) 1).cis with scrub := tset (State.reset.put (CT_SCRUB_EN 0) 1).cis.scrub 0 ((0 + 1) % 32768) } }).forEach (wordsOf (bankBase 0 + 0 * 128) 128) (fun w u => u.meetWord w)) : State), by decide +kernel⟩,
   ⟨(State.reset), (23 : Nat), by decide +kernel⟩,
   ⟨({ State.reset with cis := { commits := [⟨3, 5, [7]⟩] } }), (5 : Nat), (⟨3, 5, [7]⟩ : Commit), by decide +kernel⟩,
   ⟨((((tickS.put (SNAP_CTL_EN 0) 1).put (PART_CTL_EN 0) 1).put (PART_CTL_USE 0) 2).put (PART_SIZE_UNITS 0) 64), (0 : Nat), ((((((tickS.put (SNAP_CTL_EN 0) 1).put (PART_CTL_EN 0) 1).put (PART_CTL_USE 0) 2).put (PART_SIZE_UNITS 0) 64).reachNs (((((tickS.put (SNAP_CTL_EN 0) 1).put (PART_CTL_EN 0) 1).put (PART_CTL_USE 0) 2).put (PART_SIZE_UNITS 0) 64).nextTickNs - max 1 (((((tickS.put (SNAP_CTL_EN 0) 1).put (PART_CTL_EN 0) 1).put (PART_CTL_USE 0) 2).put (PART_SIZE_UNITS 0) 64).objWeir 0)).toNat) : State), ⟨by decide +kernel, by decide +kernel, by decide +kernel, by decide +kernel, rfl, by decide +kernel⟩⟩,
   ⟨(jobS), (0 : Nat), (jobP : Pkt), (((State.takeArrived (jobS) ((ktTile 0)) (fun p => p.kind == kJOB)).2) : State), by decide +kernel⟩,
   ⟨((arrS (ktTile 0) { pktOf kJOB 16 with addr := 1, src := tileEid 0 whTile }).put (KT_Q_CFG_EN 0 1) 1), (0 : Nat), ({ pktOf kJOB 16 with addr := 1, src := tileEid 0 whTile } : Pkt), (((State.takeArrived ((arrS (ktTile 0) { pktOf kJOB 16 with addr := 1, src := tileEid 0 whTile }).put (KT_Q_CFG_EN 0 1) 1) ((ktTile 0)) (fun p => p.kind == kJOB)).2) : State), by decide +kernel⟩,
   ⟨(queuedS), (0 : Nat), (queuedJ : QJob), ((((queuedS).pickDrr 0).2) : State), (({ (((queuedS).pickDrr 0).2) with kt := { (((queuedS).pickDrr 0).2).kt with queue := dropFirst (fun x => x == queuedJ) (((queuedS).pickDrr 0).2).kt.queue } }) : State), by decide +kernel⟩,
   ⟨({ State.reset.put (KT_CTL_EN 0) 1 with kt := { due := [3] } }), (0 : Nat), (3 : Nat), by decide +kernel⟩,
   ⟨({ State.reset.put (KT_CTL_EN 0) 1 with kt := { due := [3], run := [runningJ 2] } }), (0 : Nat), (3 : Nat), (runningJ 2 : RunJob), by decide +kernel⟩,
   ⟨({ State.reset.put (KT_CTL_EN 0) 1 with kt := { run := [{ waitingJ with idx := 0 }] } }), (0 : Nat), ({ waitingJ with idx := 0 } : RunJob), by decide +kernel⟩,
   ⟨(runningS 2), (0 : Nat), (0 : Nat), (runningJ 2 : RunJob), by decide +kernel⟩,
   ⟨(runningS 0), (0 : Nat), (0 : Nat), (runningJ 0 : RunJob), by decide +kernel⟩,
   ⟨(State.reset), (11 : Nat), (3 : Nat), by decide +kernel⟩,
   ⟨(fpS), (0 : Nat), (0 : Nat), (((fpS).reachE ((fpS).get (FP_START_NS 0 0))) : State), ⟨by decide +kernel, by decide +kernel, by decide +kernel, by decide +kernel, by decide +kernel, by decide +kernel, by decide +kernel, by decide +kernel, by decide +kernel, rfl, by decide +kernel, by decide +kernel, by decide +kernel, by decide +kernel⟩⟩,
   ⟨(waitingS), (0 : Nat), (waitingJ : RunJob), by decide +kernel⟩,
   ⟨({ fpS with kt := { fpS.kt with due := [0] } }), (0 : Nat), (0 : Nat), by decide +kernel⟩,
   ⟨({ State.reset with kt := { plume := [(3, pktOf kWRITE_P 1)] } }), (3 : Nat), (((3, pktOf kWRITE_P 1) : Nat × Pkt) : Nat × Pkt), by decide +kernel⟩,
   ⟨({ State.reset with kt := { scat := [scatX] } }), (0 : Nat), (scatX : ScatRec), by decide +kernel⟩,
   ⟨({ State.reset with kt := { scat := [{ scatX with at_ := 9 }] } }), (0 : Nat), ({ scatX with at_ := 9 } : ScatRec), ((({ State.reset with kt := { scat := [{ scatX with at_ := 9 }] } }).reachE ({ scatX with at_ := 9 } : ScatRec).at_) : State), ⟨by decide +kernel, by decide +kernel, by decide +kernel, rfl, by decide +kernel, by decide +kernel⟩⟩,
   ⟨({ runningS 2 with kt := { run := [{ runningJ 2 with jst := none }] } }), (0 : Nat), ({ runningJ 2 with jst := none } : RunJob), by decide +kernel⟩⟩

theorem witness_CascadeCommandsAct :
    (∃ (s : State) (mb : Nat) (c : OpenCmd) (e : Nat) (q : Nat) (cfg : Nat) (basin : Nat), s.runs mb 0x0501 c ∧ e < 12 ∧ q < 64 ∧ cfg < 2 ^ 29 ∧ basin < 2 ^ 18 ∧ bits cfg 1 10 + bits cfg 11 10 + 1 ≤ 1024 ∧ s.stopped = false) ∧
    (∃ (s : State) (mb : Nat) (c : OpenCmd) (e : Nat) (p : Nat) (pl : Nat) (ctl : Nat) (start : Nat) (weir : Nat) (est : Nat) (n : Nat) (descs : List (List Word)) (u : State), s.runs mb 0x0502 c ∧ n = (if bits ctl 22 5 = 0 then 32 else bits ctl 22 5) ∧ e < 12 ∧ p < 8 ∧ pl < 4 ∧ ctl < 2 ^ 27 ∧ start < 2 ^ 22 ∧ weir < 2 ^ 22 ∧ est < 2 ^ 22 ∧ descs.length = n ∧ bits ctl 14 8 + n ≤ 256 ∧ (¬ (bit ctl 1 = true ∧ 12 ≤ bits ctl 4 4)) ∧ s.on (FP_CTL_EN e p) = false ∧ s.fpFail e p pl ctl start weir est descs = 0 ∧ u = s.forEach descs.zipIdx (fun d u => { u with kt := { u.kt with prog := tset u.kt.prog (e * 256 + bits ctl 14 8 + d.2) d.1 } }) ∧ s.stopped = false) ∧
    (∃ (s : State) (mb : Nat) (c : OpenCmd) (ons : List Nat) (offs : List Nat) (frame : Nat), s.runs mb 0x0503 c ∧ (ons ++ offs).findIdx? (fun k => decide (96 ≤ k)) = none ∧ s.fired frame = false ∧ s.kt.swap = none ∧ s.stopped = false) ∧
    (∃ (s : State) (mb : Nat) (c : OpenCmd) (n : Nat) (base : Nat) (ctl : Nat), s.runs mb 0x0504 c ∧ n < 64 ∧ base < 0x6000000 ∧ ctl < 256 ∧ 12 ≤ bits ctl 3 5 ∧ bits ctl 3 5 ≤ 20 ∧ base % 2 ^ bits ctl 3 5 = 0 ∧ (¬ (bit (s.get SC_LOCK_GROUPS) 5 = true ∧ s.rd (R_SNAP_BASE n) ≠ base)) ∧ s.named n = false ∧ s.stopped = false) ∧
    (∃ (s : State) (mb : Nat) (c : OpenCmd) (e : Nat), s.runs mb 0x0505 c ∧ e < 12 ∧ s.stopped = false) ∧
    (∃ (s : State) (mb : Nat) (c : OpenCmd) (g : Nat) (nodes : List PlumeNode), s.runs mb 0x0506 c ∧ g < 8 ∧ s.plumeOk g nodes = true ∧ s.stopped = false) ∧
    (∃ (s : State) (mb : Nat) (c : OpenCmd) (n : Nat) (base : Nat) (units : Nat) (ctl : Nat), s.runs mb 0x0507 c ∧ n < 32 ∧ base % 65536 = 0 ∧ base + units * 65536 ≤ cisEnd ∧ 1 ≤ units ∧ ctl < 512 ∧ bits ctl 1 3 ≤ 6 ∧ bits ctl 4 5 = 0 ∧ s.on (PART_CTL_SEAL n) = false ∧ bit (s.get SC_LOCK_GROUPS) 4 = false ∧ s.partMeets n base units = none ∧ s.stopped = false) ∧
    (∃ (s : State) (mb : Nat) (c : OpenCmd) (n : Nat) (base : Nat) (units : Nat) (ctl : Nat), s.runs mb 0x0507 c ∧ n < 32 ∧ base % 65536 = 0 ∧ 1 ≤ units ∧ ctl < 512 ∧ bits ctl 1 3 ≤ 6 ∧ 1 ≤ bits ctl 4 5 ∧ bits ctl 4 5 < 24 ∧ base + bits ctl 4 5 * 0x400000 + units * 65536 ≤ cisEnd ∧ s.on (PART_CTL_SEAL n) = false ∧ bit (s.get SC_LOCK_GROUPS) 4 = false ∧ s.partMeets n base units = none ∧ s.partMeets n (base + bits ctl 4 5 * 0x400000) units = none ∧ rangesMeet base (units * 65536) (base + bits ctl 4 5 * 0x400000) (units * 65536) = false ∧ s.stopped = false) ∧
    (∃ (s : State) (mb : Nat) (c : OpenCmd) (n : Nat), s.runs mb 0x0508 c ∧ n < 32 ∧ s.stopped = false) ∧
    (∃ (s : State) (mb : Nat) (c : OpenCmd) (n : Nat), s.runs mb 0x0509 c ∧ n < 32 ∧ s.on (PART_STAT_DEGRADED n) = true ∧ s.mirrorOf n ≠ 0 ∧ s.on (PART_STAT_LOST n) = true ∧ ((List.range 24).filter (fun b => rangesMeet (s.partBase n + s.mirrorOf n) (s.partEnd n - s.partBase n) (bankBase b) 0x400000)).any (fun b => s.bankRetired b) = false ∧ s.stopped = false) ∧
    (∃ (s : State) (mb : Nat) (c : OpenCmd) (n : Nat), s.runs mb 0x0509 c ∧ n < 32 ∧ s.on (PART_STAT_DEGRADED n) = true ∧ s.mirrorOf n ≠ 0 ∧ s.on (PART_STAT_LOST n) = false ∧ ((List.range 24).filter (fun b => rangesMeet (s.partBase n) (s.partEnd n - s.partBase n) (bankBase b) 0x400000)).any (fun b => s.bankRetired b) = false ∧ s.stopped = false) ∧
    (∃ (s : State) (mb : Nat) (c : OpenCmd) (e : Nat), s.runs mb 0x050A c ∧ e < 12 ∧ s.stopped = false) :=
  ⟨⟨(cmdS 0 0x0501), (0 : Nat), ((cmd0 0x0501) : OpenCmd), (11 : Nat), (63 : Nat), (1 : Nat), (5 : Nat), by decide +kernel⟩,
   ⟨(cmdS 0 0x0502), (0 : Nat), ((cmd0 0x0502) : OpenCmd), (0 : Nat), (0 : Nat), (0 : Nat), (2 ^ 22 : Nat), (0 : Nat), (2000 : Nat), (100 : Nat), (1 : Nat), (([nopDesc] : List (List Word)) : List (List Word)), (((cmdS 0 0x0502).forEach ([nopDesc] : List (List Word)).zipIdx (fun d u => { u with kt := { u.kt with prog := tset u.kt.prog (0 * 256 + bits (2 ^ 22 : Nat) 14 8 + d.2) d.1 } })) : State), by decide +kernel⟩,
   ⟨(cmdS 0 0x0503), (0 : Nat), ((cmd0 0x0503) : OpenCmd), ([95] : List Nat), ([0] : List Nat), (7 : Nat), by decide +kernel⟩,
   ⟨(cmdS 0 0x0504), (0 : Nat), ((cmd0 0x0504) : OpenCmd), (63 : Nat), (4096 : Nat), (97 : Nat), by decide +kernel⟩,
   ⟨(cmdS 0 0x0505), (0 : Nat), ((cmd0 0x0505) : OpenCmd), (11 : Nat), by decide +kernel⟩,
   ⟨(cmdS 0 0x0506), (0 : Nat), ((cmd0 0x0506) : OpenCmd), (7 : Nat), (plumeN : List PlumeNode), by decide +kernel⟩,
   ⟨(cmdS 0 0x0507), (0 : Nat), ((cmd0 0x0507) : OpenCmd), (31 : Nat), (65536 : Nat), (1 : Nat), (1 : Nat), by decide +kernel⟩,
   ⟨(cmdS 0 0x0507), (0 : Nat), ((cmd0 0x0507) : OpenCmd), (31 : Nat), (65536 : Nat), (1 : Nat), (17 : Nat), by decide +kernel⟩,
   ⟨(cmdS 0 0x0508), (0 : Nat), ((cmd0 0x0508) : OpenCmd), (31 : Nat), by decide +kernel⟩,
   ⟨(mirrorS 1), (0 : Nat), ((cmd0 0x0509) : OpenCmd), (0 : Nat), by decide +kernel⟩,
   ⟨(mirrorS 0), (0 : Nat), ((cmd0 0x0509) : OpenCmd), (0 : Nat), by decide +kernel⟩,
   ⟨(cmdS 0 0x050A), (0 : Nat), ((cmd0 0x050A) : OpenCmd), (11 : Nat), by decide +kernel⟩⟩

theorem witness_BarrierRowsAct :
    (∃ (s : State) (ti : Nat) (b : Bar), s.ord.bars.find? (fun b => b.tile == ti && b.phase == 0 && s.outDone ti b.vdm b.pend && s.barFirst b) = some b ∧ s.stopped = false) ∧
    (∃ (s : State) (ti : Nat) (o : FlushOrd), s.ord.bars.find? (fun b => b.tile == ti && b.phase == 0 && s.outDone ti b.vdm b.pend && s.barFirst b) = none ∧ s.ord.orders.find? (fun o => o.tile == ti && o.phase == 0 && s.outDone ti none o.pend) = some o ∧ s.stopped = false) ∧
    (∃ (s : State) (ti : Nat) (p : Pkt) (u : State), s.gives ti (fun p => p.kind == kBARRIER) p u ∧ bit p.addr 10 = true ∧ s.stopped = false) ∧
    (∃ (s : State) (ti : Nat) (p : Pkt) (u : State), s.gives ti (fun p => p.kind == kBARRIER) p u ∧ bit p.addr 10 = false ∧ ti = cxTile ∧ s.stopped = false) ∧
    (∃ (s : State) (r : DieReq) (rest : List DieReq) (q : Nat) (u : State) (v : State), s.ord.die = none ∧ s.ord.dieq = r :: rest ∧ s.nextBar cxTile = (q, u) ∧ v = { u with ord := { u.ord with die := some r, dieq := rest, dieLeft := reqTiles, dieSt := .ok, dieSeq := q } } ∧ s.stopped = false) ∧
    (∃ (s : State) (ti : Nat) (p : Pkt) (u : State) (v : State), s.gives ti (fun p => p.kind == kBACK) p u ∧ ti = cxTile ∧ p.tag = 0 ∧ u.ord.die.isSome = true ∧ p.seq = u.ord.dieSeq ∧ eidNode p.src = u.node ∧ u.ord.dieLeft.contains (eidPort p.src) = true ∧ v = { u with ord := { u.ord with dieLeft := u.ord.dieLeft.filter (· ≠ eidPort p.src), dieSt := firstBad u.ord.dieSt (ackStatus p) } } ∧ s.stopped = false) ∧
    (∃ (s : State) (ti : Nat) (p : Pkt) (u : State) (b : Bar), s.gives ti (fun p => p.kind == kBACK) p u ∧ ti ≠ cxTile ∧ u.ord.bars.find? (fun b => b.tile == ti && b.phase == 2 && b.seq == p.seq && p.tag == 0) = some b ∧ s.stopped = false) ∧
    (∃ (s : State) (ti : Nat) (p : Pkt) (u : State), s.gives ti (fun p => p.kind == kBACK) p u ∧ ti ≠ cxTile ∧ u.ord.bars.find? (fun b => b.tile == ti && b.phase == 2 && b.seq == p.seq && p.tag == 0) = none ∧ s.stopped = false) ∧
    (∃ (s : State) (n : Nat), s.ord.sys.isSome = true ∧ s.ord.sysLeft.contains n = true ∧ s.stopped = false) :=
  ⟨⟨(barS), (5 : Nat), (barB : Bar), by decide +kernel⟩,
   ⟨({ State.reset with ord := { orders := [ordO] } }), (5 : Nat), (ordO : FlushOrd), by decide +kernel⟩,
   ⟨(arrS 5 { pktOf kBARRIER 0 with addr := 1024 }), (5 : Nat), ({ pktOf kBARRIER 0 with addr := 1024 } : Pkt), (((State.takeArrived (arrS 5 { pktOf kBARRIER 0 with addr := 1024 }) (5) (fun p => p.kind == kBARRIER)).2) : State), by decide +kernel⟩,
   ⟨(arrS cxTile (pktOf kBARRIER 0)), (cxTile : Nat), (pktOf kBARRIER 0 : Pkt), (((State.takeArrived (arrS cxTile (pktOf kBARRIER 0)) (cxTile) (fun p => p.kind == kBARRIER)).2) : State), by decide +kernel⟩,
   ⟨({ State.reset with ord := { dieq := [⟨1, 2, 3, 4⟩] } }), (⟨1, 2, 3, 4⟩ : DieReq), ([] : List DieReq), ((State.reset.nextBar cxTile).1 : Nat), (((({ State.reset with ord := { dieq := [⟨1, 2, 3, 4⟩] } }).nextBar cxTile).2) : State), (({ ((({ State.reset with ord := { dieq := [⟨1, 2, 3, 4⟩] } }).nextBar cxTile).2) with ord := { ((({ State.reset with ord := { dieq := [⟨1, 2, 3, 4⟩] } }).nextBar cxTile).2).ord with die := some (⟨1, 2, 3, 4⟩ : DieReq), dieq := ([] : List DieReq), dieLeft := reqTiles, dieSt := .ok, dieSeq := ((State.reset.nextBar cxTile).1 : Nat) } }) : State), by decide +kernel⟩,
   ⟨({ arrS cxTile (pktOf kBACK 0) with ord := { die := some ⟨1, 2, 3, 4⟩, dieLeft := [0, 1] } }), (cxTile : Nat), (pktOf kBACK 0 : Pkt), (((State.takeArrived ({ arrS cxTile (pktOf kBACK 0) with ord := { die := some ⟨1, 2, 3, 4⟩, dieLeft := [0, 1] } }) (cxTile) (fun p => p.kind == kBACK)).2) : State), (({ ((State.takeArrived ({ arrS cxTile (pktOf kBACK 0) with ord := { die := some ⟨1, 2, 3, 4⟩, dieLeft := [0, 1] } }) (cxTile) (fun p => p.kind == kBACK)).2) with ord := { ((State.takeArrived ({ arrS cxTile (pktOf kBACK 0) with ord := { die := some ⟨1, 2, 3, 4⟩, dieLeft := [0, 1] } }) (cxTile) (fun p => p.kind == kBACK)).2).ord with dieLeft := ((State.takeArrived ({ arrS cxTile (pktOf kBACK 0) with ord := { die := some ⟨1, 2, 3, 4⟩, dieLeft := [0, 1] } }) (cxTile) (fun p => p.kind == kBACK)).2).ord.dieLeft.filter (· ≠ eidPort (pktOf kBACK 0 : Pkt).src), dieSt := firstBad ((State.takeArrived ({ arrS cxTile (pktOf kBACK 0) with ord := { die := some ⟨1, 2, 3, 4⟩, dieLeft := [0, 1] } }) (cxTile) (fun p => p.kind == kBACK)).2).ord.dieSt (ackStatus (pktOf kBACK 0 : Pkt)) } }) : State), by decide +kernel⟩,
   ⟨({ arrS 5 (pktOf kBACK 0) with ord := { bars := [{ barB with phase := 2 }] } }), (5 : Nat), (pktOf kBACK 0 : Pkt), (((State.takeArrived ({ arrS 5 (pktOf kBACK 0) with ord := { bars := [{ barB with phase := 2 }] } }) (5) (fun p => p.kind == kBACK)).2) : State), ({ barB with phase := 2 } : Bar), by decide +kernel⟩,
   ⟨(arrS 5 (pktOf kBACK 0)), (5 : Nat), (pktOf kBACK 0 : Pkt), (((State.takeArrived (arrS 5 (pktOf kBACK 0)) (5) (fun p => p.kind == kBACK)).2) : State), by decide +kernel⟩,
   ⟨({ State.reset with ord := { sys := some ⟨1, 3, 3, 4⟩, sysLeft := [7] } }), (7 : Nat), by decide +kernel⟩⟩

theorem witness_FlitAndAckRowsAct :
    (∃ (s : State) (p : Nat) (_ : List Nat) (_ : List Nat) (_ : List Nat) (_ : List Nat) (_ : List Nat) (_ : List Nat), s.isRunnel p = true ∧ s.lst p = lkACTIVE ∧ s.stopped = false) ∧
    (∃ (s : State) (p : Nat) (_ : Nat), s.isRunnel p = true ∧ s.lst p = lkACTIVE ∧ s.stopped = false) ∧
    (∃ (s : State) (p : Nat) (a : Nat) (u : State), s.isRunnel p = true ∧ s.lst p = lkACTIVE ∧ (s.pcount C_LNK_NAK_RX p).ackFresh p (a % 65536) = true ∧ u = (s.pcount C_LNK_NAK_RX p).ackTo p (a % 65536) ∧ u.lst p = lkACTIVE ∧ (u.lk p).lastNak = none ∧ s.stopped = false) ∧
    (∃ (s : State) (p : Nat) (a : Nat) (b : Nat) (n : Nat) (u : State), s.isRunnel p = true ∧ s.lst p = lkACTIVE ∧ (s.pcount C_LNK_NAK_RX p).ackFresh p (a % 65536) = true ∧ u = (s.pcount C_LNK_NAK_RX p).ackTo p (a % 65536) ∧ u.lst p = lkACTIVE ∧ (u.lk p).lastNak = some (b, n) ∧ (¬ (b = a % 65536 ∧ u.ns < n + u.tAck p)) ∧ s.stopped = false) ∧
    (∃ (s : State) (p : Nat) (k : KFlit) (rest : List KFlit), s.isRunnel p = true ∧ s.lst p = lkACTIVE ∧ s.keptOf p = k :: rest ∧ s.stopped = false) ∧
    (∃ (s : State) (p : Nat) (u : State), s.isRunnel p = true ∧ s.lst p = lkACTIVE ∧ (s.lk p).nak = true ∧ u = s.passTo ((s.lk p).nakAt + s.tAck p) ∧ s.stopped = false) ∧
    (∃ (s : State) (p : Nat) (vn : Nat) (cum : Nat), s.isRunnel p = true ∧ s.lst p = lkACTIVE ∧ vn < 5 ∧ 1 ≤ (cum + 2 ^ 32 - tgetD s.lnk.cum (vnKey p vn) 0 % 2 ^ 32) % 2 ^ 32 ∧ (cum + 2 ^ 32 - tgetD s.lnk.cum (vnKey p vn) 0 % 2 ^ 32) % 2 ^ 32 < 2 ^ 31 ∧ s.stopped = false) ∧
    (∃ (s : State) (p : Nat) (vn : Nat) (x : InPkt) (u : State), s.lnk.inq.find? (inHead p vn) = some x ∧ x.done = true ∧ x.asked = false ∧ x.spill = none ∧ u = ({ s with lnk := { s.lnk with inq := dropFirst (inHead p vn) s.lnk.inq } }).freeIngress x ∧ s.stopped = false) ∧
    (∃ (s : State) (p : Nat), s.isRunnel p = true ∧ s.lst p = lkACTIVE ∧ (s.lk p).stopping = false ∧ s.stopped = false) ∧
    (∃ (s : State) (p : Nat), s.isRunnel p = true ∧ s.lst p = lkACTIVE ∧ s.stopped = false) ∧
    (∃ (s : State) (p : Nat), s.isRunnel p = true ∧ (s.lst p = lkACTIVE ∨ s.lst p = lkRETRAIN) ∧ (s.lk p).lost.isSome = true ∧ s.lockSel p = true ∧ s.stopped = false) ∧
    (∃ (s : State) (p : Nat) (vn : Nat) (a : Nat) (x : InPkt) (u : State), s.lnk.inq.find? (inHead p vn) = some x ∧ x.done = true ∧ x.asked = false ∧ x.spill = some a ∧ u = { s with lnk := { s.lnk with inq := s.lnk.inq.map (fun y => if y = x then { y with asked := true } else y) } } ∧ s.stopped = false) :=
  ⟨⟨(upS), (0 : Nat), ([] : List Nat), ([] : List Nat), ([] : List Nat), ([] : List Nat), ([] : List Nat), ([] : List Nat), by decide +kernel⟩,
   ⟨(upS), (0 : Nat), (65535 : Nat), by decide +kernel⟩,
   ⟨(upS), (0 : Nat), (65535 : Nat), ((((upS).pcount C_LNK_NAK_RX 0).ackTo 0 (65535 % 65536)) : State), ⟨by decide +kernel, by decide +kernel, by decide +kernel, rfl, by decide +kernel, by decide +kernel, by decide +kernel⟩⟩,
   ⟨(upS.lkMap 0 (fun x => { x with lastNak := some (2, 0) })), (0 : Nat), (65535 : Nat), (2 : Nat), (0 : Nat), ((((upS.lkMap 0 (fun x => { x with lastNak := some (2, 0) })).pcount C_LNK_NAK_RX 0).ackTo 0 (65535 % 65536)) : State), ⟨by decide +kernel, by decide +kernel, by decide +kernel, rfl, by decide +kernel, by decide +kernel, by decide +kernel, by decide +kernel⟩⟩,
   ⟨({ upS with lnk := { upS.lnk with keep := [keptF] } }), (0 : Nat), (keptF : KFlit), ([] : List KFlit), by decide +kernel⟩,
   ⟨(upS.lkMap 0 (fun x => { x with nak := true })), (0 : Nat), (((upS.lkMap 0 (fun x => { x with nak := true })).passTo (((upS.lkMap 0 (fun x => { x with nak := true })).lk 0).nakAt + (upS.lkMap 0 (fun x => { x with nak := true })).tAck 0)) : State), ⟨by decide +kernel, by decide +kernel, by decide +kernel, rfl, by decide +kernel⟩⟩,
   ⟨(upS), (0 : Nat), (4 : Nat), (5 : Nat), by decide +kernel⟩,
   ⟨({ upS with lnk := { upS.lnk with inq := [inP] } }), (0 : Nat), ((timeP 1).vn : Nat), (inP : InPkt), ((({ ({ upS with lnk := { upS.lnk with inq := [inP] } }) with lnk := { ({ upS with lnk := { upS.lnk with inq := [inP] } }).lnk with inq := dropFirst (inHead 0 ((timeP 1).vn : Nat)) ({ upS with lnk := { upS.lnk with inq := [inP] } }).lnk.inq } }).freeIngress inP) : State), by decide +kernel⟩,
   ⟨(upS), (0 : Nat), by decide +kernel⟩,
   ⟨(upS), (0 : Nat), by decide +kernel⟩,
   ⟨(upS.lkMap 0 (fun x => { x with lost := some 0 })), (0 : Nat), by decide +kernel⟩,
   ⟨({ upS with lnk := { upS.lnk with inq := [{ inP with spill := some 4096 }] } }), (0 : Nat), ((timeP 1).vn : Nat), (4096 : Nat), ({ inP with spill := some 4096 } : InPkt), (({ ({ upS with lnk := { upS.lnk with inq := [{ inP with spill := some 4096 }] } }) with lnk := { ({ upS with lnk := { upS.lnk with inq := [{ inP with spill := some 4096 }] } }).lnk with inq := ({ upS with lnk := { upS.lnk with inq := [{ inP with spill := some 4096 }] } }).lnk.inq.map (fun y => if y = ({ inP with spill := some 4096 } : InPkt) then { y with asked := true } else y) } }) : State), by decide +kernel⟩⟩

theorem witness_LaneAndMapRowsAct :
    (∃ (s : State) (p : Nat) (_ : Nat) (_ : Nat) (_ : Nat) (_ : Nat) (_ : Nat), s.isRunnel p = true ∧ s.lst p = lkACTIVE ∧ (s.lk p).chg = none ∧ s.stopped = false) ∧
    (∃ (s : State) (p : Nat) (_ : Nat) (_ : Nat) (_ : Nat) (_ : Nat) (node : Nat) (c : MapChg), s.isRunnel p = true ∧ s.lst p = lkACTIVE ∧ (s.lk p).chg = some c ∧ c.mine = true ∧ c.phase = 0 ∧ s.node ≤ node % 4096 ∧ s.stopped = false) ∧
    (∃ (s : State) (p : Nat) (rid : Nat) (_ : Bool) (c : MapChg), s.isRunnel p = true ∧ s.lst p = lkACTIVE ∧ (s.lk p).chg = some c ∧ c.mine = true ∧ c.phase = 0 ∧ c.rid = rid % 256 ∧ s.stopped = false) ∧
    (∃ (s : State) (p : Nat) (rid : Nat) (c : MapChg), s.isRunnel p = true ∧ (s.lk p).chg = some c ∧ c.phase = 1 ∧ c.rid = rid % 256 ∧ s.stopped = false) ∧
    (∃ (s : State) (p : Nat) (c : MapChg), s.isRunnel p = true ∧ (s.lk p).chg = some c ∧ c.phase = 1 ∧ s.stopped = false) ∧
    (∃ (s : State) (p : Nat) (m : Nat), s.isRunnel p = true ∧ s.lst p = lkACTIVE ∧ (s.lk p).fault = some m ∧ s.stopped = false) ∧
    (∃ (s : State) (p : Nat) (c : MapChg) (u : State), s.isRunnel p = true ∧ s.lst p = lkACTIVE ∧ (s.lk p).fault = none ∧ (s.lk p).chg = some c ∧ c.phase = 2 ∧ (s.lk p).txMap ≠ c.map ∧ u = (s.endPkt p).pump p true ∧ (u.lk p).txq = [] ∧ (u.lk p).rpl = [] ∧ s.stopped = false) ∧
    (∃ (s : State) (p : Nat) (m : Nat) (bytes : List Nat), s.isRunnel p = true ∧ s.lst p = lkACTIVE ∧ markerMap bytes = some m ∧ s.stopped = false) ∧
    (∃ (s : State) (p : Nat), s.isRunnel p = true ∧ (s.lk p).leaving ≠ 0 ∧ s.stopped = false) ∧
    (∃ (s : State) (p : Nat) (l : Nat), s.isRunnel p = true ∧ s.lst p = lkACTIVE ∧ l < s.lanesOf p ∧ s.stopped = false) ∧
    (∃ (s : State) (p : Nat) (l : Nat), s.isRunnel p = true ∧ s.lst p = lkACTIVE ∧ l < s.lanesOf p ∧ s.stopped = false) ∧
    (∃ (s : State) (p : Nat) (l : Nat) (u : State), s.isRunnel p = true ∧ s.pget LNK_RECAL_PERIOD_S p ≠ 0 ∧ l = (s.lk p).turn % s.lanesOf p ∧ u = s.lkMap p (fun x => { x with turn := l + 1 }) ∧ s.stopped = false) ∧
    (∃ (s : State) (p : Nat) (l : Nat), s.isRunnel p = true ∧ (s.lk p).recal = some (l, 1) ∧ (s.lk p).spare = some l ∧ s.stopped = false) ∧
    (∃ (s : State) (p : Nat) (l : Nat) (u : State), s.isRunnel p = true ∧ (s.lk p).recal = some (l, 1) ∧ (s.lk p).spare ≠ some l ∧ u = s.lkMap p (fun x => { x with recal := some (l, 2) }) ∧ s.stopped = false) ∧
    (∃ (s : State) (p : Nat) (l : Nat) (k : Nat), s.isRunnel p = true ∧ (s.lk p).recal = some (l, k) ∧ k ≠ 2 ∧ s.stopped = false) ∧
    (∃ (s : State) (p : Nat) (_ : Nat) (_ : Nat) (_ : Nat) (_ : Nat) (node : Nat) (c : MapChg), s.isRunnel p = true ∧ s.lst p = lkACTIVE ∧ (s.lk p).chg = some c ∧ c.mine = true ∧ c.phase = 0 ∧ node % 4096 < s.node ∧ s.stopped = false) ∧
    (∃ (s : State) (p : Nat) (_ : Nat) (_ : Nat) (_ : Nat) (_ : Nat) (_ : Nat) (c : MapChg), s.isRunnel p = true ∧ s.lst p = lkACTIVE ∧ (s.lk p).chg = some c ∧ (¬ (c.mine = true ∧ c.phase = 0)) ∧ s.stopped = false) :=
  ⟨⟨(upS), (0 : Nat), (1 : Nat), (0 : Nat), (0 : Nat), (15 : Nat), (5 : Nat), by decide +kernel⟩,
   ⟨(upS.lkMap 0 (fun x => { x with chg := some ⟨1, 0, 0, 15, true, 0, false⟩ })), (0 : Nat), (1 : Nat), (0 : Nat), (0 : Nat), (15 : Nat), (5 : Nat), (⟨1, 0, 0, 15, true, 0, false⟩ : MapChg), by decide +kernel⟩,
   ⟨(upS.lkMap 0 (fun x => { x with chg := some ⟨1, 0, 0, 15, true, 0, false⟩ })), (0 : Nat), (1 : Nat), (true : Bool), (⟨1, 0, 0, 15, true, 0, false⟩ : MapChg), by decide +kernel⟩,
   ⟨(upS.lkMap 0 (fun x => { x with chg := some ⟨1, 0, 0, 15, true, 1, true⟩ })), (0 : Nat), (1 : Nat), (⟨1, 0, 0, 15, true, 1, true⟩ : MapChg), by decide +kernel⟩,
   ⟨(upS.lkMap 0 (fun x => { x with chg := some ⟨1, 0, 0, 15, true, 1, true⟩ })), (0 : Nat), (⟨1, 0, 0, 15, true, 1, true⟩ : MapChg), by decide +kernel⟩,
   ⟨(upS.lkMap 0 (fun x => { x with fault := some 255 })), (0 : Nat), (255 : Nat), by decide +kernel⟩,
   ⟨(upS.lkMap 0 (fun x => { x with chg := some ⟨1, 0, 0, 15, true, 2, true⟩ })), (0 : Nat), (⟨1, 0, 0, 15, true, 2, true⟩ : MapChg), ((((upS.lkMap 0 (fun x => { x with chg := some ⟨1, 0, 0, 15, true, 2, true⟩ })).endPkt 0).pump 0 true) : State), ⟨by decide +kernel, by decide +kernel, by decide +kernel, by decide +kernel, by decide +kernel, by decide +kernel, rfl, by decide +kernel, by decide +kernel, by decide +kernel⟩⟩,
   ⟨(upS), (0 : Nat), (15 : Nat), (markerB : List Nat), by decide +kernel⟩,
   ⟨(upS.lkMap 0 (fun x => { x with leaving := 3 })), (0 : Nat), by decide +kernel⟩,
   ⟨(upS), (0 : Nat), (0 : Nat), by decide +kernel⟩,
   ⟨(upS), (0 : Nat), (0 : Nat), by decide +kernel⟩,
   ⟨(upS.pput LNK_RECAL_PERIOD_S 0 5), (0 : Nat), (0 : Nat), (((upS.pput LNK_RECAL_PERIOD_S 0 5).lkMap 0 (fun x => { x with turn := 0 + 1 })) : State), by decide +kernel⟩,
   ⟨(upS.lkMap 0 (fun x => { x with recal := some (2, 1), spare := some 2 })), (0 : Nat), (2 : Nat), by decide +kernel⟩,
   ⟨(upS.lkMap 0 (fun x => { x with recal := some (2, 1) })), (0 : Nat), (2 : Nat), (((upS.lkMap 0 (fun x => { x with recal := some (2, 1) })).lkMap 0 (fun x => { x with recal := some (2, 2) })) : State), by decide +kernel⟩,
   ⟨(upS.lkMap 0 (fun x => { x with recal := some (2, 1) })), (0 : Nat), (2 : Nat), (1 : Nat), by decide +kernel⟩,
   ⟨((upS.put GLB_NODE_ID 6).lkMap 0 (fun x => { x with chg := some ⟨1, 0, 0, 15, true, 0, false⟩ })), (0 : Nat), (1 : Nat), (0 : Nat), (0 : Nat), (15 : Nat), (5 : Nat), (⟨1, 0, 0, 15, true, 0, false⟩ : MapChg), by decide +kernel⟩,
   ⟨(upS.lkMap 0 (fun x => { x with chg := some ⟨1, 0, 0, 15, false, 0, false⟩ })), (0 : Nat), (1 : Nat), (0 : Nat), (0 : Nat), (15 : Nat), (5 : Nat), (⟨1, 0, 0, 15, false, 0, false⟩ : MapChg), by decide +kernel⟩⟩

theorem witness_LinkStateRowsAct :
    (∃ (s : State) (p : Nat) (lanes : Nat), s.isRunnel p = true ∧ s.lst p = lkDETECT ∧ (s.fitWidth p (laneCount (lowLanes lanes 16))).isSome = true ∧ s.stopped = false) ∧
    (∃ (s : State) (p : Nat) (lanes : Nat) (good : Nat) (u : State) (v : State), s.isRunnel p = true ∧ s.lst p = lkLOCK ∧ good = laneSub (lanes % 2 ^ 16) (s.pget LNK_LANES_FAILED p) ∧ (s.fitWidth p (laneCount good)).isSome = true ∧ u = (s.pput LNK_LANES_OK p good).setLst p lkCONFIG ∧ v = (if u.held p then u else u.newNonce p) ∧ s.stopped = false) ∧
    (∃ (s : State) (p : Nat), s.isRunnel p = true ∧ (s.lst p = lkLOCK ∨ s.lst p = lkCONFIG) ∧ s.stopped = false) ∧
    (∃ (s : State) (p : Nat) (l : Nat) (now : Nat) (magic : Nat) (ctl : Nat) (node : Nat) (port : Nat) (nonce : Nat) (pnonce : Nat) (nextRx : Nat) (offers : Nat) (lanes : Nat) (tstamp : Nat) (echoed : Nat) (age : Nat) (crc : Nat) (rsv : List Nat) (b : TrainBlk) (u : State), s.isRunnel p = true ∧ l < s.lanesOf p ∧ (s.lst p = lkCONFIG ∨ s.lst p = lkRETRAIN) ∧ trainBlkOf (trainParts magic ctl node port nonce pnonce nextRx offers lanes tstamp echoed age rsv crc) = some b ∧ now = s.lclk ∧ u = s.lkMap p (fun x => { x with echo := b.tstamp, echoAt := now }) ∧ s.stopped = false) ∧
    (∃ (s : State) (p : Nat) (l : Nat) (now : Nat) (magic : Nat) (ctl : Nat) (node : Nat) (port : Nat) (nonce : Nat) (pnonce : Nat) (nextRx : Nat) (offers : Nat) (lanes : Nat) (tstamp : Nat) (echoed : Nat) (age : Nat) (crc : Nat) (rsv : List Nat) (b : TrainBlk) (u : State), s.isRunnel p = true ∧ l < s.lanesOf p ∧ (s.lst p = lkACTIVE ∨ s.lst p = lkEIDLE) ∧ trainBlkOf (trainParts magic ctl node port nonce pnonce nextRx offers lanes tstamp echoed age rsv crc) = some b ∧ now = s.lclk ∧ u = s.lkMap p (fun x => { x with echo := b.tstamp, echoAt := now }) ∧ s.stopped = false) ∧
    (∃ (s : State) (p : Nat), s.isRunnel p = true ∧ s.lst p = lkRETRAIN ∧ s.stopped = false) ∧
    (∃ (s : State) (p : Nat), s.isRunnel p = true ∧ s.held p = true ∧ (s.lst p = lkDETECT ∨ s.lst p = lkLOCK ∨ s.lst p = lkCONFIG) ∧ s.stopped = false) ∧
    (∃ (s : State) (p : Nat), s.isRunnel p = true ∧ s.lst p = lkEIDLE ∧ (s.lk p).idleOrd = false ∧ s.stopped = false) ∧
    (∃ (s : State) (p : Nat), s.isRunnel p = true ∧ (s.lk p).stopping = true ∧ s.stopped = false) ∧
    (∃ (s : State) (mb : Nat) (c : OpenCmd) (p : Nat) (ctl : Nat) (rtt : Nat) (crit : List Nat) (mem : Option (List Nat)) (_ : Bool) (u : State) (v : State), s.runs mb 0x0220 c ∧ s.isRunnel p = true ∧ s.lst p = lkDISABLED ∧ u = (s.linkRegs p ctl crit mem).setSpare p (ctl / 32) ∧ u.linkFail p rtt = 0 ∧ v = u.showRpl p false ∧ s.stopped = false) ∧
    (∃ (s : State) (mb : Nat) (c : OpenCmd) (p : Nat), s.runs mb 0x0221 c ∧ s.isRunnel p = true ∧ s.stopped = false) ∧
    (∃ (s : State) (mb : Nat) (c : OpenCmd) (p : Nat) (w : Nat) (m : Nat), s.runs mb 0x0222 c ∧ s.isRunnel p = true ∧ (s.widthsOf p).contains w = true ∧ s.lst p = lkACTIVE ∧ (s.lk p).chg = none ∧ m = (if w ≤ laneCount (s.lk p).txMap then laneMask ((laneList (s.lk p).txMap).filter (fun l => bit (s.pget LNK_LANES_OK p) l)) else laneMask ((laneList (s.pget LNK_LANES_OK p)).filter (fun l => decide (l < s.lanesOf p)))) ∧ w ≤ laneCount m ∧ lowLanes m w ≠ (s.lk p).txMap ∧ s.stopped = false) ∧
    (∃ (s : State) (mb : Nat) (c : OpenCmd) (p : Nat) (l : Nat), s.runs mb 0x0223 c ∧ s.isRunnel p = true ∧ l < s.lanesOf p ∧ s.canRecal p l = true ∧ s.stopped = false) ∧
    (∃ (s : State) (mb : Nat) (c : OpenCmd) (p : Nat) (l : Nat), s.runs mb 0x0224 c ∧ s.isRunnel p = true ∧ l < s.lanesOf p ∧ s.stopped = false) ∧
    (∃ (s : State) (mb : Nat) (c : OpenCmd) (p : Nat), s.runs mb 0x0225 c ∧ s.isRunnel p = true ∧ s.stopped = false) :=
  ⟨⟨(runnelS.setLst 0 lkDETECT), (0 : Nat), (0xFFFF : Nat), by decide +kernel⟩,
   ⟨((runnelS.pput LNK_STAT_HELD 0 1).setLst 0 lkLOCK), (0 : Nat), (0xFFFF : Nat), (0xFFFF : Nat), (((((runnelS.pput LNK_STAT_HELD 0 1).setLst 0 lkLOCK).pput LNK_LANES_OK 0 0xFFFF).setLst 0 lkCONFIG) : State), (((if ((((runnelS.pput LNK_STAT_HELD 0 1).setLst 0 lkLOCK).pput LNK_LANES_OK 0 0xFFFF).setLst 0 lkCONFIG).held 0 then ((((runnelS.pput LNK_STAT_HELD 0 1).setLst 0 lkLOCK).pput LNK_LANES_OK 0 0xFFFF).setLst 0 lkCONFIG) else ((((runnelS.pput LNK_STAT_HELD 0 1).setLst 0 lkLOCK).pput LNK_LANES_OK 0 0xFFFF).setLst 0 lkCONFIG).newNonce 0)) : State), ⟨by decide +kernel, by decide +kernel, by decide +kernel, by decide +kernel, rfl, rfl, by decide +kernel⟩⟩,
   ⟨(runnelS.setLst 0 lkLOCK), (0 : Nat), by decide +kernel⟩,
   ⟨(runnelS.setLst 0 lkCONFIG), (0 : Nat), (15 : Nat), ((runnelS.setLst 0 lkCONFIG).lclk : Nat), (blkW 0 : Nat), (blkW 1 : Nat), (blkW 2 % 4096 : Nat), (blkW 2 / 4096 : Nat), (blkW 3 : Nat), (blkW 4 : Nat), (blkW 5 % 65536 : Nat), (blkW 5 / 65536 : Nat), (blkW 6 : Nat), (blkW 7 : Nat), (blkW 8 : Nat), (blkW 9 : Nat), (blkW 15 : Nat), ([0, 0, 0, 0, 0] : List Nat), ((trainBlkOf blkWs).getD blk0 : TrainBlk), (((runnelS.setLst 0 lkCONFIG).lkMap 0 (fun x => { x with echo := ((trainBlkOf blkWs).getD blk0 : TrainBlk).tstamp, echoAt := ((runnelS.setLst 0 lkCONFIG).lclk : Nat) })) : State), by decide +kernel⟩,
   ⟨(upS), (0 : Nat), (15 : Nat), (upS.lclk : Nat), (blkW 0 : Nat), (blkW 1 : Nat), (blkW 2 % 4096 : Nat), (blkW 2 / 4096 : Nat), (blkW 3 : Nat), (blkW 4 : Nat), (blkW 5 % 65536 : Nat), (blkW 5 / 65536 : Nat), (blkW 6 : Nat), (blkW 7 : Nat), (blkW 8 : Nat), (blkW 9 : Nat), (blkW 15 : Nat), ([0, 0, 0, 0, 0] : List Nat), ((trainBlkOf blkWs).getD blk0 : TrainBlk), (((upS).lkMap 0 (fun x => { x with echo := ((trainBlkOf blkWs).getD blk0 : TrainBlk).tstamp, echoAt := (upS.lclk : Nat) })) : State), by decide +kernel⟩,
   ⟨(runnelS.setLst 0 lkRETRAIN), (0 : Nat), by decide +kernel⟩,
   ⟨((runnelS.pput LNK_STAT_HELD 0 1).setLst 0 lkDETECT), (0 : Nat), by decide +kernel⟩,
   ⟨(runnelS.setLst 0 lkEIDLE), (0 : Nat), by decide +kernel⟩,
   ⟨(upS.lkMap 0 (fun x => { x with stopping := true })), (0 : Nat), by decide +kernel⟩,
   ⟨(linkSetS), (0 : Nat), ((cmd0 0x0220) : OpenCmd), (0 : Nat), (0 : Nat), (1000 : Nat), (linkCrit : List Nat), ((some linkMem : Option (List Nat)) : Option (List Nat)), (true : Bool), ((((linkSetS).linkRegs 0 0 linkCrit (some linkMem : Option (List Nat))).setSpare 0 (0 / 32)) : State), (((((linkSetS).linkRegs 0 0 linkCrit (some linkMem : Option (List Nat))).setSpare 0 (0 / 32)).showRpl 0 false) : State), ⟨by decide +kernel, by decide +kernel, by decide +kernel, rfl, by decide +kernel, rfl, by decide +kernel⟩⟩,
   ⟨(runnelCmd 0x0221), (0 : Nat), ((cmd0 0x0221) : OpenCmd), (0 : Nat), by decide +kernel⟩,
   ⟨(widthS), (0 : Nat), ((cmd0 0x0222) : OpenCmd), (0 : Nat), (8 : Nat), (0xFFFF : Nat), by decide +kernel⟩,
   ⟨((widthS' 0x0223).lkMap 0 (fun x => { x with spare := some 3 })), (0 : Nat), ((cmd0 0x0223) : OpenCmd), (0 : Nat), (3 : Nat), by decide +kernel⟩,
   ⟨(runnelCmd 0x0224), (0 : Nat), ((cmd0 0x0224) : OpenCmd), (0 : Nat), (0 : Nat), by decide +kernel⟩,
   ⟨(runnelCmd 0x0225), (0 : Nat), ((cmd0 0x0225) : OpenCmd), (0 : Nat), by decide +kernel⟩⟩

theorem witness_PcieRowsAct :
    (∃ (s : State) (p : Nat) (h : Nat) (x : Tlp) (y : Tlp) (_ : List Word), s.isHost p = true ∧ s.lstat p = lsACTIVE ∧ s.faulty p x = none ∧ s.tlpHpart p x = some h ∧ y = { x with part := h, pasid := x.pasid.filter (· != 0) } ∧ s.tlpWaits p y = false ∧ s.stopped = false) ∧
    (∃ (s : State) (p : Nat) (h : Nat) (x : Tlp) (y : Tlp) (_ : List Word), s.isHost p = true ∧ s.lstat p = lsACTIVE ∧ s.faulty p x = none ∧ s.tlpHpart p x = some h ∧ y = { x with part := h, pasid := x.pasid.filter (· != 0) } ∧ s.tlpWaits p y = true ∧ s.stopped = false) ∧
    (∃ (s : State) (p : Nat) (h : Nat) (x : Tlp) (y : Tlp) (_ : List Word), s.isDown p = true ∧ s.lstat p = lsACTIVE ∧ s.faulty p x = none ∧ s.tlpHpart p x = some h ∧ y = { x with part := h, pasid := x.pasid.filter (· != 0) } ∧ s.tlpWaits p y = false ∧ s.stopped = false) ∧
    (∃ (s : State) (p : Nat) (tag : Nat) (o : OutTag), s.pc.tags.find? (fun o => o.port == p && o.tag == tag) = some o ∧ s.stopped = false) ∧
    (∃ (s : State) (p : Nat) (h : Nat) (x : Tlp) (y : Tlp) (_ : List Word), s.isHost p = true ∧ s.lstat p = lsACTIVE ∧ (x.typ = tyCfgRd ∨ x.typ = tyCfgWr) ∧ s.faulty p x = none ∧ s.tlpHpart p x = some h ∧ y = { x with part := h, pasid := x.pasid.filter (· != 0) } ∧ s.tlpWaits p y = false ∧ s.stopped = false) ∧
    (∃ (s : State) (p : Nat) (h : Nat) (rid : Nat) (sub : Nat) (scope : Nat) (token : Nat) (x : Tlp) (y : Tlp), s.lstat p = lsACTIVE ∧ (s.isHost p || s.isDown p) = true ∧ x = { tlp0 with typ := tyVdm, rid := rid, msg := sub % 256 + scope % 4 * 2 ^ 8 + token % 2 ^ 16 * 2 ^ 16 } ∧ s.faulty p x = none ∧ s.tlpHpart p x = some h ∧ y = { x with part := h, pasid := x.pasid.filter (· != 0) } ∧ s.tlpWaits p y = false ∧ s.stopped = false) ∧
    (∃ (s : State) (p : Nat) (h : Nat) (rid : Nat) (sub : Nat) (scope : Nat) (token : Nat) (x : Tlp) (y : Tlp), s.lstat p = lsACTIVE ∧ (s.isHost p || s.isDown p) = true ∧ x = { tlp0 with typ := tyVdm, rid := rid, msg := sub % 256 + scope % 4 * 2 ^ 8 + token % 2 ^ 16 * 2 ^ 16 } ∧ s.faulty p x = none ∧ s.tlpHpart p x = some h ∧ y = { x with part := h, pasid := x.pasid.filter (· != 0) } ∧ s.tlpWaits p y = true ∧ s.stopped = false) ∧
    (∃ (s : State) (p : Nat) (cause : Nat), s.isDown p = true ∧ s.lstat p = lsACTIVE ∧ 1 ≤ cause ∧ cause ≤ 3 ∧ (¬ (cause = 3 ∧ s.pon PCFG_DPC_NONFATAL p = false)) ∧ s.stopped = false) ∧
    (∃ (s : State) (p : Nat) (n : Nat), s.lstat p = lsACTIVE ∧ s.isHost p = false ∧ s.isDown p = true ∧ s.on TM_STATUS_VALID = true ∧ n = s.rxTime p s.stamp16 / 65536 ∧ s.stopped = false) ∧
    (∃ (s : State) (p : Nat), s.lstat p = lsACTIVE ∧ s.isHost p = false ∧ s.isDown p = true ∧ s.on TM_STATUS_VALID = false ∧ s.stopped = false) ∧
    (∃ (s : State) (h : Nat) (dev : Nat) (v : VPort), s.pc.vports.find? (fun v => v.hpart == h && v.dev == dev) = some v ∧ eidNode v.eid = s.node ∧ s.stopped = false) ∧
    (∃ (s : State) (p : Nat) (_ : Nat), s.isDown p = true ∧ s.resetNow = false ∧ s.stopped = false) ∧
    (∃ (s : State) (p : Nat) (u : State), s.isHost p = true ∧ s.lstat p = lsACTIVE ∧ u = (s.setLstat p (if s.pon PCFG_EN p then lsTRAINING else lsDISABLED)).dropPort p ∧ u.hostPart p = none ∧ s.stopped = false) ∧
    (∃ (s : State) (p : Nat) (h : Nat) (u : State), s.isHost p = true ∧ s.lstat p = lsACTIVE ∧ u = (s.setLstat p (if s.pon PCFG_EN p then lsTRAINING else lsDISABLED)).dropPort p ∧ u.hostPart p = some h ∧ s.stopped = false) ∧
    (∃ (s : State) (p : Nat) (width : Nat) (rate : Nat) (en : Nat) (flit : Bool) (ten : Bool) (u : State), s.isHost p = true ∧ s.lstat p = lsTRAINING ∧ s.linkFits p width rate flit = true ∧ u = s.linkUp p width rate flit ten en ∧ s.stopped = false) ∧
    (∃ (s : State) (p : Nat) (cls : Nat) (_ : Nat) (_ : Nat), (s.isHost p || s.isDown p) = true ∧ s.lstat p = lsACTIVE ∧ cls < 3 ∧ s.stopped = false) ∧
    (∃ (s : State) (p : Nat) (x : Tlp) (_ : List Word) (u : State), s.isHost p = true ∧ s.lstat p = lsACTIVE ∧ s.faulty p x = some u ∧ s.stopped = false) ∧
    (∃ (s : State) (p : Nat) (x : Tlp) (_ : List Word), s.isHost p = true ∧ s.lstat p = lsACTIVE ∧ s.faulty p x = none ∧ s.tlpHpart p x = none ∧ s.stopped = false) ∧
    (∃ (s : State) (p : Nat) (x : Tlp) (_ : List Word) (u : State), s.isDown p = true ∧ s.lstat p = lsACTIVE ∧ s.faulty p x = some u ∧ s.stopped = false) ∧
    (∃ (s : State) (p : Nat) (_ : Nat), s.isDown p = true ∧ s.resetNow = true ∧ s.stopped = false) :=
  ⟨⟨(hostS), (0 : Nat), (1 : Nat), (tlpMRd : Tlp), ({ tlpMRd with part := 1 } : Tlp), ([] : List Word), by decide +kernel⟩,
   ⟨({ hostS with pc := { hostS.pc with wait := [⟨0, { tlpMRd with part := 1 }, [], false⟩] } }), (0 : Nat), (1 : Nat), (tlpMRd : Tlp), ({ tlpMRd with part := 1 } : Tlp), ([] : List Word), by decide +kernel⟩,
   ⟨(downS), (0 : Nat), (0 : Nat), (tlpMRd : Tlp), ({ tlpMRd with part := 0 } : Tlp), ([] : List Word), by decide +kernel⟩,
   ⟨({ downS with pc := { downS.pc with tags := [⟨0, 3, pktOf kREAD 1, 1, false⟩] } }), (0 : Nat), (3 : Nat), (⟨0, 3, pktOf kREAD 1, 1, false⟩ : OutTag), by decide +kernel⟩,
   ⟨(hostS), (0 : Nat), (1 : Nat), ({ tlpMRd with typ := tyCfgRd } : Tlp), ({ tlpMRd with typ := tyCfgRd, part := 1 } : Tlp), ([] : List Word), by decide +kernel⟩,
   ⟨(hostS), (0 : Nat), (1 : Nat), (0 : Nat), (1 : Nat), (1 : Nat), (5 : Nat), (vdmX : Tlp), ({ vdmX with part := 1 } : Tlp), by decide +kernel⟩,
   ⟨({ hostS with pc := { hostS.pc with wait := [⟨0, { tlpMRd with part := 1 }, [], false⟩] } }), (0 : Nat), (1 : Nat), (0 : Nat), (1 : Nat), (1 : Nat), (5 : Nat), (vdmX : Tlp), ({ vdmX with part := 1 } : Tlp), by decide +kernel⟩,
   ⟨(downS), (0 : Nat), (1 : Nat), by decide +kernel⟩,
   ⟨(downS.put TM_STATUS_VALID 1), (0 : Nat), ((downS.put TM_STATUS_VALID 1).rxTime 0 (downS.put TM_STATUS_VALID 1).stamp16 / 65536 : Nat), by decide +kernel⟩,
   ⟨(downS), (0 : Nat), by decide +kernel⟩,
   ⟨({ downS with pc := { downS.pc with vports := [⟨1, 2, 0⟩] } }), (1 : Nat), (2 : Nat), (⟨1, 2, 0⟩ : VPort), by decide +kernel⟩,
   ⟨(downS), (0 : Nat), (256 : Nat), by decide +kernel⟩,
   ⟨(hostN), (0 : Nat), ((((hostN).setLstat 0 (if (hostN).pon PCFG_EN 0 then lsTRAINING else lsDISABLED)).dropPort 0) : State), ⟨by decide +kernel, by decide +kernel, rfl, by decide +kernel, by decide +kernel⟩⟩,
   ⟨(hostS), (0 : Nat), (1 : Nat), ((((hostS).setLstat 0 (if (hostS).pon PCFG_EN 0 then lsTRAINING else lsDISABLED)).dropPort 0) : State), ⟨by decide +kernel, by decide +kernel, rfl, by decide +kernel, by decide +kernel⟩⟩,
   ⟨(hostS.setLstat 0 lsTRAINING), (0 : Nat), (16 : Nat), (5 : Nat), (0 : Nat), (true : Bool), (true : Bool), (((hostS.setLstat 0 lsTRAINING).linkUp 0 16 5 true true 0) : State), ⟨by decide +kernel, by decide +kernel, by decide +kernel, rfl, by decide +kernel⟩⟩,
   ⟨(hostS), (0 : Nat), (2 : Nat), (1 : Nat), (4 : Nat), by decide +kernel⟩,
   ⟨(hostS), (0 : Nat), ({ tlpMRd with typ := tyBad } : Tlp), ([] : List Word), ((((hostS).faulty 0 ({ tlpMRd with typ := tyBad } : Tlp)).getD (hostS)) : State), by decide +kernel⟩,
   ⟨(hostN), (0 : Nat), (tlpMRd : Tlp), ([] : List Word), by decide +kernel⟩,
   ⟨(downS), (0 : Nat), ({ tlpMRd with typ := tyBad } : Tlp), ([] : List Word), ((((downS).faulty 0 ({ tlpMRd with typ := tyBad } : Tlp)).getD (downS)) : State), by decide +kernel⟩,
   ⟨({ downS with pending := [.warmDrainEnd], wh := { downS.wh with rstBusy := true } }), (0 : Nat), (256 : Nat), by decide +kernel⟩⟩

theorem witness_SlotRowsAct :
    (∃ (s : State) (n : Nat) (lvl : Bool), n < 64 ∧ s.slotSt n = slEMPTY ∧ s.prsnt n = false ∧ lvl = true ∧ s.stopped = false) ∧
    (∃ (s : State) (n : Nat) (lvl : Bool), n < 64 ∧ s.slotSt n = slOFF ∧ s.prsnt n = true ∧ lvl = false ∧ s.stopped = false) ∧
    (∃ (s : State) (n : Nat) (lvl : Bool), n < 64 ∧ s.slotSt n = slUP ∧ s.prsnt n = true ∧ lvl = false ∧ s.stopped = false) ∧
    (∃ (s : State) (n : Nat), n < 64 ∧ s.slotSt n = slOFF ∧ s.prsnt n = true ∧ s.slotWants n = true ∧ s.stopped = false) ∧
    (∃ (s : State) (n : Nat) (lvl : Bool), n < 64 ∧ s.slotSt n = slRAMP ∧ lvl = true ∧ s.stopped = false) ∧
    (∃ (s : State) (n : Nat) (lvl : Bool), n < 64 ∧ (s.slotSt n = slPERST ∨ s.slotSt n = slLINK ∨ s.slotSt n = slUP) ∧ lvl = false ∧ s.stopped = false) ∧
    (∃ (s : State) (n : Nat), n < 64 ∧ s.slotSt n = slRAMP ∧ s.stopped = false) ∧
    (∃ (s : State) (n : Nat) (u : State), n < 64 ∧ s.slotSt n = slPERST ∧ u = (s.put (SLOT_STAT_PERST_OUT n) 0).slotTo n slLINK ∧ s.stopped = false) ∧
    (∃ (s : State) (n : Nat) (width : Nat) (rate : Nat) (_ : Nat) (flit : Bool) (_ : Bool), n < 64 ∧ s.slotSt n = slLINK ∧ s.isDown (s.slotPort n) = true ∧ s.lstat (s.slotPort n) = lsTRAINING ∧ s.linkFits (s.slotPort n) width rate flit = true ∧ s.stopped = false) ∧
    (∃ (s : State) (n : Nat) (width : Nat) (rate : Nat) (_ : Nat) (flit : Bool) (_ : Bool), n < 64 ∧ s.slotSt n = slUP ∧ s.isDown (s.slotPort n) = true ∧ s.lstat (s.slotPort n) = lsTRAINING ∧ s.linkFits (s.slotPort n) width rate flit = true ∧ s.stopped = false) ∧
    (∃ (s : State) (n : Nat), n < 64 ∧ s.slotSt n = slLINK ∧ s.stopped = false) ∧
    (∃ (s : State) (n : Nat) (_ : Bool), n < 64 ∧ s.slotSt n = slUP ∧ s.stopped = false) ∧
    (∃ (s : State) (n : Nat) (lvl : Nat), n < 64 ∧ lvl < 2 ∧ s.stopped = false) ∧
    (∃ (s : State) (n : Nat) (lvl : Nat), n < 64 ∧ lvl = 2 ∧ (s.slotSt n = slRAMP ∨ s.slotSt n = slPERST ∨ s.slotSt n = slLINK ∨ s.slotSt n = slUP) ∧ s.stopped = false) ∧
    (∃ (s : State) (n : Nat), n < 64 ∧ s.slotSt n = slSETTLE ∧ s.stopped = false) ∧
    (∃ (s : State) (n : Nat), n < 64 ∧ s.slotSt n = slSETTLE ∧ s.pc.gone.contains n = true ∧ s.stopped = false) ∧
    (∃ (s : State) (n : Nat) (u : State), n < 64 ∧ s.slotSt n = slFAULT ∧ 1 ≤ s.get (SLOT_STAT_RETRIES_LEFT n) ∧ s.prsnt n = true ∧ u = (((s.put (SLOT_STAT_RETRIES_LEFT n) (s.get (SLOT_STAT_RETRIES_LEFT n) - 1)).put (SLOT_EVT_RETRY n) 1).put (SLOT_STAT_EN_OUT n) 1).slotTo n slRAMP ∧ s.stopped = false) ∧
    (∃ (s : State) (n : Nat) (u : State), n < 64 ∧ s.slotSt n ≠ slDISABLED ∧ u = (s.put (SLOT_EVT_ATTN n) 1).slotTell n ssATTN ∧ u.on (SLOT_CFG_ATTN_OFF n) = true ∧ s.stopped = false) ∧
    (∃ (s : State) (n : Nat) (u : State), n < 64 ∧ s.slotSt n ≠ slDISABLED ∧ u = (s.put (SLOT_EVT_ATTN n) 1).slotTell n ssATTN ∧ u.on (SLOT_CFG_ATTN_OFF n) = false ∧ s.stopped = false) ∧
    (∃ (s : State) (n : Nat) (vin : Option Nat) (vout : Option Nat) (iout : Option Nat) (pin : Option Nat) (vmode : Option Nat) (e : Nat) (u : State) (v : State), n < 64 ∧ s.on (SLOT_PMB_EN n) = true ∧ u = ((((s.slotPoll n).pmbRead n (SLOT_V_VIN_MV n) none vin).pmbRead n (SLOT_V_VOUT_MV n) vmode vout).pmbRead n (SLOT_I_IOUT_MA n) none iout).pmbRead n (SLOT_P_PIN_MW n) none pin ∧ u.pmbRound 48 ((u.get (SLOT_P_PIN_MW n) * max 1 (u.get (SLOT_PMB_POLL_MS n)) : Nat), 1000) = (e, v) ∧ s.stopped = false) :=
  ⟨⟨(slotSt' slEMPTY 0), (0 : Nat), (true : Bool), by decide +kernel⟩,
   ⟨(slotSt' slOFF 1), (0 : Nat), (false : Bool), by decide +kernel⟩,
   ⟨(slotSt' slUP 1), (0 : Nat), (false : Bool), by decide +kernel⟩,
   ⟨(slotWant), (0 : Nat), by decide +kernel⟩,
   ⟨(slotSt slRAMP), (0 : Nat), (true : Bool), by decide +kernel⟩,
   ⟨(slotSt slUP), (0 : Nat), (false : Bool), by decide +kernel⟩,
   ⟨(slotSt slRAMP), (0 : Nat), by decide +kernel⟩,
   ⟨(slotSt slPERST), (0 : Nat), ((((slotSt slPERST).put (SLOT_STAT_PERST_OUT 0) 0).slotTo 0 slLINK) : State), ⟨by decide +kernel, by decide +kernel, rfl, by decide +kernel⟩⟩,
   ⟨((slotSt slLINK).setLstat 0 lsTRAINING), (0 : Nat), (16 : Nat), (5 : Nat), (0 : Nat), (true : Bool), (true : Bool), by decide +kernel⟩,
   ⟨((slotSt slUP).setLstat 0 lsTRAINING), (0 : Nat), (16 : Nat), (5 : Nat), (0 : Nat), (true : Bool), (true : Bool), by decide +kernel⟩,
   ⟨(slotSt slLINK), (0 : Nat), by decide +kernel⟩,
   ⟨(slotSt slUP), (0 : Nat), (true : Bool), by decide +kernel⟩,
   ⟨(slotSt slUP), (0 : Nat), (1 : Nat), by decide +kernel⟩,
   ⟨(slotSt slUP), (0 : Nat), (2 : Nat), by decide +kernel⟩,
   ⟨(slotSt slSETTLE), (0 : Nat), by decide +kernel⟩,
   ⟨((slotSt slSETTLE).mark 0 true), (0 : Nat), by decide +kernel⟩,
   ⟨(((slotSt slFAULT).put (SLOT_STAT_RETRIES_LEFT 0) 2).put (SLOT_STAT_PRSNT 0) 1), (0 : Nat), ((((((((slotSt slFAULT).put (SLOT_STAT_RETRIES_LEFT 0) 2).put (SLOT_STAT_PRSNT 0) 1).put (SLOT_STAT_RETRIES_LEFT 0) ((((slotSt slFAULT).put (SLOT_STAT_RETRIES_LEFT 0) 2).put (SLOT_STAT_PRSNT 0) 1).get (SLOT_STAT_RETRIES_LEFT 0) - 1)).put (SLOT_EVT_RETRY 0) 1).put (SLOT_STAT_EN_OUT 0) 1).slotTo 0 slRAMP) : State), ⟨by decide +kernel, by decide +kernel, by decide +kernel, by decide +kernel, rfl, by decide +kernel⟩⟩,
   ⟨((slotSt slUP).put (SLOT_CFG_ATTN_OFF 0) 1), (0 : Nat), (((((slotSt slUP).put (SLOT_CFG_ATTN_OFF 0) 1).put (SLOT_EVT_ATTN 0) 1).slotTell 0 ssATTN) : State), ⟨by decide +kernel, by decide +kernel, rfl, by decide +kernel, by decide +kernel⟩⟩,
   ⟨(slotSt slUP), (0 : Nat), ((((slotSt slUP).put (SLOT_EVT_ATTN 0) 1).slotTell 0 ssATTN) : State), ⟨by decide +kernel, by decide +kernel, rfl, by decide +kernel, by decide +kernel⟩⟩,
   ⟨(State.reset.put (SLOT_PMB_EN 0) 1), (0 : Nat), (none : Option Nat), (none : Option Nat), (none : Option Nat), (none : Option Nat), (none : Option Nat), (0 : Nat), (((((((State.reset.put (SLOT_PMB_EN 0) 1).slotPoll 0).pmbRead 0 (SLOT_V_VIN_MV 0) none none).pmbRead 0 (SLOT_V_VOUT_MV 0) none none).pmbRead 0 (SLOT_I_IOUT_MA 0) none none).pmbRead 0 (SLOT_P_PIN_MW 0) none none) : State), (((((((((State.reset.put (SLOT_PMB_EN 0) 1).slotPoll 0).pmbRead 0 (SLOT_V_VIN_MV 0) none none).pmbRead 0 (SLOT_V_VOUT_MV 0) none none).pmbRead 0 (SLOT_I_IOUT_MA 0) none none).pmbRead 0 (SLOT_P_PIN_MW 0) none none).pmbRound 48 ((((((((State.reset.put (SLOT_PMB_EN 0) 1).slotPoll 0).pmbRead 0 (SLOT_V_VIN_MV 0) none none).pmbRead 0 (SLOT_V_VOUT_MV 0) none none).pmbRead 0 (SLOT_I_IOUT_MA 0) none none).pmbRead 0 (SLOT_P_PIN_MW 0) none none).get (SLOT_P_PIN_MW 0) * max 1 (((((((State.reset.put (SLOT_PMB_EN 0) 1).slotPoll 0).pmbRead 0 (SLOT_V_VIN_MV 0) none none).pmbRead 0 (SLOT_V_VOUT_MV 0) none none).pmbRead 0 (SLOT_I_IOUT_MA 0) none none).pmbRead 0 (SLOT_P_PIN_MW 0) none none).get (SLOT_PMB_POLL_MS 0)) : Nat), 1000)).2) : State), ⟨by decide +kernel, by decide +kernel, rfl, by decide +kernel, by decide +kernel⟩⟩⟩

theorem witness_PortCommandsAct :
    (∃ (s : State) (mb : Nat) (c : OpenCmd) (p : Nat) (cfg : Nat) (pcfg : Nat) (tcmap : Nat) (u : State), s.runs mb 0x0201 c ∧ p < 128 ∧ cfg < 32 ∧ portK p % 2 ^ bits cfg 2 2 = 0 ∧ 1 ≤ bits pcfg 1 3 ∧ bits pcfg 16 5 ≤ 29 ∧ s.portFail p (cfg % 4) (bits cfg 2 2) = 0 ∧ s.linkOff p = true ∧ u = ((s.setPortCfg p cfg).wr (R_PORT_TCMAP (portC p) (portK p)) (tcmapStore tcmap)).wr (R_PCFG (portC p) (portK p)) ((pcfg &&& pcfgMask) + ((s.setPortCfg p cfg).wr (R_PORT_TCMAP (portC p) (portK p)) (tcmapStore tcmap)).pget PCFG_EN p) ∧ s.stopped = false) ∧
    (∃ (s : State) (mb : Nat) (c : OpenCmd) (n : Nat) (ctl : Nat) (hostA : Nat) (hostB : Nat) (vs : List (Nat × Nat)) (u : State), s.runs mb 0x0202 c ∧ 1 ≤ n ∧ n < 30 ∧ hostA < 2 ^ 24 ∧ hostB < 2 ^ 25 ∧ (¬ (bit hostB 24 = true ∧ eidNode hostA = eidNode (hostB % 2 ^ 24) ∧ portC (eidPort hostA) = portC (eidPort (hostB % 2 ^ 24)))) ∧ (vs.findIdx? (fun v => decide (64 ≤ v.1 ∨ 2 ^ 24 ≤ v.2)) = none) ∧ vs.length ≤ 64 ∧ u = ((s.wr (R_GLB_HPART_CTL n) (ctl % 4)).wr (R_GLB_HPART_HOST_A n) hostA).wr (R_GLB_HPART_HOST_B n) hostB ∧ s.stopped = false) ∧
    (∃ (s : State) (mb : Nat) (c : OpenCmd) (p : Nat) (ents : List (Nat × Nat)), s.runs mb 0x0203 c ∧ s.isDown p = true ∧ s.shared p = true ∧ (ents.findIdx? (fun e => decide (256 ≤ e.1 ∨ 2 ^ 30 ≤ e.2 ∨ 29 < bits e.2 16 5)) = none) ∧ s.stopped = false) ∧
    (∃ (s : State) (mb : Nat) (c : OpenCmd) (n : Nat) (cfg : Nat) (tim : Nat) (tim2 : Nat) (pmb : Nat), s.runs mb 0x0204 c ∧ n < 64 ∧ cfg < 2 ^ 10 ∧ tim < 2 ^ 32 ∧ tim2 < 2 ^ 32 ∧ pmb < 2 ^ 16 ∧ (bit cfg 7 = false ∨ s.portKind (cfg % 128) = kindDown) ∧ s.stopped = false) ∧
    (∃ (s : State) (mb : Nat) (c : OpenCmd) (n : Nat) (act : Nat), s.runs mb 0x0205 c ∧ n < 64 ∧ act < 3 ∧ s.stopped = false) ∧
    (∃ (s : State) (mb : Nat) (c : OpenCmd) (p : Nat), s.runs mb 0x0206 c ∧ s.isDown p = true ∧ s.stopped = false) ∧
    (∃ (s : State) (mb : Nat) (c : OpenCmd) (p : Nat), s.runs mb 0x0207 c ∧ p < 128 ∧ s.portKind p ≠ 0 ∧ s.stopped = false) :=
  ⟨⟨(cmdS 0 0x0201), (0 : Nat), ((cmd0 0x0201) : OpenCmd), (0 : Nat), (14 : Nat), (15 : Nat), (0 : Nat), (((((cmdS 0 0x0201).setPortCfg 0 14).wr (R_PORT_TCMAP (portC 0) (portK 0)) (tcmapStore 0)).wr (R_PCFG (portC 0) (portK 0)) ((15 &&& pcfgMask) + (((cmdS 0 0x0201).setPortCfg 0 14).wr (R_PORT_TCMAP (portC 0) (portK 0)) (tcmapStore 0)).pget PCFG_EN 0)) : State), ⟨by decide +kernel, by decide +kernel, by decide +kernel, by decide +kernel, by decide +kernel, by decide +kernel, by decide +kernel, by decide +kernel, rfl, by decide +kernel⟩⟩,
   ⟨(cmdS 0 0x0202), (0 : Nat), ((cmd0 0x0202) : OpenCmd), (29 : Nat), (3 : Nat), (5 : Nat), (0 : Nat), (([(63, 7)] : List (Nat × Nat)) : List (Nat × Nat)), (((((cmdS 0 0x0202).wr (R_GLB_HPART_CTL 29) (3 % 4)).wr (R_GLB_HPART_HOST_A 29) 5).wr (R_GLB_HPART_HOST_B 29) 0) : State), ⟨by decide +kernel, by decide +kernel, by decide +kernel, by decide +kernel, by decide +kernel, by decide +kernel, by decide +kernel, by decide +kernel, rfl, by decide +kernel⟩⟩,
   ⟨(sharedS), (0 : Nat), ((cmd0 0x0203) : OpenCmd), (0 : Nat), (([(255, 65536)] : List (Nat × Nat)) : List (Nat × Nat)), by decide +kernel⟩,
   ⟨(cmdS 0 0x0204), (0 : Nat), ((cmd0 0x0204) : OpenCmd), (63 : Nat), (0 : Nat), (5 : Nat), (6 : Nat), (7 : Nat), by decide +kernel⟩,
   ⟨(cmdS 0 0x0205), (0 : Nat), ((cmd0 0x0205) : OpenCmd), (63 : Nat), (2 : Nat), by decide +kernel⟩,
   ⟨({ cmdS 0 0x0206 with regs := downC.regs }), (0 : Nat), ((cmd0 0x0206) : OpenCmd), (0 : Nat), by decide +kernel⟩,
   ⟨(portCmd 0x0207), (0 : Nat), ((cmd0 0x0207) : OpenCmd), (0 : Nat), by decide +kernel⟩⟩

theorem witness_BasinRowsAct :
    (∃ (s : State) (p : Nat) (h : Nat) (rid : Nat) (ptc : Nat) (a : Nat) (pasid : Option Nat) (data : List Word) (x : Tlp) (y : Tlp), s.bellOpen p h = true ∧ x = s.bellMemWr h rid pasid ptc a data ∧ s.faulty p x = none ∧ y = { x with part := h, pasid := x.pasid.filter (· != 0) } ∧ s.tlpWaits p y = false ∧ s.stopped = false) ∧
    (∃ (s : State) (p : Nat) (h : Nat) (rid : Nat) (ptc : Nat) (a : Nat) (pasid : Option Nat) (tail : Word) (x : Tlp) (y : Tlp), s.bellOpen p h = true ∧ x = s.bellMemWr h rid pasid ptc a [tail] ∧ s.faulty p x = none ∧ y = { x with part := h, pasid := x.pasid.filter (· != 0) } ∧ s.tlpWaits p y = false ∧ s.stopped = false) ∧
    (∃ (s : State) (e : Nat) (i : Nat) (p : Pkt) (u : State), e < 12 ∧ s.gives (ktTile e) (fun p => p.kind == kMSG && p.addr % 65536 == 0x0601) p u ∧ i = bits (p.addr / 65536) 12 3 ∧ p.gen = u.get (BSN_CTL_GEN p.basin) ∧ u.on (BIND_CTL_EN p.basin i) = true ∧ u.get (BIND_CTL_ENG p.basin i) = e ∧ u.on (BIND_CTL_RING p.basin i) = true ∧ s.stopped = false) ∧
    (∃ (s : State) (b : Nat) (e : Nat) (u : State), s.bsn.cons.contains b = true ∧ s.basinEng b = some e ∧ u = { s with bsn := { s.bsn with cons := s.bsn.cons.filter (· ≠ b) } } ∧ s.stopped = false) ∧
    (∃ (s : State) (b : Nat) (p : Pkt) (u : State), b < 24 ∧ s.gives (ctTile b) (fun p => p.kind == kMSG && p.addr % 65536 == 0x0602) p u ∧ s.stopped = false) ∧
    (∃ (s : State) (b : Nat) (f : Flush) (u : State), s.flushDone b = some f ∧ s.basinSt b = bRESETTING ∧ u = ((s.zeroCons b).unwait b f).put (BSN_CTL_STATE b) bACTIVE ∧ u.parkedOn (fun w => w == Parked.basin b false) = none ∧ s.stopped = false) ∧
    (∃ (s : State) (b : Nat) (mb : Nat) (f : Flush) (u : State), s.flushDone b = some f ∧ s.basinSt b = bRESETTING ∧ u = ((s.zeroCons b).unwait b f).put (BSN_CTL_STATE b) bACTIVE ∧ u.parkedOn (fun w => w == Parked.basin b false) = some mb ∧ s.stopped = false) ∧
    (∃ (s : State) (b : Nat) (f : Flush) (u : State), s.flushDone b = some f ∧ s.basinSt b = bDESTROYING ∧ u = ((s.zeroCons b).unwait b f).basinRelease b ∧ u.parkedOn (fun w => w == Parked.basin b true) = none ∧ s.stopped = false) ∧
    (∃ (s : State) (b : Nat) (mb : Nat) (f : Flush) (u : State), s.flushDone b = some f ∧ s.basinSt b = bDESTROYING ∧ u = ((s.zeroCons b).unwait b f).basinRelease b ∧ u.parkedOn (fun w => w == Parked.basin b true) = some mb ∧ s.stopped = false) :=
  ⟨⟨(bellS), (0 : Nat), (1 : Nat), (0 : Nat), (0 : Nat), (4096 : Nat), (none : Option Nat), (List.replicate 16 0 : List Word), ((bellS.bellMemWr 1 0 none 0 4096 (List.replicate 16 0)) : Tlp), ({ (bellS.bellMemWr 1 0 none 0 4096 (List.replicate 16 0)) with part := 1 } : Tlp), by decide +kernel⟩,
   ⟨(ringS), (0 : Nat), (1 : Nat), (0 : Nat), (0 : Nat), (6144 : Nat), (none : Option Nat), (3 : Word), ((ringS.bellMemWr 1 0 none 0 6144 [3]) : Tlp), ({ (ringS.bellMemWr 1 0 none 0 6144 [3]) with part := 1 } : Tlp), by decide +kernel⟩,
   ⟨(ringMsgS), (0 : Nat), (0 : Nat), ({ pktOf kMSG 0 with addr := 0x10601, basin := 1 } : Pkt), (((State.takeArrived (ringMsgS) ((ktTile 0)) (fun p => p.kind == kMSG && p.addr % 65536 == 0x0601)).2) : State), by decide +kernel⟩,
   ⟨({ State.reset.put (BIND_CTL_EN 1 0) 1 with bsn := { cons := [1] } }), (1 : Nat), (0 : Nat), (({ ({ State.reset.put (BIND_CTL_EN 1 0) 1 with bsn := { cons := [1] } }) with bsn := { ({ State.reset.put (BIND_CTL_EN 1 0) 1 with bsn := { cons := [1] } }).bsn with cons := ({ State.reset.put (BIND_CTL_EN 1 0) 1 with bsn := { cons := [1] } }).bsn.cons.filter (· ≠ 1) } }) : State), by decide +kernel⟩,
   ⟨(arrS (ctTile 0) { pktOf kMSG 0 with addr := 0x0602 }), (0 : Nat), ({ pktOf kMSG 0 with addr := 0x0602 } : Pkt), (((State.takeArrived (arrS (ctTile 0) { pktOf kMSG 0 with addr := 0x0602 }) ((ctTile 0)) (fun p => p.kind == kMSG && p.addr % 65536 == 0x0602)).2) : State), by decide +kernel⟩,
   ⟨(resetS), (1 : Nat), (⟨0, 0, .ok⟩ : Flush), (((((resetS).zeroCons 1).unwait 1 (⟨0, 0, .ok⟩ : Flush)).put (BSN_CTL_STATE 1) bACTIVE) : State), ⟨by decide +kernel, by decide +kernel, rfl, by decide +kernel, by decide +kernel⟩⟩,
   ⟨({ resetS with wh := { resetS.wh with cmds := [(0, { cmd0 0x0602 with wait := some (.basin 1 false) })] } }), (1 : Nat), (0 : Nat), (⟨0, 0, .ok⟩ : Flush), ((((({ resetS with wh := { resetS.wh with cmds := [(0, { cmd0 0x0602 with wait := some (.basin 1 false) })] } }).zeroCons 1).unwait 1 (⟨0, 0, .ok⟩ : Flush)).put (BSN_CTL_STATE 1) bACTIVE) : State), ⟨by decide +kernel, by decide +kernel, rfl, by decide +kernel, by decide +kernel⟩⟩,
   ⟨(resetS.put (BSN_CTL_STATE 1) bDESTROYING), (1 : Nat), (⟨0, 0, .ok⟩ : Flush), (((((resetS.put (BSN_CTL_STATE 1) bDESTROYING).zeroCons 1).unwait 1 (⟨0, 0, .ok⟩ : Flush)).basinRelease 1) : State), ⟨by decide +kernel, by decide +kernel, rfl, by decide +kernel, by decide +kernel⟩⟩,
   ⟨(({ resetS with wh := { resetS.wh with cmds := [(0, { cmd0 0x0603 with wait := some (.basin 1 true) })] } } : State).put (BSN_CTL_STATE 1) bDESTROYING), (1 : Nat), (0 : Nat), (⟨0, 0, .ok⟩ : Flush), (((((({ resetS with wh := { resetS.wh with cmds := [(0, { cmd0 0x0603 with wait := some (.basin 1 true) })] } } : State).put (BSN_CTL_STATE 1) bDESTROYING).zeroCons 1).unwait 1 (⟨0, 0, .ok⟩ : Flush)).basinRelease 1) : State), ⟨by decide +kernel, by decide +kernel, rfl, by decide +kernel, by decide +kernel⟩⟩⟩

theorem witness_BasinCommandsAct :
    (∃ (s : State) (mb : Nat) (c : OpenCmd) (b : Nat) (h : Nat) (pasid : Nat) (qbase : Nat) (qsize : Nat) (cons : Nat) (binds : List (Nat × Nat)) (vecs : List (Nat × Nat)), s.runs mb 0x0601 c ∧ b < 1024 ∧ s.basinBusy b = false ∧ s.createFail c b h pasid qbase qsize cons binds vecs = 0 ∧ s.stopped = false) ∧
    (∃ (s : State) (mb : Nat) (c : OpenCmd) (b : Nat), s.runs mb 0x0602 c ∧ b < 1024 ∧ s.basinIssuer c = true ∧ s.basinSt b = bACTIVE ∧ s.basinBusy b = false ∧ b ≠ 0 ∧ s.stopped = false) ∧
    (∃ (s : State) (mb : Nat) (c : OpenCmd) (b : Nat), s.runs mb 0x0603 c ∧ b < 1024 ∧ s.basinIssuer c = true ∧ s.basinSt b = bACTIVE ∧ s.basinBusy b = false ∧ b ≠ 0 ∧ s.stopped = false) ∧
    (∃ (s : State) (mb : Nat) (c : OpenCmd) (b : Nat) (ents : List (Nat × Nat × Nat × Bool)), s.runs mb 0x0604 c ∧ b < 1024 ∧ s.basinIssuer c = true ∧ s.basinSt b = bACTIVE ∧ s.basinBusy b = false ∧ s.bsn.map = [] ∧ ents.length ≤ 2048 ∧ ents.all (fun e => e.1 != 0 && decide (e.1 ≤ 29) && decide (e.2.1 < 65536) && decide (e.2.2.1 < 2 ^ 20)) = true ∧ (ents.map (fun e => (e.1, e.2.1, if e.2.2.2 then 0 else e.2.2.1, e.2.2.2))).Nodup ∧ s.stopped = false) ∧
    (∃ (s : State) (mb : Nat) (c : OpenCmd) (b : Nat) (ents : List (Nat × Nat × Nat × Bool)), s.runs mb 0x0605 c ∧ b < 1024 ∧ s.basinIssuer c = true ∧ s.basinSt b = bACTIVE ∧ s.basinBusy b = false ∧ ents.findIdx? (fun e => !s.bsn.map.any (fun m => m.basin == b && m.hpart == e.1 && m.rid == e.2.1 && m.any == e.2.2.2 && (m.any || m.pasid == e.2.2.1))) = none ∧ s.stopped = false) ∧
    (∃ (s : State) (mb : Nat) (c : OpenCmd) (b : Nat) (_ : Nat) (_ : Nat) (_ : Nat) (_ : Nat) (en : Bool), s.runs mb 0x0606 c ∧ b < 1024 ∧ s.basinIssuer c = true ∧ s.basinSt b = bACTIVE ∧ s.basinBusy b = false ∧ s.on (LOG_EN b) = true ∧ en = false ∧ s.stopped = false) ∧
    (∃ (s : State) (mb : Nat) (c : OpenCmd) (b : Nat) (base : Nat) (size : Nat) (buf0 : Nat) (buf1 : Nat) (_ : Bool), s.runs mb 0x0606 c ∧ b < 1024 ∧ s.basinIssuer c = true ∧ s.basinSt b = bACTIVE ∧ s.basinBusy b = false ∧ s.on (LOG_EN b) = false ∧ b ≠ 0 ∧ 24 ≤ size ∧ size ≤ 37 ∧ base % 2 ^ size = 0 ∧ base < 2 ^ 64 ∧ s.logBufOk b buf0 (2 ^ (size - 15)) = true ∧ s.logBufOk b buf1 (2 ^ (size - 15)) = true ∧ rangesMeet buf0 (2 ^ (size - 15)) buf1 (2 ^ (size - 15)) = false ∧ s.stopped = false) ∧
    (∃ (s : State) (mb : Nat) (c : OpenCmd) (b : Nat) (id : Nat) (engs : List Nat) (u : State) (v : State) (w : State), s.runs mb 0x0607 c ∧ b < 1024 ∧ s.basinSt b = bACTIVE ∧ s.basinBusy b = false ∧ s.hasLog b = true ∧ u = (s.cisZero (s.logBuf b (1 - s.get (LOG_CUR b))) (s.logBytes b)).put (LOG_CUR b) (1 - (s.cisZero (s.logBuf b (1 - s.get (LOG_CUR b))) (s.logBytes b)).get (LOG_CUR b)) ∧ engs = (u.bsn.marked.filter (fun (m : Nat × Nat) => m.1 == b)).map (fun (m : Nat × Nat) => m.2) ∧ v = { u with bsn := { u.bsn with marked := u.bsn.marked.filter (fun m => m.1 != b), cache := u.bsn.cache.filter (fun c => c.2.1 != b) } } ∧ v.engFlush engs.dedup ((u.bsn.flows.filter (fun (f : Nat × Nat × Nat × Nat) => f.1 == b && engs.contains f.2.1)).map (fun (f : Nat × Nat × Nat × Nat) => u.engFlow f.2.1 f.2.2.1 f.2.2.2)) = (id, w) ∧ s.stopped = false) ∧
    (∃ (s : State) (mb : Nat) (c : OpenCmd) (b : Nat), s.runs mb 0x0608 c ∧ b < 1024 ∧ s.basinSt b = bACTIVE ∧ s.basinBusy b = false ∧ s.stopped = false) :=
  ⟨⟨(basinNew), (0 : Nat), ((cmd1 0x0601) : OpenCmd), (1 : Nat), (1 : Nat), (5 : Nat), (0 : Nat), (0 : Nat), (0 : Nat), (([] : List (Nat × Nat)) : List (Nat × Nat)), (([] : List (Nat × Nat)) : List (Nat × Nat)), by decide +kernel⟩,
   ⟨(basinCmdS 0x0602), (0 : Nat), ((cmd1 0x0602) : OpenCmd), (1 : Nat), by decide +kernel⟩,
   ⟨(basinCmdS 0x0603), (0 : Nat), ((cmd1 0x0603) : OpenCmd), (1 : Nat), by decide +kernel⟩,
   ⟨(basinCmdS 0x0604), (0 : Nat), ((cmd1 0x0604) : OpenCmd), (1 : Nat), (([(29, 65535, 7, false), (29, 65535, 7, true)] : List (Nat × Nat × Nat × Bool)) : List (Nat × Nat × Nat × Bool)), by decide +kernel⟩,
   ⟨({ basinCmdS 0x0605 with bsn := { map := [⟨1, 2, 3, false, 1⟩] } }), (0 : Nat), ((cmd1 0x0605) : OpenCmd), (1 : Nat), (([(1, 2, 3, false)] : List (Nat × Nat × Nat × Bool)) : List (Nat × Nat × Nat × Bool)), by decide +kernel⟩,
   ⟨((basinCmdS 0x0606).put (LOG_EN 1) 1), (0 : Nat), ((cmd1 0x0606) : OpenCmd), (1 : Nat), (0 : Nat), (0 : Nat), (0 : Nat), (0 : Nat), (false : Bool), by decide +kernel⟩,
   ⟨(logS 0x0606), (0 : Nat), ((cmd1 0x0606) : OpenCmd), (1 : Nat), (0 : Nat), (24 : Nat), (0x10000 : Nat), (0x10200 : Nat), (true : Bool), by decide +kernel⟩,
   ⟨((logS 0x0607).wr (R_LOG_BUF0 1) 0x10000), (0 : Nat), ((cmd1 0x0607) : OpenCmd), (1 : Nat), (0 : Nat), ([] : List Nat), (((((logS 0x0607).wr (R_LOG_BUF0 1) 0x10000).cisZero (((logS 0x0607).wr (R_LOG_BUF0 1) 0x10000).logBuf 1 (1 - ((logS 0x0607).wr (R_LOG_BUF0 1) 0x10000).get (LOG_CUR 1))) (((logS 0x0607).wr (R_LOG_BUF0 1) 0x10000).logBytes 1)).put (LOG_CUR 1) (1 - (((logS 0x0607).wr (R_LOG_BUF0 1) 0x10000).cisZero (((logS 0x0607).wr (R_LOG_BUF0 1) 0x10000).logBuf 1 (1 - ((logS 0x0607).wr (R_LOG_BUF0 1) 0x10000).get (LOG_CUR 1))) (((logS 0x0607).wr (R_LOG_BUF0 1) 0x10000).logBytes 1)).get (LOG_CUR 1))) : State), (({ ((((logS 0x0607).wr (R_LOG_BUF0 1) 0x10000).cisZero (((logS 0x0607).wr (R_LOG_BUF0 1) 0x10000).logBuf 1 (1 - ((logS 0x0607).wr (R_LOG_BUF0 1) 0x10000).get (LOG_CUR 1))) (((logS 0x0607).wr (R_LOG_BUF0 1) 0x10000).logBytes 1)).put (LOG_CUR 1) (1 - (((logS 0x0607).wr (R_LOG_BUF0 1) 0x10000).cisZero (((logS 0x0607).wr (R_LOG_BUF0 1) 0x10000).logBuf 1 (1 - ((logS 0x0607).wr (R_LOG_BUF0 1) 0x10000).get (LOG_CUR 1))) (((logS 0x0607).wr (R_LOG_BUF0 1) 0x10000).logBytes 1)).get (LOG_CUR 1))) with bsn := { ((((logS 0x0607).wr (R_LOG_BUF0 1) 0x10000).cisZero (((logS 0x0607).wr (R_LOG_BUF0 1) 0x10000).logBuf 1 (1 - ((logS 0x0607).wr (R_LOG_BUF0 1) 0x10000).get (LOG_CUR 1))) (((logS 0x0607).wr (R_LOG_BUF0 1) 0x10000).logBytes 1)).put (LOG_CUR 1) (1 - (((logS 0x0607).wr (R_LOG_BUF0 1) 0x10000).cisZero (((logS 0x0607).wr (R_LOG_BUF0 1) 0x10000).logBuf 1 (1 - ((logS 0x0607).wr (R_LOG_BUF0 1) 0x10000).get (LOG_CUR 1))) (((logS 0x0607).wr (R_LOG_BUF0 1) 0x10000).logBytes 1)).get (LOG_CUR 1))).bsn with marked := ((((logS 0x0607).wr (R_LOG_BUF0 1) 0x10000).cisZero (((logS 0x0607).wr (R_LOG_BUF0 1) 0x10000).logBuf 1 (1 - ((logS 0x0607).wr (R_LOG_BUF0 1) 0x10000).get (LOG_CUR 1))) (((logS 0x0607).wr (R_LOG_BUF0 1) 0x10000).logBytes 1)).put (LOG_CUR 1) (1 - (((logS 0x0607).wr (R_LOG_BUF0 1) 0x10000).cisZero (((logS 0x0607).wr (R_LOG_BUF0 1) 0x10000).logBuf 1 (1 - ((logS 0x0607).wr (R_LOG_BUF0 1) 0x10000).get (LOG_CUR 1))) (((logS 0x0607).wr (R_LOG_BUF0 1) 0x10000).logBytes 1)).get (LOG_CUR 1))).bsn.marked.filter (fun m => m.1 != 1), cache := ((((logS 0x0607).wr (R_LOG_BUF0 1) 0x10000).cisZero (((logS 0x0607).wr (R_LOG_BUF0 1) 0x10000).logBuf 1 (1 - ((logS 0x0607).wr (R_LOG_BUF0 1) 0x10000).get (LOG_CUR 1))) (((logS 0x0607).wr (R_LOG_BUF0 1) 0x10000).logBytes 1)).put (LOG_CUR 1) (1 - (((logS 0x0607).wr (R_LOG_BUF0 1) 0x10000).cisZero (((logS 0x0607).wr (R_LOG_BUF0 1) 0x10000).logBuf 1 (1 - ((logS 0x0607).wr (R_LOG_BUF0 1) 0x10000).get (LOG_CUR 1))) (((logS 0x0607).wr (R_LOG_BUF0 1) 0x10000).logBytes 1)).get (LOG_CUR 1))).bsn.cache.filter (fun c => c.2.1 != 1) } }) : State), (((({ ((((logS 0x0607).wr (R_LOG_BUF0 1) 0x10000).cisZero (((logS 0x0607).wr (R_LOG_BUF0 1) 0x10000).logBuf 1 (1 - ((logS 0x0607).wr (R_LOG_BUF0 1) 0x10000).get (LOG_CUR 1))) (((logS 0x0607).wr (R_LOG_BUF0 1) 0x10000).logBytes 1)).put (LOG_CUR 1) (1 - (((logS 0x0607).wr (R_LOG_BUF0 1) 0x10000).cisZero (((logS 0x0607).wr (R_LOG_BUF0 1) 0x10000).logBuf 1 (1 - ((logS 0x0607).wr (R_LOG_BUF0 1) 0x10000).get (LOG_CUR 1))) (((logS 0x0607).wr (R_LOG_BUF0 1) 0x10000).logBytes 1)).get (LOG_CUR 1))) with bsn := { ((((logS 0x0607).wr (R_LOG_BUF0 1) 0x10000).cisZero (((logS 0x0607).wr (R_LOG_BUF0 1) 0x10000).logBuf 1 (1 - ((logS 0x0607).wr (R_LOG_BUF0 1) 0x10000).get (LOG_CUR 1))) (((logS 0x0607).wr (R_LOG_BUF0 1) 0x10000).logBytes 1)).put (LOG_CUR 1) (1 - (((logS 0x0607).wr (R_LOG_BUF0 1) 0x10000).cisZero (((logS 0x0607).wr (R_LOG_BUF0 1) 0x10000).logBuf 1 (1 - ((logS 0x0607).wr (R_LOG_BUF0 1) 0x10000).get (LOG_CUR 1))) (((logS 0x0607).wr (R_LOG_BUF0 1) 0x10000).logBytes 1)).get (LOG_CUR 1))).bsn with marked := ((((logS 0x0607).wr (R_LOG_BUF0 1) 0x10000).cisZero (((logS 0x0607).wr (R_LOG_BUF0 1) 0x10000).logBuf 1 (1 - ((logS 0x0607).wr (R_LOG_BUF0 1) 0x10000).get (LOG_CUR 1))) (((logS 0x0607).wr (R_LOG_BUF0 1) 0x10000).logBytes 1)).put (LOG_CUR 1) (1 - (((logS 0x0607).wr (R_LOG_BUF0 1) 0x10000).cisZero (((logS 0x0607).wr (R_LOG_BUF0 1) 0x10000).logBuf 1 (1 - ((logS 0x0607).wr (R_LOG_BUF0 1) 0x10000).get (LOG_CUR 1))) (((logS 0x0607).wr (R_LOG_BUF0 1) 0x10000).logBytes 1)).get (LOG_CUR 1))).bsn.marked.filter (fun m => m.1 != 1), cache := ((((logS 0x0607).wr (R_LOG_BUF0 1) 0x10000).cisZero (((logS 0x0607).wr (R_LOG_BUF0 1) 0x10000).logBuf 1 (1 - ((logS 0x0607).wr (R_LOG_BUF0 1) 0x10000).get (LOG_CUR 1))) (((logS 0x0607).wr (R_LOG_BUF0 1) 0x10000).logBytes 1)).put (LOG_CUR 1) (1 - (((logS 0x0607).wr (R_LOG_BUF0 1) 0x10000).cisZero (((logS 0x0607).wr (R_LOG_BUF0 1) 0x10000).logBuf 1 (1 - ((logS 0x0607).wr (R_LOG_BUF0 1) 0x10000).get (LOG_CUR 1))) (((logS 0x0607).wr (R_LOG_BUF0 1) 0x10000).logBytes 1)).get (LOG_CUR 1))).bsn.cache.filter (fun c => c.2.1 != 1) } }).engFlush ([] : List Nat).dedup ((((((logS 0x0607).wr (R_LOG_BUF0 1) 0x10000).cisZero (((logS 0x0607).wr (R_LOG_BUF0 1) 0x10000).logBuf 1 (1 - ((logS 0x0607).wr (R_LOG_BUF0 1) 0x10000).get (LOG_CUR 1))) (((logS 0x0607).wr (R_LOG_BUF0 1) 0x10000).logBytes 1)).put (LOG_CUR 1) (1 - (((logS 0x0607).wr (R_LOG_BUF0 1) 0x10000).cisZero (((logS 0x0607).wr (R_LOG_BUF0 1) 0x10000).logBuf 1 (1 - ((logS 0x0607).wr (R_LOG_BUF0 1) 0x10000).get (LOG_CUR 1))) (((logS 0x0607).wr (R_LOG_BUF0 1) 0x10000).logBytes 1)).get (LOG_CUR 1))).bsn.flows.filter (fun (f : Nat × Nat × Nat × Nat) => f.1 == 1 && ([] : List Nat).contains f.2.1)).map (fun (f : Nat × Nat × Nat × Nat) => ((((logS 0x0607).wr (R_LOG_BUF0 1) 0x10000).cisZero (((logS 0x0607).wr (R_LOG_BUF0 1) 0x10000).logBuf 1 (1 - ((logS 0x0607).wr (R_LOG_BUF0 1) 0x10000).get (LOG_CUR 1))) (((logS 0x0607).wr (R_LOG_BUF0 1) 0x10000).logBytes 1)).put (LOG_CUR 1) (1 - (((logS 0x0607).wr (R_LOG_BUF0 1) 0x10000).cisZero (((logS 0x0607).wr (R_LOG_BUF0 1) 0x10000).logBuf 1 (1 - ((logS 0x0607).wr (R_LOG_BUF0 1) 0x10000).get (LOG_CUR 1))) (((logS 0x0607).wr (R_LOG_BUF0 1) 0x10000).logBytes 1)).get (LOG_CUR 1))).engFlow f.2.1 f.2.2.1 f.2.2.2))).2) : State), ⟨by decide +kernel, by decide +kernel, by decide +kernel, by decide +kernel, by decide +kernel, rfl, by decide +kernel, by decide +kernel, by decide +kernel, by decide +kernel⟩⟩,
   ⟨(basinCmdS 0x0608), (0 : Nat), ((cmd1 0x0608) : OpenCmd), (1 : Nat), by decide +kernel⟩⟩

theorem witness_GuardRowsAct :
    (∃ (s : State) (mb : Nat) (c : OpenCmd) (n : Nat) (ctl : Nat) (rgns : List RgnArg), s.runs mb 0x0901 c ∧ n < 30 ∧ ctl < 16 ∧ (rgns.findIdx? (fun x => decide (16 ≤ x.1 ∨ 2 ^ 64 ≤ x.2.1 ∨ 2 ^ 14 ≤ x.2.2)) = none) ∧ s.guardLocked n = false ∧ (rgnsFail rgns).1 = 0 ∧ s.stopped = false) ∧
    (∃ (s : State) (mb : Nat) (c : OpenCmd) (mask : Nat) (_ : Nat), s.runs mb 0x0902 c ∧ mask < 2 ^ 30 ∧ bit c.flags 0 = false ∧ ((List.range 30).filter (bit mask)).find? (fun n => s.guardLocked n) = none ∧ ((List.range 30).filter (bit mask)).find? (fun n => !s.on (GD_FENCE_DONE n)) = none ∧ s.stopped = false) ∧
    (∃ (s : State) (mb : Nat) (c : OpenCmd) (mask : Nat) (limit : Nat), s.runs mb 0x0902 c ∧ mask < 2 ^ 30 ∧ bit c.flags 0 = true ∧ 1 ≤ limit ∧ limit ≤ 1000000 ∧ ((List.range 30).filter (bit mask)).find? (fun n => s.guardLocked n) = none ∧ ((List.range 30).filter (bit mask)).find? (fun n => !s.on (GD_FENCE_DONE n)) = none ∧ s.stopped = false) ∧
    (∃ (s : State) (mb : Nat) (c : OpenCmd) (n : Nat) (body : List Nat), s.runs mb 0x0903 c ∧ n < 30 ∧ body = [s.rd (R_GD_STAT n), s.rd (R_GD_FENCE n), s.rd (R_GD_FIRST0 n), s.rd (R_GD_FIRST1 n), s.rd (R_GD_FIRST2 n), s.rd (R_GD_FIRST3 n), s.rd (R_GD_FIRST4 n)] ++ s.ctr2 (C_GD_VIOL n) ++ s.ctr2 (C_GD_SPLIT n) ∧ s.stopped = false) ∧
    (∃ (s : State) (mb : Nat) (c : OpenCmd) (v : Nat), s.runs mb 0x0904 c ∧ v < 2 ^ 32 ∧ s.stopped = false) ∧
    (∃ (s : State) (mb : Nat) (c : OpenCmd), s.runs mb 0x0905 c ∧ s.stopped = false) ∧
    (∃ (s : State) (mb : Nat) (mask : Nat) (c : OpenCmd), s.openCmd mb = some c ∧ c.wait = some (.guardSwap mask) ∧ s.stopped = false) :=
  ⟨⟨(cmdS 0 0x0901), (0 : Nat), ((cmd0 0x0901) : OpenCmd), (29 : Nat), (15 : Nat), ([] : List RgnArg), by decide +kernel⟩,
   ⟨(cmdS 0 0x0902), (0 : Nat), ((cmd0 0x0902) : OpenCmd), (2 ^ 29 : Nat), (0 : Nat), by decide +kernel⟩,
   ⟨(cmdF 0 0x0902), (0 : Nat), (({ cmd0 0x0902 with flags := 1 }) : OpenCmd), (2 ^ 29 : Nat), (1000000 : Nat), by decide +kernel⟩,
   ⟨(cmdS 0 0x0903), (0 : Nat), ((cmd0 0x0903) : OpenCmd), (29 : Nat), ([State.reset.rd (R_GD_STAT 29), State.reset.rd (R_GD_FENCE 29), 0, 0, 0, 0, 0, 0, 0, 0, 0] : List Nat), by decide +kernel⟩,
   ⟨(cmdS 0 0x0904), (0 : Nat), ((cmd0 0x0904) : OpenCmd), (127 : Nat), by decide +kernel⟩,
   ⟨(cmdS 0 0x0905), (0 : Nat), ((cmd0 0x0905) : OpenCmd), by decide +kernel⟩,
   ⟨({ State.reset with wh := { State.reset.wh with cmds := [(1, { cmd0 0x0902 with wait := some (.guardSwap 1) })] } }), (1 : Nat), (1 : Nat), ({ cmd0 0x0902 with wait := some (.guardSwap 1) } : OpenCmd), by decide +kernel⟩⟩

theorem witness_DomainRowsAct :
    (∃ (s : State) (d : Nat) (u : State), d < 62 ∧ u = (s.fullPlanes).syncVotes d ∧ u.pw.full ≠ 1 ∧ u.dom d = dON ∧ u.votes d = 0 ∧ u.targetOf d ≠ tgON ∧ u.pw.lost.contains d = false ∧ u.bankBack d = false ∧ u.shedBank d = false ∧ u.refuser d = 0 ∧ s.stopped = false) ∧
    (∃ (s : State) (d : Nat) (u : State), d < 62 ∧ u = (s.fullPlanes).syncVotes d ∧ u.pw.full ≠ 1 ∧ u.dom d = dON ∧ u.votes d = 0 ∧ u.targetOf d ≠ tgON ∧ u.pw.lost.contains d = false ∧ u.bankBack d = false ∧ u.shedBank d = false ∧ u.refuser d = 0 ∧ s.stopped = false) ∧
    (∃ (s : State) (d : Nat), d < 62 ∧ s.dom d = dCLOSING ∧ (s.syncVotes d).dom d = dCLOSING ∧ s.stopped = false) ∧
    (∃ (s : State) (d : Nat), d < 62 ∧ s.dom d = dDRAINING ∧ (s.syncVotes d).dom d = dDRAINING ∧ (s.syncVotes d).drained d = true ∧ s.stopped = false) ∧
    (∃ (s : State) (d : Nat), d < 62 ∧ s.dom d = dDRAINING ∧ s.bankBack d = false ∧ s.stopped = false) ∧
    (∃ (s : State) (d : Nat) (u : State) (v : State), d < 62 ∧ s.dom d = dISOLATED ∧ u = s.syncVotes d ∧ u.dom d = dISOLATED ∧ u.bankBack d = false ∧ v = { u with pw := { u.pw with saved := u.pw.saved ++ [d] } } ∧ s.stopped = false) ∧
    (∃ (s : State) (d : Nat), d < 62 ∧ s.dom d = dRETAINED ∧ s.targetOf d = tgOFF ∧ s.stopped = false) ∧
    (∃ (s : State) (d : Nat) (u : State), d < 62 ∧ s.bankBack d = false ∧ u = s.syncVotes d ∧ u.asleep d = true ∧ u.pw.full = 0 ∧ u.pw.halted = false ∧ u.pw.lost.contains d = false ∧ u.pw.shed.contains d = false ∧ u.shedBank d = false ∧ (u.votes d ≠ 0 ∨ u.on (PW_DOM_VOTE_EDGE d) = true) ∧ s.stopped = false) ∧
    (∃ (s : State) (d : Nat) (u : State), d < 62 ∧ u = s.syncVotes d ∧ u.dom d = s.dom d ∧ u.votes d ≠ 0 ∧ (s.dom d = dCLOSING ∨ s.dom d = dDRAINING ∨ s.dom d = dISOLATED) ∧ s.stopped = false) ∧
    (∃ (s : State) (d : Nat), d < 60 ∧ s.dom d = dWAKING ∧ s.pw.lost.contains d = false ∧ s.bankBack d = false ∧ s.stopped = false) ∧
    (∃ (s : State) (d : Nat) (u : State), d = 60 ∧ s.dom d = dWAKING ∧ s.pw.lost.contains d = false ∧ s.bankBack d = false ∧ u = s.domUp d ∧ u.wh.whLost = false ∧ s.stopped = false) ∧
    (∃ (s : State) (d : Nat), d < 62 ∧ s.on (PW_DOM_VOTE_ACCESS d) = true ∧ s.stopped = false) ∧
    (∃ (s : State) (d : Nat), d < 62 ∧ s.dom d = dON ∧ s.pw.lost.contains d = false) ∧
    (∃ (s : State), s.dom domCore = dON ∧ s.pw.lost.contains domCore = false) ∧
    (∃ (s : State) (d : Nat), d < 63 ∧ s.dom d = dWAKING ∧ s.pw.lost.contains d = false) ∧
    (∃ (s : State) (d : Nat) (u : State), d < 62 ∧ u = (s.fullPlanes).syncVotes d ∧ u.dom d = dON ∧ u.pw.lost.contains d = false ∧ u.bankBack d = false ∧ u.shedBank d = true ∧ s.stopped = false) ∧
    (∃ (s : State) (d : Nat), d < 62 ∧ s.dom d = dCLOSING ∧ (s.syncVotes d).dom d ≠ dCLOSING ∧ s.stopped = false) :=
  ⟨⟨(idleDom dON), (16 : Nat), ((((idleDom dON).fullPlanes).syncVotes 16) : State), ⟨by decide +kernel, rfl, by decide +kernel, by decide +kernel, by decide +kernel, by decide +kernel, by decide +kernel, by decide +kernel, by decide +kernel, by decide +kernel, by decide +kernel⟩⟩,
   ⟨(idleDom dON), (16 : Nat), ((((idleDom dON).fullPlanes).syncVotes 16) : State), ⟨by decide +kernel, rfl, by decide +kernel, by decide +kernel, by decide +kernel, by decide +kernel, by decide +kernel, by decide +kernel, by decide +kernel, by decide +kernel, by decide +kernel⟩⟩,
   ⟨(idleDom dCLOSING), (16 : Nat), by decide +kernel⟩,
   ⟨(idleDom dDRAINING), (16 : Nat), by decide +kernel⟩,
   ⟨(idleDom dDRAINING), (16 : Nat), by decide +kernel⟩,
   ⟨(idleDom dISOLATED), (16 : Nat), (((idleDom dISOLATED).syncVotes 16) : State), (({ ((idleDom dISOLATED).syncVotes 16) with pw := { ((idleDom dISOLATED).syncVotes 16).pw with saved := ((idleDom dISOLATED).syncVotes 16).pw.saved ++ [16] } }) : State), ⟨by decide +kernel, by decide +kernel, rfl, by decide +kernel, by decide +kernel, by decide +kernel, by decide +kernel⟩⟩,
   ⟨((idleDom dRETAINED).put (PW_DOM_CFG_TARGET 16) tgOFF), (16 : Nat), by decide +kernel⟩,
   ⟨((idleDom dRETAINED).put (PW_DOM_VOTE_EDGE 16) 1), (16 : Nat), ((((idleDom dRETAINED).put (PW_DOM_VOTE_EDGE 16) 1).syncVotes 16) : State), ⟨by decide +kernel, by decide +kernel, rfl, by decide +kernel, by decide +kernel, by decide +kernel, by decide +kernel, by decide +kernel, by decide +kernel, by decide +kernel, by decide +kernel⟩⟩,
   ⟨(abortS), (16 : Nat), (((abortS).syncVotes 16) : State), ⟨by decide +kernel, rfl, by decide +kernel, by decide +kernel, by decide +kernel, by decide +kernel⟩⟩,
   ⟨(idleDom dWAKING), (16 : Nat), by decide +kernel⟩,
   ⟨(State.reset.setDom 60 dWAKING), (60 : Nat), (((State.reset.setDom 60 dWAKING).domUp 60) : State), ⟨by decide +kernel, by decide +kernel, by decide +kernel, by decide +kernel, rfl, by decide +kernel, by decide +kernel⟩⟩,
   ⟨(State.reset.put (PW_DOM_VOTE_ACCESS 16) 1), (16 : Nat), by decide +kernel⟩,
   ⟨(idleDom dON), (16 : Nat), by decide +kernel⟩,
   ⟨(State.reset), by decide +kernel⟩,
   ⟨(idleDom dWAKING), (16 : Nat), by decide +kernel⟩,
   ⟨((idleDom dON).put PW_STAT_SAG 2), (16 : Nat), (((((idleDom dON).put PW_STAT_SAG 2).fullPlanes).syncVotes 16) : State), ⟨by decide +kernel, rfl, by decide +kernel, by decide +kernel, by decide +kernel, by decide +kernel, by decide +kernel⟩⟩,
   ⟨(depS), (61 : Nat), by decide +kernel⟩⟩

theorem witness_PowerRowsAct :
    (∃ (s : State) (n : Nat) (u : State) (v : State), s.pw.chg = none ∧ s.pw.halted = false ∧ s.pw.full ≠ 2 ∧ n = s.wantPl ∧ s.get PW_STAT_PL_CUR < n ∧ u = ({ s with pw := { s.pw with chg := some (n, false) } }).put PW_STAT_CHANGING 1 ∧ v = u.switchClocks n ∧ s.stopped = false) ∧
    (∃ (s : State) (n : Nat) (u : State), s.pw.chg = none ∧ s.pw.halted = false ∧ s.pw.full ≠ 2 ∧ n = s.wantPl ∧ n < s.get PW_STAT_PL_CUR ∧ u = ({ s with pw := { s.pw with chg := some (n, true) } }).put PW_STAT_CHANGING 1 ∧ s.stopped = false) ∧
    (∃ (s : State), s.pw.chg = none ∧ s.on PW_VID_ACK = false) ∧
    (∃ (s : State) (n : Nat) (fast : Bool), s.pw.chg = some (n, fast)) ∧
    (∃ (s : State) (x : Nat × Bool), s.pw.chg = some x) ∧
    (∃ (s : State), s.pw.full = 1 ∧ s.pw.halted = false) ∧
    (∃ (s : State) (u : State), s.pw.full = 2 ∧ s.pw.halted = false ∧ u = ((({ s with pw := { s.pw with full := 0 } }).setDom domCore dON).put PW_CLK_STAT_ON_FIO 63).put PW_STAT_ON_FIO 1) ∧
    (∃ (s : State) (_ : Nat), s.tm.tclk = false ∧ s.pw.halted = false ∧ s.tm.entryAt.isSome = true) ∧
    (∃ (s : State) (i : Nat) (b : Nat) (_ : Nat) (u : State), i ≠ clkTCLK ∧ fioBit i = some b ∧ bit (s.get PW_CLK_STAT_ON_FIO) b = true ∧ u = s.setFio b false ∧ u.pw.exit.contains i = false) ∧
    (∃ (s : State) (i : Nat) (b : Nat), fioBit i = some b ∧ bit (s.get PW_CLK_STAT_ON_FIO) b = false) ∧
    (∃ (s : State), s.tm.tclk = true) ∧
    (∃ (s : State), s.get PW_STAT_SAG = 0 ∧ s.stopped = false) ∧
    (∃ (s : State), s.get PW_STAT_SAG < 2 ∧ s.stopped = false) ∧
    (∃ (s : State), s.get PW_STAT_SAG < 3 ∧ s.stopped = false) ∧
    (∃ (s : State) (low : Bool), s.pw.halted = false ∧ (s.get PW_STAT_SAG = 3 ∨ low = true)) ∧
    (∃ (s : State) (_ : Nat), s.pw.halted = false ∧ s.pw.crit = false ∧ s.get PW_STAT_SAG = 1) ∧
    (∃ (s : State) (_ : Nat) (u : State), s.pw.halted = true ∧ s.pw.lost.contains domCore = false ∧ u = (((({ s with pw := { s.pw with halted := false } }).put PW_VID_CODE (({ s with pw := { s.pw with halted := false } }).vidOf ({ s with pw := { s.pw with halted := false } }).wantPl)).put PW_VID_ACK 1).send (.vid (({ s with pw := { s.pw with halted := false } }).vidOf ({ s with pw := { s.pw with halted := false } }).wantPl)))) ∧
    (∃ (s : State) (_ : List (Option Int)), s.stopped = false) ∧
    (∃ (s : State) (x : Int × Nat), s.hottest = some x ∧ s.tHot < x.1 ∧ s.pw.thLim ≠ 3 ∧ s.stopped = false) ∧
    (∃ (s : State) (x : Int × Nat), s.hottest = some x ∧ x.1 < s.tHot - 20 ∧ s.stopped = false) ∧
    (∃ (s : State) (n : Nat), n < 16 ∧ s.stopped = false) ∧
    (∃ (s : State) (p : Nat), s.pw.l1Wait.contains p = true ∧ s.stopped = false) ∧
    (∃ (s : State) (i : Nat) (b : Nat) (_ : Nat) (u : State) (v : State), i ≠ clkTCLK ∧ fioBit i = some b ∧ bit (s.get PW_CLK_STAT_ON_FIO) b = true ∧ u = s.setFio b false ∧ u.pw.exit.contains i = true ∧ v = { u with pw := { u.pw with exit := u.pw.exit.filter (· != i) } }) :=
  ⟨⟨(State.reset.put PW_STAT_PL_CUR 0), ((State.reset.put PW_STAT_PL_CUR 0).wantPl : Nat), ((({ (State.reset.put PW_STAT_PL_CUR 0) with pw := { (State.reset.put PW_STAT_PL_CUR 0).pw with chg := some (((State.reset.put PW_STAT_PL_CUR 0).wantPl : Nat), false) } }).put PW_STAT_CHANGING 1) : State), (((({ (State.reset.put PW_STAT_PL_CUR 0) with pw := { (State.reset.put PW_STAT_PL_CUR 0).pw with chg := some (((State.reset.put PW_STAT_PL_CUR 0).wantPl : Nat), false) } }).put PW_STAT_CHANGING 1).switchClocks ((State.reset.put PW_STAT_PL_CUR 0).wantPl : Nat)) : State), ⟨by decide +kernel, by decide +kernel, by decide +kernel, by decide +kernel, by decide +kernel, by decide +kernel, rfl, by decide +kernel⟩⟩,
   ⟨((State.reset.put PW_STAT_PL_CUR 3).put PW_CTL_PL_REQ 0), (((State.reset.put PW_STAT_PL_CUR 3).put PW_CTL_PL_REQ 0).wantPl : Nat), ((({ ((State.reset.put PW_STAT_PL_CUR 3).put PW_CTL_PL_REQ 0) with pw := { ((State.reset.put PW_STAT_PL_CUR 3).put PW_CTL_PL_REQ 0).pw with chg := some ((((State.reset.put PW_STAT_PL_CUR 3).put PW_CTL_PL_REQ 0).wantPl : Nat), true) } }).put PW_STAT_CHANGING 1) : State), by decide +kernel⟩,
   ⟨(State.reset.put PW_VID_ACK 0), by decide +kernel⟩,
   ⟨({ State.reset with pw := { chg := some (1, true) } }), (1 : Nat), (true : Bool), by decide +kernel⟩,
   ⟨({ State.reset with pw := { chg := some (1, true) } }), (((1, true) : Nat × Bool) : Nat × Bool), by decide +kernel⟩,
   ⟨({ State.reset with pw := { full := 1 } }), by decide +kernel⟩,
   ⟨({ State.reset with pw := { full := 2 } }), ((((({ ({ State.reset with pw := { full := 2 } }) with pw := { ({ State.reset with pw := { full := 2 } }).pw with full := 0 } }).setDom domCore dON).put PW_CLK_STAT_ON_FIO 63).put PW_STAT_ON_FIO 1) : State), by decide +kernel⟩,
   ⟨({ State.reset with tm := { tclk := false, entryAt := some 0 } }), (5 : Nat), by decide +kernel⟩,
   ⟨(State.reset.put PW_CLK_STAT_ON_FIO 63), (1 : Nat), (1 : Nat), (0 : Nat), (((State.reset.put PW_CLK_STAT_ON_FIO 63).setFio 1 false) : State), ⟨by decide +kernel, by decide +kernel, by decide +kernel, rfl, by decide +kernel⟩⟩,
   ⟨(State.reset), (22 : Nat), (5 : Nat), by decide +kernel⟩,
   ⟨(State.reset), by decide +kernel⟩,
   ⟨(State.reset), by decide +kernel⟩,
   ⟨(State.reset.put PW_STAT_SAG 1), by decide +kernel⟩,
   ⟨(State.reset.put PW_STAT_SAG 2), by decide +kernel⟩,
   ⟨(State.reset.put PW_STAT_SAG 3), (false : Bool), by decide +kernel⟩,
   ⟨(State.reset.put PW_STAT_SAG 1), (0 : Nat), by decide +kernel⟩,
   ⟨({ State.reset with pw := { halted := true } }), (0 : Nat), (((((({ ({ State.reset with pw := { halted := true } }) with pw := { ({ State.reset with pw := { halted := true } }).pw with halted := false } }).put PW_VID_CODE (({ ({ State.reset with pw := { halted := true } }) with pw := { ({ State.reset with pw := { halted := true } }).pw with halted := false } }).vidOf ({ ({ State.reset with pw := { halted := true } }) with pw := { ({ State.reset with pw := { halted := true } }).pw with halted := false } }).wantPl)).put PW_VID_ACK 1).send (.vid (({ ({ State.reset with pw := { halted := true } }) with pw := { ({ State.reset with pw := { halted := true } }).pw with halted := false } }).vidOf ({ ({ State.reset with pw := { halted := true } }) with pw := { ({ State.reset with pw := { halted := true } }).pw with halted := false } }).wantPl)))) : State), by decide +kernel⟩,
   ⟨(State.reset), (([some 400, none] : List (Option Int)) : List (Option Int)), by decide +kernel⟩,
   ⟨(hotS 460), (((460, 0) : Int × Nat) : Int × Nat), by decide +kernel⟩,
   ⟨(hotS 100), (((100, 0) : Int × Nat) : Int × Nat), by decide +kernel⟩,
   ⟨(State.reset), (15 : Nat), by decide +kernel⟩,
   ⟨({ State.reset with pw := { l1Wait := [127], idle := [127] } }), (127 : Nat), by decide +kernel⟩,
   ⟨({ State.reset.put PW_CLK_STAT_ON_FIO 63 with pw := { exit := [1] } }), (1 : Nat), (1 : Nat), (0 : Nat), ((({ State.reset.put PW_CLK_STAT_ON_FIO 63 with pw := { exit := [1] } }).setFio 1 false) : State), (({ (({ State.reset.put PW_CLK_STAT_ON_FIO 63 with pw := { exit := [1] } }).setFio 1 false) with pw := { (({ State.reset.put PW_CLK_STAT_ON_FIO 63 with pw := { exit := [1] } }).setFio 1 false).pw with exit := (({ State.reset.put PW_CLK_STAT_ON_FIO 63 with pw := { exit := [1] } }).setFio 1 false).pw.exit.filter (· != 1) } }) : State), ⟨by decide +kernel, by decide +kernel, by decide +kernel, rfl, by decide +kernel, by decide +kernel⟩⟩⟩

theorem witness_PowerCommandsAct :
    (∃ (s : State) (mb : Nat) (c : OpenCmd) (mask : Nat) (_ : Bool), s.runs mb 0x0701 c ∧ mask < 2 ^ 62 ∧ s.stopped = false) ∧
    (∃ (s : State) (mb : Nat) (c : OpenCmd) (mask : Nat) (cfg : Nat), s.runs mb 0x0702 c ∧ mask < 2 ^ 63 ∧ cfg < 16 ∧ s.stopped = false) ∧
    (∃ (s : State) (mb : Nat) (c : OpenCmd) (pl : Nat) (u : State), s.runs mb 0x0703 c ∧ pl < 4 ∧ s.levelFail pl = 0 ∧ u = (s.put PW_CTL_PL_REQ pl).ok mb [] ∧ s.stopped = false) ∧
    (∃ (s : State) (mb : Nat) (c : OpenCmd) (u : State), s.runs mb 0x0704 c ∧ s.fullOk = true ∧ u = s.ok mb [] ∧ s.stopped = false) ∧
    (∃ (s : State) (mb : Nat) (c : OpenCmd) (body : List Nat), s.runs mb 0x0705 c ∧ body = (List.range 64).flatMap (fun i => [s.rd (R_PW_LEDGER0 i), s.rd (R_PW_LEDGER1 i)]) ++ (List.range 7).flatMap (fun r => s.ctr2 (0x20108 + r * 8)) ∧ bit c.flags 0 = false ∧ s.stopped = false) ∧
    (∃ (s : State) (mb : Nat) (c : OpenCmd) (body : List Nat), s.runs mb 0x0705 c ∧ body = (List.range 64).flatMap (fun i => [s.rd (R_PW_LEDGER0 i), s.rd (R_PW_LEDGER1 i)]) ++ (List.range 7).flatMap (fun r => s.ctr2 (0x20108 + r * 8)) ∧ bit c.flags 0 = true ∧ s.stopped = false) ∧
    (∃ (s : State) (mb : Nat) (c : OpenCmd), s.runs mb 0x0706 c ∧ s.stopped = false) ∧
    (∃ (s : State) (mb : Nat) (c : OpenCmd) (w : Nat), s.runs mb 0x0707 c ∧ w < 2 ^ 32 ∧ s.stopped = false) ∧
    (∃ (s : State) (mb : Nat) (c : OpenCmd), s.runs mb 0x0708 c ∧ s.stopped = false) :=
  ⟨⟨(cmdS 0 0x0701), (0 : Nat), ((cmd0 0x0701) : OpenCmd), (2 ^ 61 : Nat), (true : Bool), by decide +kernel⟩,
   ⟨(cmdS 0 0x0702), (0 : Nat), ((cmd0 0x0702) : OpenCmd), (2 ^ 62 : Nat), (15 : Nat), by decide +kernel⟩,
   ⟨(cmdS 0 0x0703), (0 : Nat), ((cmd0 0x0703) : OpenCmd), (0 : Nat), ((((cmdS 0 0x0703).put PW_CTL_PL_REQ 0).ok 0 []) : State), ⟨by decide +kernel, by decide +kernel, by decide +kernel, rfl, by decide +kernel⟩⟩,
   ⟨(cmdS 0 0x0704), (0 : Nat), ((cmd0 0x0704) : OpenCmd), (((cmdS 0 0x0704).ok 0 []) : State), ⟨by decide +kernel, by decide +kernel, rfl, by decide +kernel⟩⟩,
   ⟨(cmdS 0 0x0705), (0 : Nat), ((cmd0 0x0705) : OpenCmd), ((List.range 64).flatMap (fun i => [(cmdS 0 0x0705).rd (R_PW_LEDGER0 i), (cmdS 0 0x0705).rd (R_PW_LEDGER1 i)]) ++ (List.range 7).flatMap (fun r => (cmdS 0 0x0705).ctr2 (0x20108 + r * 8)) : List Nat), by decide +kernel⟩,
   ⟨(cmdF 0 0x0705), (0 : Nat), (({ cmd0 0x0705 with flags := 1 }) : OpenCmd), ((List.range 64).flatMap (fun i => [(cmdS 0 0x0705).rd (R_PW_LEDGER0 i), (cmdS 0 0x0705).rd (R_PW_LEDGER1 i)]) ++ (List.range 7).flatMap (fun r => (cmdS 0 0x0705).ctr2 (0x20108 + r * 8)) : List Nat), by decide +kernel⟩,
   ⟨(cmdS 0 0x0706), (0 : Nat), ((cmd0 0x0706) : OpenCmd), by decide +kernel⟩,
   ⟨(cmdS 0 0x0707), (0 : Nat), ((cmd0 0x0707) : OpenCmd), (90 : Nat), by decide +kernel⟩,
   ⟨(cmdS 0 0x0708), (0 : Nat), ((cmd0 0x0708) : OpenCmd), by decide +kernel⟩⟩

theorem witness_FirmwareRowsAct :
    (∃ (s : State) (mb : Nat) (rest : List Nat) (u : State), s.whState = whUP ∧ s.dom 60 ≤ dDRAINING ∧ s.wh.cmds.any (fun e => s.get (MB_STAT_STATE e.1) == mbRUNNING) = false ∧ s.wh.rung = mb :: rest ∧ u = { s.put (MB_STAT_STATE mb) mbRUNNING with wh := { s.wh with cmds := tset s.wh.cmds mb (s.cmdHeader mb), rung := rest } } ∧ u.cmdCheck mb (s.cmdHeader mb) = mOK ∧ s.stopped = false) ∧
    (∃ (s : State) (mb : Nat) (rest : List Nat) (u : State), s.whState = whUP ∧ s.dom 60 ≤ dDRAINING ∧ s.wh.cmds.any (fun e => s.get (MB_STAT_STATE e.1) == mbRUNNING) = false ∧ s.wh.rung = mb :: rest ∧ u = { s.put (MB_STAT_STATE mb) mbRUNNING with wh := { s.wh with cmds := tset s.wh.cmds mb (s.cmdHeader mb), rung := rest } } ∧ u.cmdCheck mb (s.cmdHeader mb) ≠ mOK ∧ s.stopped = false) ∧
    (∃ (s : State) (mb : Nat) (c : OpenCmd), s.runs mb 0x0101 c ∧ s.stopped = false) ∧
    (∃ (s : State) (mb : Nat) (c : OpenCmd) (ws : List Word) (u : State), s.runs mb 0x0102 c ∧ s.freeList 17 = (ws, u) ∧ s.stopped = false) ∧
    (∃ (s : State) (mb : Nat) (c : OpenCmd) (body : List Nat), s.runs mb 0x0103 c ∧ s.cmdBody mb c.len = body ∧ s.stopped = false) ∧
    (∃ (s : State) (mb : Nat) (c : OpenCmd) (ws : List Word) (u : State), s.runs mb 0x0104 c ∧ s.freeList 16 = (ws, u) ∧ s.stopped = false) ∧
    (∃ (s : State), (s.whState = whBOOTING ∨ s.whState = whRESTARTING) ∧ s.wh.imgWait = false ∧ s.wh.entered = false ∧ s.whOn = true ∧ s.stopped = false) ∧
    (∃ (s : State), s.whRuns = true ∧ s.stopped = false) ∧
    (∃ (s : State), s.whRuns = true ∧ s.stopped = false) ∧
    (∃ (s : State) (mb : Nat) (c : OpenCmd), s.runs mb 0x0A01 c ∧ s.upd = uIDLE ∧ s.on (PART_CTL_SEAL 0) = false ∧ s.stopped = false) ∧
    (∃ (s : State) (mb : Nat) (c : OpenCmd) (offset : Nat) (body : List Nat) (data : List Nat) (u : State), s.runs mb 0x0A02 c ∧ (s.upd = uOPEN ∨ s.upd = uVERIFIED) ∧ body = s.cmdBody mb c.len ∧ body.getD 0 0 = offset ∧ (body.drop 4).flatMap (leBytes 4) = data ∧ offset + data.length ≤ 0x100000 ∧ s.imgWrite (slotBase s.updSlot + offset) data = (.ok, u) ∧ s.stopped = false) ∧
    (∃ (s : State) (mb : Nat) (c : OpenCmd) (i : Img) (u : State), s.runs mb 0x0A03 c ∧ s.upd = uOPEN ∧ s.image s.updSlot = (i, u) ∧ i.reason = 0 ∧ s.stopped = false) ∧
    (∃ (s : State) (mb : Nat) (c : OpenCmd) (frame : Nat) (u : State), s.runs mb 0x0A04 c ∧ frame = (s.cmdBody mb c.len).getD 0 0 + (s.cmdBody mb c.len).getD 1 0 * 2 ^ 32 ∧ s.activateFail frame = 0 ∧ s.ticking = true ∧ u = s.put GLB_WH_STAT_UPD uARMED ∧ s.stopped = false) ∧
    (∃ (s : State) (mb : Nat) (c : OpenCmd) (frame : Nat), s.runs mb 0x0A04 c ∧ frame = (s.cmdBody mb c.len).getD 0 0 + (s.cmdBody mb c.len).getD 1 0 * 2 ^ 32 ∧ s.activateFail frame = 0 ∧ s.ticking = false ∧ s.stopped = false) ∧
    (∃ (s : State) (mb : Nat) (c : OpenCmd) (u : State), s.runs mb 0x0A05 c ∧ s.upd = uOPEN ∧ u = { s with wh := { s.wh with armS := none } } ∧ s.stopped = false) ∧
    (∃ (s : State) (mb : Nat) (c : OpenCmd) (u : State), s.runs mb 0x0A05 c ∧ (s.upd = uVERIFIED ∨ s.upd = uARMED) ∧ u = { s with wh := { s.wh with armS := none } } ∧ s.stopped = false) ∧
    (∃ (s : State) (mb : Nat) (c : OpenCmd), s.runs mb 0x0A06 c ∧ s.stopped = false) ∧
    (∃ (s : State) (r : Nat) (u : State) (v : State), s.upd = uHANDOVER ∧ s.wh.hoBoot = false ∧ s.openMbs = [] ∧ u = (s.put GLB_WH_CTL_BOOT_SLOT (1 - s.wh.oldSlot)).whReset ∧ ({ u with wh := { u.wh with hoBoot := true } }).bootSlot (1 - s.wh.oldSlot) = (r, v) ∧ s.stopped = false) ∧
    (∃ (s : State), s.upd = uHANDOVER ∧ s.wh.hoBoot = false ∧ s.openMbs ≠ [] ∧ s.stopped = false) ∧
    (∃ (s : State) (r : Nat) (u : State) (v : State), s.upd = uHANDOVER ∧ s.wh.hoBoot = true ∧ u = ((s.whReset).put GLB_WH_STAT_FALLBACK 1).put GLB_WH_STAT_UPD uIDLE ∧ ({ u with wh := { u.wh with hoBoot := false } }).bootSlot u.wh.oldSlot = (r, v) ∧ s.stopped = false) :=
  ⟨⟨(rungS 0x0103 1), (0 : Nat), ([] : List Nat), (({ (rungS 0x0103 1).put (MB_STAT_STATE 0) mbRUNNING with wh := { (rungS 0x0103 1).wh with cmds := tset (rungS 0x0103 1).wh.cmds 0 ((rungS 0x0103 1).cmdHeader 0), rung := ([] : List Nat) } }) : State), by decide +kernel⟩,
   ⟨(rungS 0x0103 7), (0 : Nat), ([] : List Nat), (({ (rungS 0x0103 7).put (MB_STAT_STATE 0) mbRUNNING with wh := { (rungS 0x0103 7).wh with cmds := tset (rungS 0x0103 7).wh.cmds 0 ((rungS 0x0103 7).cmdHeader 0), rung := ([] : List Nat) } }) : State), by decide +kernel⟩,
   ⟨(cmdS 0 0x0101), (0 : Nat), ((cmd0 0x0101) : OpenCmd), by decide +kernel⟩,
   ⟨(cmdS 0 0x0102), (0 : Nat), ((cmd0 0x0102) : OpenCmd), (((cmdS 0 0x0102).freeList 17).1 : List Word), ((((cmdS 0 0x0102).freeList 17).2) : State), ⟨by decide +kernel, rfl, by decide +kernel⟩⟩,
   ⟨(cmdS 0 0x0103), (0 : Nat), ((cmd0 0x0103) : OpenCmd), ([] : List Nat), by decide +kernel⟩,
   ⟨(cmdS 0 0x0104), (0 : Nat), ((cmd0 0x0104) : OpenCmd), (((cmdS 0 0x0104).freeList 16).1 : List Word), ((((cmdS 0 0x0104).freeList 16).2) : State), ⟨by decide +kernel, rfl, by decide +kernel⟩⟩,
   ⟨(bootS), by decide +kernel⟩,
   ⟨(whS), by decide +kernel⟩,
   ⟨(whS), by decide +kernel⟩,
   ⟨(cmdS 0 0x0A01), (0 : Nat), ((cmd0 0x0A01) : OpenCmd), by decide +kernel⟩,
   ⟨(runIn (State.reset.put GLB_WH_STAT_UPD uOPEN) 0 { cmd0 0x0A02 with len := 20 }), (0 : Nat), (({ cmd0 0x0A02 with len := 20 }) : OpenCmd), (0 : Nat), ([0, 0, 0, 0, 0] : List Nat), ([0, 0, 0, 0] : List Nat), ((((runIn (State.reset.put GLB_WH_STAT_UPD uOPEN) 0 { cmd0 0x0A02 with len := 20 }).imgWrite (slotBase (runIn (State.reset.put GLB_WH_STAT_UPD uOPEN) 0 { cmd0 0x0A02 with len := 20 }).updSlot + 0) ([0, 0, 0, 0] : List Nat)).2) : State), by decide +kernel⟩,
   ⟨(imgS), (0 : Nat), ((cmd0 0x0A03) : OpenCmd), ((imgS.image 1).1 : Img), ((((imgS).image (imgS).updSlot).2) : State), by decide +kernel⟩,
   ⟨((runIn (tickS.wr (R_MB_CMD 0 4) 16) 0 { cmd0 0x0A04 with len := 8 }).put GLB_WH_STAT_UPD uVERIFIED), (0 : Nat), (({ cmd0 0x0A04 with len := 8 }) : OpenCmd), (16 : Nat), ((((runIn (tickS.wr (R_MB_CMD 0 4) 16) 0 { cmd0 0x0A04 with len := 8 }).put GLB_WH_STAT_UPD uVERIFIED).put GLB_WH_STAT_UPD uARMED) : State), ⟨by decide +kernel, by decide +kernel, by decide +kernel, by decide +kernel, rfl, by decide +kernel⟩⟩,
   ⟨((cmdS 0 0x0A04).put GLB_WH_STAT_UPD uVERIFIED), (0 : Nat), ((cmd0 0x0A04) : OpenCmd), (0 : Nat), by decide +kernel⟩,
   ⟨((cmdS 0 0x0A05).put GLB_WH_STAT_UPD uOPEN), (0 : Nat), ((cmd0 0x0A05) : OpenCmd), (({ ((cmdS 0 0x0A05).put GLB_WH_STAT_UPD uOPEN) with wh := { ((cmdS 0 0x0A05).put GLB_WH_STAT_UPD uOPEN).wh with armS := none } }) : State), by decide +kernel⟩,
   ⟨((cmdS 0 0x0A05).put GLB_WH_STAT_UPD uARMED), (0 : Nat), ((cmd0 0x0A05) : OpenCmd), (({ ((cmdS 0 0x0A05).put GLB_WH_STAT_UPD uARMED) with wh := { ((cmdS 0 0x0A05).put GLB_WH_STAT_UPD uARMED).wh with armS := none } }) : State), by decide +kernel⟩,
   ⟨(cmdS 0 0x0A06), (0 : Nat), ((cmd0 0x0A06) : OpenCmd), by decide +kernel⟩,
   ⟨(State.reset.put GLB_WH_STAT_UPD uHANDOVER), (1 : Nat), ((((State.reset.put GLB_WH_STAT_UPD uHANDOVER).put GLB_WH_CTL_BOOT_SLOT (1 - (State.reset.put GLB_WH_STAT_UPD uHANDOVER).wh.oldSlot)).whReset) : State), (((({ (((State.reset.put GLB_WH_STAT_UPD uHANDOVER).put GLB_WH_CTL_BOOT_SLOT (1 - (State.reset.put GLB_WH_STAT_UPD uHANDOVER).wh.oldSlot)).whReset) with wh := { (((State.reset.put GLB_WH_STAT_UPD uHANDOVER).put GLB_WH_CTL_BOOT_SLOT (1 - (State.reset.put GLB_WH_STAT_UPD uHANDOVER).wh.oldSlot)).whReset).wh with hoBoot := true } }).bootSlot (1 - (State.reset.put GLB_WH_STAT_UPD uHANDOVER).wh.oldSlot)).2) : State), ⟨by decide +kernel, by decide +kernel, by decide +kernel, rfl, by decide +kernel, by decide +kernel⟩⟩,
   ⟨((cmdS 0 0x0103).put GLB_WH_STAT_UPD uHANDOVER), by decide +kernel⟩,
   ⟨({ State.reset.put GLB_WH_STAT_UPD uHANDOVER with wh := { State.reset.wh with hoBoot := true } }), (1 : Nat), ((((({ State.reset.put GLB_WH_STAT_UPD uHANDOVER with wh := { State.reset.wh with hoBoot := true } }).whReset).put GLB_WH_STAT_FALLBACK 1).put GLB_WH_STAT_UPD uIDLE) : State), (((({ (((({ State.reset.put GLB_WH_STAT_UPD uHANDOVER with wh := { State.reset.wh with hoBoot := true } }).whReset).put GLB_WH_STAT_FALLBACK 1).put GLB_WH_STAT_UPD uIDLE) with wh := { (((({ State.reset.put GLB_WH_STAT_UPD uHANDOVER with wh := { State.reset.wh with hoBoot := true } }).whReset).put GLB_WH_STAT_FALLBACK 1).put GLB_WH_STAT_UPD uIDLE).wh with hoBoot := false } }).bootSlot (((({ State.reset.put GLB_WH_STAT_UPD uHANDOVER with wh := { State.reset.wh with hoBoot := true } }).whReset).put GLB_WH_STAT_FALLBACK 1).put GLB_WH_STAT_UPD uIDLE).wh.oldSlot).2) : State), ⟨by decide +kernel, by decide +kernel, rfl, by decide +kernel, by decide +kernel⟩⟩⟩

theorem witness_FaultAndResetRowsAct :
    (∃ (s : State) (mb : Nat) (c : OpenCmd) (body : List Nat), s.runs mb 0x0B01 c ∧ body = [s.rd R_GLB_ERR_SUM, s.rd R_GLB_FAULT_GEN, s.get GLB_FLT_WR_UNREAD] ++ s.unreadRecs.flatMap (fun i => (List.range 4).map (fun d => s.rd (fltOff i d))) ∧ s.stopped = false) ∧
    (∃ (s : State) (mb : Nat) (c : OpenCmd) (mask : Nat), s.runs mb 0x0B02 c ∧ mask < 2 ^ 32 ∧ s.stopped = false) ∧
    (∃ (s : State) (mb : Nat) (c : OpenCmd) (maps : List (Nat × Nat)) (sat : Nat), s.runs mb 0x0B03 c ∧ maps.findIdx? (fun x => !evmapOk x) = none ∧ sat < 2 ^ 14 ∧ s.stopped = false) ∧
    (∃ (s : State) (mb : Nat) (c : OpenCmd) (offs : List Nat) (ws : List Nat) (u : State), s.runs mb 0x0B04 c ∧ offs.length ≤ 128 ∧ offs.findIdx? (fun o => (counterAt o).isNone) = none ∧ offs.foldl (fun (a : List Nat × State) o => (a.1 ++ (a.2.whCounter o).1, (a.2.whCounter o).2)) ([], s) = (ws, u) ∧ s.stopped = false) ∧
    (∃ (s : State) (mb : Nat) (c : OpenCmd) (cls : Nat) (un : Nat) (kind : Nat) (place : Nat) (f : State → State), s.runs mb 0x0B05 c ∧ s.errInject cls un kind place = some f ∧ s.stopped = false) ∧
    (∃ (s : State) (b : Nat) (_ : Bool) (u : State), s.cis.back.contains b = true ∧ s.dom (16 + b) = dON ∧ u = { s with cis := { s.cis with back := s.cis.back.filter (· ≠ b) } } ∧ s.stopped = false) ∧
    (∃ (s : State), s.wh.rstBusy = false ∧ s.wh.coldLow = false ∧ s.pw.full ≠ 2 ∧ s.pw.halted = false) ∧
    (∃ (s : State), s.wh.rstBusy = true ∧ s.stopped = false) ∧
    (∃ (s : State) (slot : Nat) (addr : Nat) (_ : Nat) (_ : Nat) (u : State), s.wh.imgReady = true ∧ s.wh.imgWait = true ∧ slot < 2 ∧ addr < 2 ^ 17 ∧ u = { s with wh := { s.wh with imgSlot := slot } }) ∧
    (∃ (s : State) (slot : Nat), s.wh.imgWait = true ∧ slot < 2 ∧ s.wh.imgReady = true) ∧
    (∃ (s : State) (slot : Nat), s.wh.imgWait = true ∧ slot < 2 ∧ s.wh.imgReady = false) :=
  ⟨⟨(cmdS 0 0x0B01), (0 : Nat), ((cmd0 0x0B01) : OpenCmd), ([0, 0, 0] : List Nat), by decide +kernel⟩,
   ⟨(cmdS 0 0x0B02), (0 : Nat), ((cmd0 0x0B02) : OpenCmd), (0xFFFFFFFF : Nat), by decide +kernel⟩,
   ⟨(cmdS 0 0x0B03), (0 : Nat), ((cmd0 0x0B03) : OpenCmd), (([(15, 64)] : List (Nat × Nat)) : List (Nat × Nat)), (16383 : Nat), by decide +kernel⟩,
   ⟨(cmdS 0 0x0B04), (0 : Nat), ((cmd0 0x0B04) : OpenCmd), ([C_GLB_SM_IGNORED] : List Nat), ([0, 0] : List Nat), (((([C_GLB_SM_IGNORED] : List Nat).foldl (fun (a : List Nat × State) o => (a.1 ++ (a.2.whCounter o).1, (a.2.whCounter o).2)) ([], (cmdS 0 0x0B04))).2) : State), by decide +kernel⟩,
   ⟨(cmdS 0 0x0B05), (0 : Nat), ((cmd0 0x0B05) : OpenCmd), (5 : Nat), (0 : Nat), (4 : Nat), (0 : Nat), (((fun (s : State) => s.bankFault 0 0) : State → State) : State → State), ⟨by decide +kernel, rfl, by decide +kernel⟩⟩,
   ⟨({ idleDom dON with cis := { back := [0] } }), (0 : Nat), (true : Bool), (({ ({ idleDom dON with cis := { back := [0] } }) with cis := { ({ idleDom dON with cis := { back := [0] } }).cis with back := ({ idleDom dON with cis := { back := [0] } }).cis.back.filter (· ≠ 0) } }) : State), by decide +kernel⟩,
   ⟨(State.reset), by decide +kernel⟩,
   ⟨({ State.reset with wh := { State.reset.wh with rstBusy := true } }), by decide +kernel⟩,
   ⟨({ State.reset with wh := { State.reset.wh with imgReady := true } }), (1 : Nat), (131071 : Nat), (5 : Nat), (6 : Nat), (({ ({ State.reset with wh := { State.reset.wh with imgReady := true } }) with wh := { ({ State.reset with wh := { State.reset.wh with imgReady := true } }).wh with imgSlot := 1 } }) : State), by decide +kernel⟩,
   ⟨({ State.reset with wh := { State.reset.wh with imgReady := true } }), (1 : Nat), by decide +kernel⟩,
   ⟨(State.reset), (0 : Nat), by decide +kernel⟩⟩

end Sys2Proof
end

section
/-! SUPPORT. Writes of plain registers that no rule covers, and the 64-bit registers whose low word is staged (R12). -/

namespace Sys2Proof.Machine

@[simp] theorem inReg_iff {off a b : Nat} : inReg off a b = true ↔ a ≤ off ∧ off < b := decide_eq_true_iff

/-! ### The way of a write to a plain register -/

/-- Where a register row lies, an offset is decoded. -/
theorem decodeOffset_of_regRow {off : Nat} {x : RegRow × Nat} (h : regRow off = some x) : ∃ p, decodeOffset off = some p := by
  unfold regRow at h
  split at h
  · cases h
  · exact ⟨_, ‹_›⟩

theorem State.regWrite_plain (s : State) (m : Master) (off v : Nat) {r : RegRow}
    (hr : (regRow off).map (·.1) = some r) (hk : r.kind = .plain) : s.regWrite m off v = s.plainWrite m r off v := by
  obtain ⟨⟨r', d⟩, hrow, rfl⟩ := Option.map_eq_some_iff.1 hr
  obtain ⟨p, hp⟩ := decodeOffset_of_regRow hrow
  change r'.kind = .plain at hk
  simp only [State.regWrite, hp, hrow, hk]

/-- The bits of a word inside the full mask are the word. -/
theorem and_full32 {v : Nat} (h : v < 2 ^ 32) : v &&& full32 = v :=
  (Nat.and_two_pow_sub_one_eq_mod v 32).trans (Nat.mod_eq_of_lt h)

/-- A mask that reaches a bit of one effect still reaches it beside the bits of the others. -/
theorem writable_ne_zero (r : RegRow) {mm : Nat} (h : r.rw &&& mm ≠ 0) : (r.rw ||| r.w1c ||| r.w1s ||| r.wo) &&& mm ≠ 0 := by
  intro h0
  simp only [Nat.and_or_distrib_right, Nat.or_eq_zero_iff] at h0
  obtain ⟨⟨⟨hrw, -⟩, -⟩, -⟩ := h0
  exact h hrw

/-- A write that no rule covers, by a master that may write every bit: it answers OK, and is staged, committed or takes effect
with the word as written. -/
theorem State.plainWrite_uncovered (s : State) (m : Master) (r : RegRow) (off v : Nat) (hv : v < 2 ^ 32) (hoff : off ≠ R_GLB_PLANE_CTL)
    (hrw : r.rw &&& masterMask m off ≠ 0) (hm : masterMask m off = full32) (hc : s.covers m off v = []) :
    s.plainWrite m r off v =
      (.ok, if lowOf64 off then { s with staged := tset s.staged (masterIdx m * 2 ^ 24 + off) v }
        else if 4 ≤ off ∧ lowOf64 (off - 4) then s.commit64 m r off v else s.effect m r off v) := by
  have hw := writable_ne_zero r hrw
  rw [hm] at hw
  simp only [State.plainWrite, hc, hm, if_neg hw, List.find?_nil, if_neg hoff, List.filter_nil, List.foldl_nil, State.forEach,
    firstRule, Nat.xor_self, Nat.xor_zero, Nat.and_zero, Nat.or_zero, and_full32 hv]

/-! ### Switches and swaps that a commit arms -/

/-- A switch that loads writes the frame's period and phase and the control word. -/
theorem State.loadSwitch_rd_other (s : State) (n : Nat) {o : Nat} (hp : o ≠ R_TM_FRAME_PERIOD) (hh : o ≠ R_TM_FRAME_PHASE)
    (hc : o ≠ R_TM_FRAME_CTL) : (s.loadSwitch n).rd o = s.rd o :=
  calc (s.loadSwitch n).rd o
      = ((s.put TM_FRAME_PERIOD_NS s.nextPer).put TM_FRAME_PHASE_NS s.nextPhase).rd o := State.put_rd_other _ _ _ hc
    _ = (s.put TM_FRAME_PERIOD_NS s.nextPer).rd o := State.put_rd_other _ _ _ hh
    _ = s.rd o := State.put_rd_other _ _ _ hp

/-- Everything that arming a switch can do: the switch that was armed loads first if its tick has come, and then the new one is
refused or armed (R57). -/
theorem State.armSwitch_cases (s : State) (n : Nat) : ∃ u t, (u = s ∨ ∃ k, u = s.loadSwitch k) ∧
    (s.armSwitch n = ({ u with tm := t }.put TM_STATUS_SWITCH_BAD 1).put TM_FRAME_CTL_SWITCH_ARMED 0 ∨
      s.armSwitch n = { u with tm := t }.put TM_FRAME_CTL_SWITCH_ARMED 1) := by
  unfold State.armSwitch
  cases s.tm.swS with
  | none =>
    dsimp only
    split
    exacts [⟨s, _, .inl rfl, .inl rfl⟩, ⟨s, _, .inl rfl, .inr rfl⟩]
  | some k =>
    by_cases hk : (k : Int) ≤ s.tm.hdl
    · simp only [if_pos hk]
      split
      exacts [⟨s.loadSwitch k, _, .inr ⟨k, rfl⟩, .inl rfl⟩, ⟨s.loadSwitch k, _, .inr ⟨k, rfl⟩, .inr rfl⟩]
    · simp only [if_neg hk]
      split
      exacts [⟨s, _, .inl rfl, .inl rfl⟩, ⟨s, _, .inl rfl, .inr rfl⟩]

@[simp] theorem State.armSwitch_staged (s : State) (n : Nat) : (s.armSwitch n).staged = s.staged := by
  obtain ⟨u, t, rfl | ⟨k, rfl⟩, h | h⟩ := s.armSwitch_cases n <;> rw [h] <;> rfl

/-- Arming a switch writes the registers of a switch that loads, and the status word. -/
theorem State.armSwitch_rd_other (s : State) (n : Nat) {o : Nat} (hp : o ≠ R_TM_FRAME_PERIOD) (hh : o ≠ R_TM_FRAME_PHASE)
    (hc : o ≠ R_TM_FRAME_CTL) (ht : o ≠ R_TM_STATUS) : (s.armSwitch n).rd o = s.rd o := by
  obtain ⟨u, t, hu, h⟩ := s.armSwitch_cases n
  have hrd : ({ u with tm := t } : State).rd o = s.rd o := by
    rcases hu with rfl | ⟨k, rfl⟩
    · rfl
    · exact s.loadSwitch_rd_other k hp hh hc
  rcases h with h | h <;> rw [h, State.put_rd_other _ TM_FRAME_CTL_SWITCH_ARMED _ hc]
  · exact (State.put_rd_other _ TM_STATUS_SWITCH_BAD _ ht).trans hrd
  · exact hrd

@[simp] theorem State.armGcl_staged (s : State) (p n : Nat) : (s.armGcl p n).staged = s.staged := by
  unfold State.armGcl
  dsimp only
  split <;> rfl

theorem State.armGcl_rd_other (s : State) (p n : Nat) {o : Nat} (h : o ≠ R_GCL_STAT (portC p) (portK p)) :
    (s.armGcl p n).rd o = s.rd o := by
  unfold State.armGcl
  dsimp only
  split
  · exact State.put_rd_other _ _ _ h
  · exact State.put_rd_other s (GCL_STAT_PENDING (portC p) (portK p)) 1 h

/-- Of the registers of a gate list's block only GCL_SWAP has 64 bits. -/
theorem lowOf64_gcl {lo : Nat} (h : lowOf64 lo = true) (hp : inPt (lo + 4) = true)
    (hg : inReg (tileRel (lo + 4)) 0x4000 0x4800 = true) : lo % 0x100 = 8 := by
  simp only [inPt, inReg_iff, tileRel] at hp hg
  simp only [lowOf64, lowTile, inPt, inKt, tileRel, Bool.or_eq_true, Bool.and_eq_true, inReg_iff, decide_eq_true_eq, beq_iff_eq,
    R_TM_FRAME_SWITCH_LO, R_PW_WH_HOLD_LO, R_SNAP_INT_EN_LO, if_true, Bool.false_eq_true, if_false, true_and, false_and, or_false] at h
  omega

/-! ### The two halves of a 64-bit register -/

/-- What the low half of a 64-bit register is written with when its master commits. -/
def State.lowHalf (s : State) (m : Master) (q : RegRow) (lo : Nat) : Nat :=
  match tget s.staged (masterIdx m * 2 ^ 24 + lo) with
  | some w => storeWord q (s.rd lo) w
  | none => s.rd lo

/-- Both halves written and nothing left staged for the master. -/
def State.bothHalves (s : State) (m : Master) (q r : RegRow) (lo v : Nat) : State :=
  { (s.wr lo (s.lowHalf m q lo)).store r (lo + 4) v with staged := tdel s.staged (masterIdx m * 2 ^ 24 + lo) }

@[simp] theorem State.bothHalves_staged (s : State) (m : Master) (q r : RegRow) (lo v : Nat) :
    (s.bothHalves m q r lo v).staged = tdel s.staged (masterIdx m * 2 ^ 24 + lo) := rfl

@[simp] theorem State.bothHalves_rd_low (s : State) (m : Master) (q r : RegRow) (lo v : Nat) :
    (s.bothHalves m q r lo v).rd lo = s.lowHalf m q lo % 2 ^ 32 :=
  (State.wr_rd_other (s.wr lo (s.lowHalf m q lo)) _ (by omega)).trans (State.wr_rd_same s lo _)

@[simp] theorem State.bothHalves_rd_high (s : State) (m : Master) (q r : RegRow) (lo v : Nat) :
    (s.bothHalves m q r lo v).rd (lo + 4) = storeWord r (s.rd (lo + 4)) v % 2 ^ 32 :=
  calc (s.bothHalves m q r lo v).rd (lo + 4)
      = storeWord r ((s.wr lo (s.lowHalf m q lo)).rd (lo + 4)) v % 2 ^ 32 := State.wr_rd_same _ (lo + 4) _
    _ = storeWord r (s.rd (lo + 4)) v % 2 ^ 32 := by rw [State.wr_rd_other s _ (by omega)]

/-- Everything a commit can do: both halves are written, and where the register is TM_FRAME_SWITCH or a port's GCL_SWAP the
switch or swap is armed. -/
theorem State.commit64_cases (s : State) (m : Master) {q : RegRow} (r : RegRow) {lo : Nat} (v : Nat)
    (hq : (regRow lo).map (·.1) = some q) (hlo : lowOf64 lo = true) :
    s.commit64 m r (lo + 4) v = s.bothHalves m q r lo v ∨
    (lo = R_TM_FRAME_SWITCH_LO ∧ ∃ n, s.commit64 m r (lo + 4) v = (s.bothHalves m q r lo v).armSwitch n) ∨
    (lo % 0x100 = 8 ∧ ∃ p n, s.commit64 m r (lo + 4) v = (s.bothHalves m q r lo v).armGcl p n) := by
  obtain ⟨⟨q', d⟩, hrow, rfl⟩ := Option.map_eq_some_iff.1 hq
  have hk : masterIdx m * 2 ^ 24 + (lo + 4) - 4 = masterIdx m * 2 ^ 24 + lo := by omega
  have hcom : s.commit64 m r (lo + 4) v =
      if lo + 4 = R_TM_FRAME_SWITCH_HI then
        (s.bothHalves m q' r lo v).armSwitch ((s.bothHalves m q' r lo v).rd64 R_TM_FRAME_SWITCH_LO)
      else if inPt (lo + 4) ∧ inReg (tileRel (lo + 4)) 0x4000 0x4800 then
        (s.bothHalves m q' r lo v).armGcl (blkPort (lo + 4) 0x4000 0x100) ((s.bothHalves m q' r lo v).rd64 lo)
      else s.bothHalves m q' r lo v := by
    simp only [State.commit64, State.bothHalves, State.lowHalf, hk, Nat.add_sub_cancel, hrow]
    cases tget s.staged (masterIdx m * 2 ^ 24 + lo) <;> rfl
  rw [hcom]
  split_ifs with hsw hg
  · exact .inr (.inl ⟨Nat.add_right_cancel hsw, _, rfl⟩)
  · exact .inr (.inr ⟨lowOf64_gcl hlo hg.1 hg.2, _, _, rfl⟩)
  · exact .inl rfl

theorem R_GCL_STAT_mod (c k : Nat) : R_GCL_STAT c k % 0x100 = 4 := by unfold R_GCL_STAT; omega

/-- What a commit arms leaves both words and the staged ones as it wrote them. -/
theorem State.commit64_keeps (s : State) (m : Master) {q : RegRow} (r : RegRow) {lo : Nat} (v : Nat)
    (hq : (regRow lo).map (·.1) = some q) (hlo : lowOf64 lo = true) :
    (s.commit64 m r (lo + 4) v).rd lo = (s.bothHalves m q r lo v).rd lo ∧
    (s.commit64 m r (lo + 4) v).rd (lo + 4) = (s.bothHalves m q r lo v).rd (lo + 4) ∧
    (s.commit64 m r (lo + 4) v).staged = (s.bothHalves m q r lo v).staged := by
  rcases State.commit64_cases s m r v hq hlo with h | ⟨rfl, n, h⟩ | ⟨h8, p, n, h⟩ <;> rw [h]
  · exact ⟨rfl, rfl, rfl⟩
  · exact ⟨State.armSwitch_rd_other _ n (by decide) (by decide) (by decide) (by decide),
      State.armSwitch_rd_other _ n (by decide) (by decide) (by decide) (by decide), State.armSwitch_staged _ n⟩
  · have hs := R_GCL_STAT_mod (portC p) (portK p)
    exact ⟨State.armGcl_rd_other _ p n (by omega), State.armGcl_rd_other _ p n (by omega), State.armGcl_staged _ p n⟩

/-! ### Writes of the two words -/

/-- GLB_PLANE_CTL is no half of a 64-bit register. -/
theorem lowOf64_ne_planeCtl {lo : Nat} (h : lowOf64 lo = true) : lo ≠ R_GLB_PLANE_CTL := by
  rintro rfl
  exact absurd h (by decide)

/-- A low write is staged for its master (R12). -/
theorem State.regWrite_low (s : State) (m : Master) (lo v : Nat) (q r : RegRow) (h : Pair64 s m lo q r) (hv : v < 2 ^ 32) :
    s.regWrite m lo v = (.ok, { s with staged := tset s.staged (masterIdx m * 2 ^ 24 + lo) v }) := by
  obtain ⟨hlo, -, hq, -, hkq, -, hrw, -, hm, -, -, hc, -⟩ := h
  rw [State.regWrite_plain s m lo v hq hkq, State.plainWrite_uncovered s m q lo v hv (lowOf64_ne_planeCtl hlo) hrw hm (hc v), if_pos hlo]

/-- A high write commits its register (R12). -/
theorem State.regWrite_high (s : State) (m : Master) (lo v : Nat) (q r : RegRow) (h : Pair64 s m lo q r) (hv : v < 2 ^ 32) :
    s.regWrite m (lo + 4) v = (.ok, s.commit64 m r (lo + 4) v) := by
  obtain ⟨hlo, hhi, -, hr, -, hkr, -, hrw, -, hm, hpl, -, hc⟩ := h
  have h4 : 4 ≤ lo + 4 ∧ lowOf64 (lo + 4 - 4) = true := ⟨Nat.le_add_left 4 lo, hlo⟩
  rw [State.regWrite_plain s m (lo + 4) v hr hkr, State.plainWrite_uncovered s m r (lo + 4) v hv hpl hrw hm (hc v),
    if_neg (Bool.eq_false_iff.1 hhi), if_pos h4]

/-- Settles O11: a low write is staged and a high write commits both halves; the switch or swap that the commit may arm leaves
both words and the staged ones alone. -/
theorem lowWritesStageAndHighWritesCommit : Obligations.LowWritesStageAndHighWritesCommit := by
  refine ⟨State.regWrite_low, fun s m lo v q r h hv => ?_⟩
  rw [State.regWrite_high s m lo v q r h hv]
  obtain ⟨hlo, -, hq, -⟩ := h
  obtain ⟨hrdLo, hrdHi, hst⟩ := State.commit64_keeps s m r v hq hlo
  exact ⟨rfl, hrdLo.trans (State.bothHalves_rd_low s m q r lo v), hrdHi.trans (State.bothHalves_rd_high s m q r lo v),
    hst.trans (State.bothHalves_staged s m q r lo v)⟩

end Sys2Proof.Machine
end

section
/-! SUPPORT. A bank's COND_WRITE: what its write leaves in the memory and in the reservation table (R249). -/

namespace Sys2Proof.Machine

/-! ### What meeting errors leaves in the memory -/

/-- What every change of a list keeps, the changes together keep. -/
theorem State.forEach_keeps {α β : Type} (f : State → β) {g : α → State → State} (hg : ∀ x u, f (g x u) = f u) (l : List α) :
    ∀ s : State, f (s.forEach l g) = f s := by
  induction l with
  | nil => exact fun _ => rfl
  | cons x r ih => exact fun s => (ih (g x s)).trans (hg x s)

@[simp] theorem State.logFault_cis (s : State) (c u detail flags : Nat) : (s.logFault c u detail flags).cis = s.cis := by
  unfold State.logFault
  dsimp only
  split_ifs <;> simp

@[simp] theorem State.fault_cis (s : State) (c u detail : Nat) : (s.fault c u detail).cis = s.cis := s.logFault_cis c u detail 0

/-- A row is replaced or retired with its contents (R188). -/
@[simp] theorem State.spareRow_mem (s : State) (b row : Nat) : (s.spareRow b row).cis.mem = s.cis.mem := by
  unfold State.spareRow
  dsimp only
  split_ifs <;> simp

/-- A word's errors are corrected or marked apart from its bytes. -/
@[simp] theorem State.meetWord_mem (s : State) (w : Nat) : (s.meetWord w).cis.mem = s.cis.mem := by
  unfold State.meetWord State.doIf State.putIf
  dsimp only
  split_ifs <;> simp

/-- The marks of a write are apart from the bytes (R186). -/
@[simp] theorem State.writeMarks_mem (s : State) (a n : Nat) (bad : Bool) : (s.writeMarks a n bad).cis.mem = s.cis.mem := by
  refine State.forEach_keeps (·.cis.mem) (fun w u => ?_) _ s
  dsimp only
  split_ifs <;> simp

/-! ### The two answers -/

/-- A bank whose rows are in service takes a write of an unsealed range. -/
theorem State.bankWrite_taken (s : State) (a : Nat) (bs : List Nat) (bad : Bool) (own : Option ResKey)
    (hrows : s.rowsOk (bankOf a) (a % 0x400000) bs.length = true) (hfirst : s.sealed a = false)
    (hlast : s.sealed (a + bs.length - 1) = false) :
    s.bankWrite a bs bad own =
      (.ok, ((s.writeMarks a bs.length bad).cisWrite a bs).resLose (bankOf a) (a % 0x400000) bs.length own) := by
  simp [State.bankWrite, hrows, hfirst, hlast]

/-- Does key `k` hold a valid entry of the granule at address `a` (R247)? -/
def State.holdsResv (s : State) (a : Nat) (k : ResKey) : Bool :=
  s.ord.resv.any (fun r => r.bank == bankOf a && r.granule == a % 0x400000 / 2 ^ s.granLog && r.src == k.src && r.pasid == k.pasid &&
    r.basin == k.basin)

theorem State.holdsResv_iff (s : State) (a : Nat) (k : ResKey) :
    s.holdsResv a k = true ↔ ∃ r ∈ s.ord.resv, r.bank = bankOf a ∧ r.granule = a % 0x400000 / 2 ^ s.granLog ∧ r.src = k.src ∧
      r.pasid = k.pasid ∧ r.basin = k.basin := by
  simp [State.holdsResv, and_assoc]

/-- A bank with the write of a COND_WRITE done and the entries of the granule cleared (R249). -/
def State.condWritten (s : State) (a : Nat) (bs : List Nat) : State :=
  let t := ((s.writeMarks a bs.length false).cisWrite a bs).resLose (bankOf a) (a % 0x400000) bs.length none
  { t with ord := { t.ord with
    resv := t.ord.resv.filter (fun r => !(r.bank == bankOf a && r.granule == a % 0x400000 / 2 ^ s.granLog)) } }

theorem State.condWritten_mem (s : State) (a : Nat) (bs : List Nat) : (s.condWritten a bs).cis.mem = memWrite s.cis.mem a bs :=
  congrArg (memWrite · a bs) (s.writeMarks_mem a bs.length false)

theorem State.condWritten_resv (s : State) (a : Nat) (bs : List Nat) {r : Resv} (hr : r ∈ (s.condWritten a bs).ord.resv) :
    ¬ (r.bank = bankOf a ∧ r.granule = a % 0x400000 / 2 ^ s.granLog) := by
  simpa [-not_and, not_and_or] using (List.mem_filter.1 hr).2

/-- With its range in service, unmirrored and unsealed, a COND_WRITE depends on its key's entry alone (R249). -/
theorem State.bankCond_eq (s : State) (a : Nat) (bs : List Nat) (k : ResKey) (hres : s.resOk a bs.length = true)
    (hrows : s.rowsOk (bankOf a) (a % 0x400000) bs.length = true) (hfirst : s.sealed a = false)
    (hlast : s.sealed (a + bs.length - 1) = false) :
    s.bankCond a bs k = if s.holdsResv a k then (.ok, s.condWritten a bs) else (.reservationLost, s) := by
  simp only [State.bankCond, hres, hrows, hfirst, hlast, State.bankWrite_taken s a bs false none hrows hfirst hlast]
  change (if !s.holdsResv a k then _ else _) = _
  cases s.holdsResv a k <;> rfl

/-- Settles O18: the key's entry decides between the two outcomes of `State.bankCond_eq`. -/
theorem conditionalWritesNeedTheirReservation : Obligations.ConditionalWritesNeedTheirReservation := by
  intro s a bs k hres hrows hfirst hlast
  rw [State.bankCond_eq s a bs k hres hrows hfirst hlast]
  refine ⟨fun hheld => ?_, fun hlost => ?_⟩
  · rw [if_pos ((s.holdsResv_iff a k).2 hheld)]
    exact ⟨rfl, s.condWritten_mem a bs, fun _ => s.condWritten_resv a bs⟩
  · refine if_neg (fun hheld => ?_)
    obtain ⟨r, hr, hentry⟩ := (s.holdsResv_iff a k).1 hheld
    exact hlost r hr hentry

end Sys2Proof.Machine
end

section
/-! SUPPORT. The two reset rows of R460: the fall of COLD_RST_N, and WARM_RST_N while cold reset masks it. -/

namespace Sys2Proof.Machine

/-! ### Words and counts that nothing has set -/

/-- Where no register has been set, each reads its reset value. -/
theorem State.rd_of_regs_nil {s : State} (h : s.regs = []) (off : Nat) : s.rd off = resetWord off := by
  simp only [State.rd, h, tget]

/-- Where nothing has been counted, each counter reads 0 (R420). -/
theorem State.cnt_of_ctrs_nil {s : State} (h : s.ctrs = []) (off : Nat) : s.cnt off = 0 := by
  simp only [State.cnt, h, tgetD, tget, Option.getD_none]

/-! ### The end of a step without a waiting command -/

/-- With no command open, no GUARD_SWAP waits for its answer. -/
theorem State.guardWaits_of_cmds_nil {s : State} (h : s.wh.cmds = []) : s.guardWaits = s := by
  simp only [State.guardWaits, h, List.find?_nil]

/-- With no command open, the end of a step writes the interrupt levels and the record of what was sent, and nothing else. -/
theorem State.settle_of_cmds_nil {s : State} (h : s.wh.cmds = []) :
    ∃ i out, s.settle = { s with irq := i, sent := out } := by
  have hw : s.guardWaits.guardWaits = s := by rw [guardWaits_of_cmds_nil h, guardWaits_of_cmds_nil h]
  unfold State.settle
  rw [hw]
  exact ⟨_, _, rfl⟩

/-! ### Cold reset and the warm reset that it masks -/

/-- The block while COLD_RST_N is low: cleared, no image held, SAFE_OUT high (R458, R460). -/
def State.coldHeld (s : State) : State :=
  { s.coldClear with wh := { s.coldClear.wh with imgHeld := none, coldLow := true, safeOut := true } }

/-- The fall of COLD_RST_N acts in every state, running, in warm reset or retained (R460). -/
theorem exec_coldResetAssert (s : State) : exec .coldResetAssert s = .next s.coldHeld.settle := rfl

@[simp] theorem State.coldHeld_regs (s : State) : s.coldHeld.regs = [] := rfl
@[simp] theorem State.coldHeld_ctrs (s : State) : s.coldHeld.ctrs = [] := rfl
@[simp] theorem State.coldHeld_cmds (s : State) : s.coldHeld.wh.cmds = [] := rfl

/-- A warm reset that comes while COLD_RST_N is low or RST_BUSY is high has no effect of its own (R460, R461). -/
theorem exec_warmReset_masked {s : State} (h : s.wh.coldLow = true ∨ s.wh.rstBusy = true) :
    exec .warmReset s = .next s.settle :=
  congrArg fin (if_pos h.symm)

/-- Settles O28: the held block has no open command, so the end of the step leaves what `State.coldHeld` cleared. The state
beside the registers returns to reset by Table 15-5 and R458 (logs 2 and 58), and RST_BUSY masks by R461 too. -/
theorem coldResetActsAtOnceAndMasksWarmReset : Obligations.ColdResetActsAtOnceAndMasksWarmReset := by
  refine ⟨fun s => ⟨s.coldHeld.settle, exec_coldResetAssert s, ?_⟩, fun _ => exec_warmReset_masked⟩
  obtain ⟨i, out, hend⟩ := State.settle_of_cmds_nil s.coldHeld_cmds
  rw [hend]
  exact ⟨rfl, State.rd_of_regs_nil s.coldHeld_regs, State.cnt_of_ctrs_nil s.coldHeld_ctrs, rfl, rfl, rfl, rfl, rfl, rfl, rfl, rfl⟩

end Sys2Proof.Machine
end

section
/-! SUPPORT. The three forms of a meaning, and what settling does at the end of a step. -/

namespace Sys2Proof.Machine

/-! ### The forms of a meaning -/

/-- A returned credit stops the machine at most while the clocks run (log 76). -/
theorem exec_creditReturn_cases (p t d vc : Nat) (s : State) :
    (∃ u, exec (.creditReturn p t d vc) s = act s u) ∨
      (s.stopped = false ∧ exec (.creditReturn p t d vc) s = .fault .creditOverflow) := by
  change (∃ u, execCreditReturn p t d vc s = act s u) ∨ (s.stopped = false ∧ execCreditReturn p t d vc s = .fault .creditOverflow)
  unfold execCreditReturn
  dsimp only
  split_ifs with hpart hfull
  · exact .inl ⟨_, rfl⟩
  · exact .inr ⟨by simpa using hfull.2, rfl⟩
  · exact .inl ⟨_, rfl⟩

/-- Everything that a meaning can be: clocked logic that acts, logic whose clock never stops, or the stop of a full credit
counter while the clocks run. -/
theorem exec_cases (c : Instr) (s : State) :
    (∃ u, exec c s = act s u) ∨ (c.reachesSleepers = true ∧ ∃ u, exec c s = fin u) ∨
      (s.stopped = false ∧ exec c s = .fault .creditOverflow) := by
  cases c with
  | creditReturn p t d vc =>
    rcases exec_creditReturn_cases p t d vc s with hact | hstop
    exacts [.inl hact, .inr (.inr hstop)]
  | coldReset | coldResetAssert | forcedRetention | imageLoadDone | imageLoadWrite | pllLock | pllLockLoss | sagRelease
  | supplyGoodTimeout | supplyLoss | tclkLockLoss | vidAck | vidTimeout | wakeIn | warmReset => exact .inr (.inl ⟨rfl, _, rfl⟩)
  | _ => exact .inl ⟨_, rfl⟩

/-- A meaning that goes on ends settled, from a state with running clocks or a settled one. -/
theorem exec_settled {c : Instr} {s t : State} (h : exec c s = .next t) (hs : s.stopped = false ∨ s.settled) : t.settled := by
  rcases exec_cases c s with ⟨u, hact⟩ | ⟨-, u, hfin⟩ | ⟨-, hstop⟩
  · exact act_settled (hact.symm.trans h) hs
  · rw [fin_next (hfin.symm.trans h)]
    exact State.settle_settled u
  · cases hstop.symm.trans h

/-- Settles O7: an idle step is clocked logic, and every command's meaning has one of the forms of `exec_cases`. -/
theorem everyStepSettlesTheInterrupts : Obligations.EveryStepSettlesTheInterrupts := by
  intro s t h hs
  unfold step at h
  split at h
  · exact act_settled h hs
  · exact exec_settled h hs

/-- Settles O3: of the forms of `exec_cases` only clocked logic is left, which stands still. -/
theorem stoppedClocksKeepEveryValue : Obligations.StoppedClocksKeepEveryValue := by
  intro c s hs hc
  rcases exec_cases c s with ⟨u, hact⟩ | ⟨hreach, -⟩ | ⟨hrun, -⟩
  · exact hact.trans (act_stopped u hs)
  · exact absurd hreach (by simp [hc])
  · exact absurd hrun (by simp [hs])

/-- Settles O1: the queue is a list whose front a step takes. -/
theorem stepRunsTheFrontCommand : Obligations.StepRunsTheFrontCommand :=
  fun _ _ _ => rfl

/-- Settles O2: the idle cycle is clocked logic. -/
theorem emptyQueueLetsOneCyclePass : Obligations.EmptyQueueLetsOneCyclePass := by
  intro s hq
  have hstep : step s = act s s.idle := by
    unfold step
    rw [hq]
  rw [hstep]
  exact ⟨act_running s.idle, act_stopped s.idle⟩

/-! ### What settling sends -/

theorem mem_foldl_append {α : Type} (f : Nat → List α) (x : α) (l : List Nat) : ∀ a : List α,
    x ∈ l.foldl (fun a n => f n ++ a) a ↔ x ∈ a ∨ ∃ n ∈ l, x ∈ f n := by
  induction l with
  | nil => simp
  | cons n l ih => intro a; simp only [List.foldl_cons, ih, List.mem_append, List.mem_cons, exists_eq_or_imp]; tauto

/-- The levels that have risen since they were last looked at. -/
def State.rises (s : State) (n : Nat) : Bool := bit s.levels n && !bit s.irq.prev n

/-- The messages of the levels that have risen (R392, R410). -/
def State.riseOut (s : State) : List Sent := (List.range 18).foldl (fun a n => if s.rises n then s.rise n ++ a else a) []

theorem State.settle_of_guardWaits {s : State} (h : s.guardWaits = s) :
    s.settle = { s with irq := { prev := s.levels }, sent := s.riseOut ++ s.sent } := by
  have hw : s.guardWaits.guardWaits = s := by rw [h, h]
  unfold State.settle
  rw [hw]
  rfl

theorem State.mem_riseOut (s : State) (x : Sent) :
    x ∈ s.riseOut ↔ ∃ n < 18, bit s.levels n = true ∧ bit s.irq.prev n = false ∧ x ∈ s.rise n := by
  have hout : s.riseOut = (List.range 18).foldl (fun a n => (if s.rises n then s.rise n else []) ++ a) [] := by
    unfold State.riseOut
    congr 1
    funext a n
    split <;> rfl
  rw [hout, mem_foldl_append]
  simp only [List.not_mem_nil, false_or, List.mem_range, List.mem_ite_nil_right, State.rises, Bool.and_eq_true,
    Bool.not_eq_eq_eq_not, Bool.not_true, and_assoc]

/-- Settles O8: with no GUARD_SWAP to answer, settling is the messages of the rises and the new levels. -/
theorem messagesGoOutOnRisesAlone : Obligations.MessagesGoOutOnRisesAlone := by
  intro s h
  refine ⟨s.riseOut, State.settle_of_guardWaits h, s.mem_riseOut, fun hprev => List.eq_nil_iff_forall_not_mem.2 fun x hx => ?_⟩
  obtain ⟨n, -, hnow, hthen, -⟩ := (s.mem_riseOut x).1 hx
  rw [hprev, hnow] at hthen
  cases hthen

end Sys2Proof.Machine
end

section
/-! SUPPORT. The bits of register words and fields, and reading a field after writing one. -/

namespace Sys2Proof.Machine

/-! ### Words by their bits -/

theorem bit_eq_testBit (w i : Nat) : bit w i = w.testBit i := by
  rw [Nat.testBit_eq_decide_div_mod_eq]
  rfl

@[simp] theorem bit_or (v w i : Nat) : bit (v ||| w) i = (bit v i || bit w i) := by
  simp [bit_eq_testBit]

@[simp] theorem bit_and (v w i : Nat) : bit (v &&& w) i = (bit v i && bit w i) := by
  simp [bit_eq_testBit]

@[simp] theorem bit_two_pow_self (i : Nat) : bit (2 ^ i) i = true := by
  simp [bit_eq_testBit]

/-- A register keeps the low 32 bits of what is written. -/
theorem bit_mod_word {i : Nat} (w : Nat) (hi : i < 32) : bit (w % 2 ^ 32) i = bit w i := by
  rw [bit_eq_testBit, bit_eq_testBit, Nat.testBit_mod_two_pow, decide_eq_true hi, Bool.true_and]

theorem testBit_bits (w lo n i : Nat) : (bits w lo n).testBit i = (decide (i < n) && w.testBit (lo + i)) := by
  simp [bits, Nat.testBit_mod_two_pow, Nat.testBit_div_two_pow, Nat.add_comm]

theorem testBit_insBits (w lo n v i : Nat) :
    (insBits w lo n v).testBit i = if i < lo then w.testBit i else if i < lo + n then v.testBit (i - lo) else w.testBit i := by
  have hsplit : insBits w lo n v = 2 ^ lo * (2 ^ n * (w / 2 ^ (lo + n)) + v % 2 ^ n) + w % 2 ^ lo := by
    unfold insBits
    rw [Nat.pow_add]
    ring
  rw [hsplit, Nat.testBit_two_pow_mul_add _ (Nat.mod_lt _ (Nat.two_pow_pos lo)),
    Nat.testBit_two_pow_mul_add _ (Nat.mod_lt _ (Nat.two_pow_pos n))]
  split_ifs with hlo hin hfld hfld
  · simp [Nat.testBit_mod_two_pow, hlo]
  · simp [Nat.testBit_mod_two_pow, hin]
  · omega
  · omega
  · rw [Nat.testBit_div_two_pow]
    congr 1
    omega

theorem bits_lt (w lo n : Nat) : bits w lo n < 2 ^ n := Nat.mod_lt _ (Nat.two_pow_pos n)

/-- A field within the low 32 bits of what is written reads as written. -/
theorem bits_mod_word {lo n : Nat} (w : Nat) (h : lo + n ≤ 32) : bits (w % 2 ^ 32) lo n = bits w lo n := by
  refine Nat.eq_of_testBit_eq fun i => ?_
  rw [testBit_bits, testBit_bits, Nat.testBit_mod_two_pow]
  by_cases hi : i < n
  · simp [show lo + i < 32 by omega]
  · simp [hi]

@[simp] theorem bits_insBits_same (w lo n v : Nat) : bits (insBits w lo n v) lo n = v % 2 ^ n := by
  refine Nat.eq_of_testBit_eq fun i => ?_
  rw [testBit_bits, testBit_insBits, Nat.testBit_mod_two_pow]
  by_cases hi : i < n
  · simp [hi]
  · simp [hi]

/-- Setting one field leaves a field that shares no bit with it. -/
theorem bits_insBits_other {lo n lo' n' : Nat} (w v : Nat) (h : lo + n ≤ lo' ∨ lo' + n' ≤ lo) :
    bits (insBits w lo n v) lo' n' = bits w lo' n' := by
  refine Nat.eq_of_testBit_eq fun i => ?_
  rw [testBit_bits, testBit_bits, testBit_insBits]
  by_cases hi : i < n'
  · rcases h with h | h
    · simp [show ¬ lo' + i < lo by omega, show ¬ lo' + i < lo + n by omega]
    · simp [show lo' + i < lo by omega]
  · simp [hi]

/-! ### Fields -/

theorem State.put_get_same (s : State) {f : Fld} (v : Nat) (h : f.lo + f.w ≤ 32) : (s.put f v).get f = v % 2 ^ f.w := by
  unfold State.get State.put
  rw [State.wr_rd_same, bits_mod_word _ h, bits_insBits_same]

/-- A field that is set to a value of its width reads that value. -/
theorem State.put_get_of_lt (s : State) {f : Fld} {v : Nat} (h : f.lo + f.w ≤ 32) (hv : v < 2 ^ f.w) : (s.put f v).get f = v := by
  rw [State.put_get_same s v h, Nat.mod_eq_of_lt hv]

/-- Setting one field leaves another field of the same register. -/
theorem State.put_get_disjoint (s : State) {f g : Fld} (v : Nat) (hg : g.lo + g.w ≤ 32) (h : f.lo + f.w ≤ g.lo ∨ g.lo + g.w ≤ f.lo) :
    (s.put f v).get g = s.get g := by
  by_cases hoff : g.off = f.off
  · unfold State.get State.put
    rw [hoff, State.wr_rd_same, bits_mod_word _ hg, bits_insBits_other _ _ h]
  · exact State.put_get_other s f g v hoff

/-- A flag that is set to a bit reads that bit. -/
theorem State.put_on_flag (s : State) {f : Fld} (b : Bool) (h : f.lo + f.w ≤ 32) (hw : f.w = 1) : (s.put f (b2n b)).on f = b := by
  unfold State.on
  rw [State.put_get_of_lt s h (by rw [hw]; cases b <;> decide)]
  cases b <;> rfl

/-- Counting changes no field but the saturation events. -/
theorem State.count_get (s : State) (off : Nat) {f : Fld} (h : f.off ≠ R_GLB_SAT_EVT) : (s.count off).get f = s.get f := by
  unfold State.get State.count
  rw [State.bump_rd_other s off 1 h]

/-! ### Counters at their largest count -/

/-- What an increment leaves beside the counts: the group's event where the count has just reached its end. -/
theorem State.bump_regs (s : State) (off n : Nat) :
    (s.bump off n).regs = if s.cnt off < ctrMax ∧ ctrMax ≤ s.cnt off + n
      then tset s.regs R_GLB_SAT_EVT (BitVec.ofNat 32 (s.rd R_GLB_SAT_EVT ||| 2 ^ satGroup off)) else s.regs := by
  unfold State.bump
  dsimp only
  by_cases h : s.cnt off < ctrMax ∧ ctrMax ≤ s.cnt off + n
  · rw [if_pos h, if_pos ⟨h.1, Nat.min_eq_right h.2⟩]
    rfl
  · rw [if_neg h, if_neg (fun hmin => h ⟨hmin.1, min_eq_right_iff.1 hmin.2⟩)]

/-- Registers that are written alike read alike. -/
theorem State.rd_congr {s t : State} (h : s.regs = t.regs) (off : Nat) : s.rd off = t.rd off := by
  unfold State.rd
  rw [h]

theorem satGroup_lt (off : Nat) : satGroup off < 32 := by
  unfold satGroup
  repeat' apply iteInduction (motive := (· < 32)) <;> intro
  all_goals decide

/-- The increment that reaches the end marks the counter's group. -/
theorem State.bump_satEvt (s : State) {off n : Nat} (hlt : s.cnt off < ctrMax) (hge : ctrMax ≤ s.cnt off + n) :
    bit ((s.bump off n).rd R_GLB_SAT_EVT) (satGroup off) = true := by
  have hregs : (s.bump off n).regs = (s.wr R_GLB_SAT_EVT (s.rd R_GLB_SAT_EVT ||| 2 ^ satGroup off)).regs := by
    rw [State.bump_regs, if_pos ⟨hlt, hge⟩]
    rfl
  rw [State.rd_congr hregs, State.wr_rd_same, bit_mod_word _ (satGroup_lt off), bit_or, bit_two_pow_self, Bool.or_true]

/-- The high word of a counter shows SAT exactly at the largest count. -/
theorem State.ctrHi_sat (s : State) {off : Nat} (h : s.cnt off ≤ ctrMax) : bit (s.ctrHi off) 31 = true ↔ s.cnt off = ctrMax := by
  unfold State.ctrHi bit
  unfold ctrMax at *
  by_cases hc : s.cnt off = 2 ^ 48 - 1
  · simp [hc, b2n]
  · simp only [hc, decide_false, b2n, Bool.false_eq_true, if_false, beq_iff_eq, iff_false]
    omega

/-- Settles O14: `State.bump_cnt` gives every count, `State.bump_regs` what the registers show of it. -/
theorem countersStopAtTheirLargestCount : Obligations.CountersStopAtTheirLargestCount := by
  intro s off n hc
  have hcnt : (s.bump off n).cnt off = min (s.cnt off + n) ctrMax := by rw [State.bump_cnt, if_pos rfl]
  have hle : (s.bump off n).cnt off ≤ ctrMax := hcnt ▸ Nat.min_le_right _ _
  refine ⟨hle, fun hn => ?_, State.ctrHi_sat _ hle, fun hmax => ⟨?_, ?_⟩, s.bump_satEvt, fun o ho => ?_⟩
  · rw [hcnt, Nat.min_eq_left hn]
  · rw [hcnt, hmax, Nat.min_eq_right (Nat.le_add_right _ _)]
  · rw [State.bump_regs, if_neg (fun h => absurd hmax h.1.ne)]
  · rw [State.bump_cnt, if_neg ho]

end Sys2Proof.Machine
end

section
/-! SUPPORT. Reads of registers: what they return, what they latch (R8, R10, R35), and semaphores (R387). -/

namespace Sys2Proof.Machine

/-! ### The way of an access to its kind of register -/

/-- The kind of the register at an offset. -/
abbrev kindAt (off : Nat) : Option RegKind := (regRow off).map (·.1.kind)

theorem kindAt_eq {off : Nat} {k : RegKind} (h : kindAt off = some k) :
    ∃ p r d, decodeOffset off = some p ∧ regRow off = some (r, d) ∧ r.kind = k := by
  obtain ⟨⟨r, d⟩, hr, hk⟩ := Option.map_eq_some_iff.1 h
  obtain ⟨p, hp⟩ := decodeOffset_of_regRow hr
  exact ⟨p, r, d, hp, hr, hk⟩

theorem State.regRead_sem (s : State) (m : Master) {off : Nat} (h : kindAt off = some .sem) :
    s.regRead m off = s.semRead m ((off - 0x32000) / 4) := by
  obtain ⟨p, r, d, hp, hr, hk⟩ := kindAt_eq h
  simp only [State.regRead, hp, hr, hk]

theorem State.regWrite_sem (s : State) (m : Master) {off : Nat} (v : Nat) (h : kindAt off = some .sem) :
    s.regWrite m off v = (.ok, s.semWrite m ((off - 0x32000) / 4) v) := by
  obtain ⟨p, r, d, hp, hr, hk⟩ := kindAt_eq h
  simp only [State.regWrite, hp, hr, hk]

/-! ### Latches -/

/-- A word that a master has latched at an offset (R10). -/
abbrev State.latchedWord (s : State) (m : Master) (off : Nat) : Nat := tgetD s.latch (masterIdx m * 2 ^ 24 + off) 0

/-- The high words of a list are latched for a master. -/
abbrev State.latchAll (s : State) (i : Nat) (l : List (Nat × Nat)) : State := s.forEach l (fun e u => u.latchHi i e.1 e.2)

/-- Latching changes latches alone, and none of an earlier master. -/
theorem State.latchAll_frame (i : Nat) (l : List (Nat × Nat)) : ∀ s : State,
    s.latchAll i l = { s with latch := (s.latchAll i l).latch } ∧
    ∀ k < i * 2 ^ 24, tgetD (s.latchAll i l).latch k 0 = tgetD s.latch k 0 := by
  induction l with
  | nil => exact fun s => ⟨rfl, fun _ _ => rfl⟩
  | cons e r ih =>
    intro s
    obtain ⟨hrest, hkeep⟩ := ih (s.latchHi i e.1 e.2)
    refine ⟨hrest, fun k hk => (hkeep k hk).trans ?_⟩
    unfold State.latchHi
    rw [tgetD_tset, if_neg (by omega)]

/-- What a read of a plain register does: a latched word is returned, any other word is seen and its high words are latched. -/
theorem State.regRead_plain (s : State) (m : Master) {off : Nat} (h : kindAt off = some .plain) :
    s.regRead m off = if latchedOff off then (s.latchedWord m off, s) else (s.viewWord off, s.latchAll (masterIdx m) (s.latches off)) := by
  obtain ⟨p, r, d, hp, hr, hk⟩ := kindAt_eq h
  simp only [State.regRead, hp, hr, hk]

/-- A high word reads as latched, whatever the register's kind. -/
theorem State.regRead_high (s : State) (m : Master) {off : Nat} {p : RegPlace} {r : RegRow} {d : Nat}
    (hp : decodeOffset off = some p) (hr : regRow off = some (r, d)) (hh : r.isHi p.rel = true) :
    s.regRead m off = (s.latchedWord m off, s) := by
  cases hk : r.kind with
  | cntHi => simp only [State.regRead, hp, hr, hk]
  | pair => simp only [State.regRead, hp, hr, hk, hh, if_true]
  | plain | cntLo | sem => simp [RegRow.isHi, hk] at hh

/-- The low word of a counter, whose high word it latches. -/
theorem State.regRead_low (s : State) (m : Master) {off : Nat} {p : RegPlace} {r : RegRow} {d : Nat}
    (hp : decodeOffset off = some p) (hr : regRow off = some (r, d)) (hk : r.kind = .pair ∨ r.kind = .cntLo)
    (hh : r.isHi p.rel = false) :
    s.regRead m off = (s.cnt off % 2 ^ 32, s.latchHi (masterIdx m) (highOf off) (s.ctrHi off)) := by
  rcases hk with hk | hk <;> simp only [State.regRead, hp, hr, hk, hh, Bool.false_eq_true, if_false]

/-- Everything that a read can do: the latches of its master change, or a semaphore is read. -/
theorem State.regRead_cases (s : State) (m : Master) (off : Nat) :
    (∃ v l, s.regRead m off = (v, s.latchAll (masterIdx m) l)) ∨ s.regRead m off = s.semRead m ((off - 0x32000) / 4) := by
  unfold State.regRead
  split
  · split
    · exact .inr rfl
    · exact .inl ⟨_, [], rfl⟩
    · split
      exacts [.inl ⟨_, [], rfl⟩, .inl ⟨_, [(_, _)], rfl⟩]
    · split
      exacts [.inl ⟨_, [], rfl⟩, .inl ⟨_, [(_, _)], rfl⟩]
    · split
      exacts [.inl ⟨_, [], rfl⟩, .inl ⟨_, s.latches off, rfl⟩]
  · exact .inl ⟨_, [], rfl⟩

/-- The debug master reads a semaphore without an effect (R387). -/
theorem State.semRead_debug (s : State) (n : Nat) : s.semRead .debug n = (s.get (SEM_OWN_OWNER n), s) := rfl

/-- Settles O10: a read changes the reader's latches or a semaphore, and the debug master's latches come last. -/
theorem debugReadsChangeNothingElse : Obligations.DebugReadsChangeNothingElse := by
  intro s off
  rcases s.regRead_cases .debug off with ⟨v, l, h⟩ | h
  · rw [h]
    exact State.latchAll_frame 3 l s
  · rw [h, State.semRead_debug]
    exact ⟨rfl, fun _ _ => rfl⟩

/-- Settles O9: counters by `State.regRead_low` and `State.regRead_high`, the two plain registers that latch by
`State.regRead_plain`. -/
theorem snapshotReadsLatchForTheirReader : Obligations.SnapshotReadsLatchForTheirReader := by
  refine ⟨fun s m off p r d hp hr hk hh => ?_, fun s m off p r d hp hr hh => State.regRead_high s m hp hr hh,
    fun s m k => ?_, fun s m k => ?_⟩
  · rw [State.regRead_low s m hp hr hk hh]
    exact ⟨rfl, fun k => tgetD_tset _ _ _ _ _, rfl⟩
  · have hl : latchedOff R_TM_NOW_NS = false := by decide
    rw [State.regRead_plain s m (by decide), hl]
    refine ⟨rfl, ?_⟩
    change tgetD (tset (tset s.latch _ _) _ _) k 0 = _
    rw [tgetD_tset, tgetD_tset]
  · have hl : latchedOff R_TM_FRAME_NUM_LO = false := by decide
    rw [State.regRead_plain s m (by decide), hl]
    refine ⟨rfl, ?_⟩
    exact tgetD_tset _ _ _ _ _

/-! ### Semaphores (R387) -/

theorem kindAt_sem {n : Nat} (h : n < 32) : kindAt (R_SEM n) = some .sem := by
  revert n
  decide +kernel

theorem R_SEM_index (n : Nat) : (R_SEM n - 0x32000) / 4 = n := by
  unfold R_SEM
  omega

theorem ownerId_ne_zero {m : Master} (h : m ≠ .debug) : ownerId m ≠ 0 := by
  cases m with
  | portA p => exact Nat.ne_of_gt (Nat.lt_of_lt_of_le (by decide) (Nat.le_add_right 0x20 p.val))
  | portB | wellhead => decide
  | debug => exact absurd rfl h

theorem ownerId_lt (m : Master) : ownerId m < 2 ^ 8 := by
  cases m with
  | portA p => exact Nat.lt_of_lt_of_le (Nat.add_lt_add_left p.isLt 0x20) (by decide)
  | portB | wellhead | debug => decide

/-- A free semaphore, or the reader's own, becomes the reader's. -/
theorem State.semRead_taken (s : State) (m : Master) (n : Nat) (hm : m ≠ .debug)
    (h : s.get (SEM_OWN_OWNER n) = 0 ∨ s.get (SEM_OWN_OWNER n) = ownerId m) :
    s.semRead m n = (0, { s.put (SEM_OWN_OWNER n) (ownerId m) with wh := { s.wh with semAt := tset s.wh.semAt n s.ns } }) := by
  unfold State.semRead
  dsimp only
  rw [if_neg (ownerId_ne_zero hm), if_pos h]
  rfl

/-- Another's semaphore reads as its owner. -/
theorem State.semRead_other (s : State) (m : Master) (n : Nat) (h0 : s.get (SEM_OWN_OWNER n) ≠ 0)
    (h : s.get (SEM_OWN_OWNER n) ≠ ownerId m) : s.semRead m n = (s.get (SEM_OWN_OWNER n), s) := by
  unfold State.semRead
  dsimp only
  rw [if_neg (not_or.2 ⟨h0, h⟩), ite_self]

theorem SEM_OWN_OWNER_fits (n : Nat) : (SEM_OWN_OWNER n).lo + (SEM_OWN_OWNER n).w ≤ 32 := by
  change 0 + 8 ≤ 32
  decide

/-- Settles O15: reads by the three cases of `State.semRead`, writes by the two of `State.semWrite`. -/
theorem semaphoresBelongToTheirOwner : Obligations.SemaphoresBelongToTheirOwner := by
  intro s m n v hn
  have hread (m : Master) : s.regRead m (R_SEM n) = s.semRead m n := by
    rw [State.regRead_sem s m (kindAt_sem hn), R_SEM_index]
  have hwrite : s.regWrite m (R_SEM n) v = (.ok, s.semWrite m n v) := by
    rw [State.regWrite_sem s m v (kindAt_sem hn), R_SEM_index]
  rw [hread m, hread .debug, hwrite]
  refine ⟨fun hm hfree => ?_, fun _ h0 h => s.semRead_other m n h0 h, s.semRead_debug n, fun hm hown hv => ?_, fun h => ?_⟩
  · rw [s.semRead_taken m n hm hfree]
    exact ⟨rfl, s.put_get_of_lt (SEM_OWN_OWNER_fits n) (ownerId_lt m), tget_tset_same _ _ _⟩
  · unfold State.semWrite
    dsimp only
    rw [if_pos ⟨ownerId_ne_zero hm, hown, hv⟩]
    exact s.put_get_of_lt (SEM_OWN_OWNER_fits n) (Nat.two_pow_pos 8)
  · unfold State.semWrite
    dsimp only
    rw [if_neg]
    rintro ⟨-, hown, hv⟩
    exact h.elim (· hown) (· hv)

end Sys2Proof.Machine
end

section
/-! SUPPORT. Writes that a rule refuses, locks, and the doorbells of the mailboxes (R346, R392, R463). -/

namespace Sys2Proof.Machine

/-! ### Refused writes -/

/-- The bits of a register that a master can write. -/
abbrev RegRow.writable (r : RegRow) (m : Master) (off : Nat) : Nat := (r.rw ||| r.w1c ||| r.w1s ||| r.wo) &&& masterMask m off

/-- A write all of whose bits the first rule covers is dropped with that rule's status. -/
theorem State.plainWrite_refused (s : State) (m : Master) (r : RegRow) (off v : Nat) {mask : Nat} {st : Status} {rest : List (Nat × Status)}
    (hw : RegRow.writable r m off ≠ 0) (hc : s.covers m off v = (mask, st) :: rest)
    (hall : RegRow.writable r m off &&& mask = RegRow.writable r m off) :
    s.plainWrite m r off v = (st, s.refusal off st) := by
  unfold State.plainWrite
  dsimp only
  rw [if_neg hw, hc, List.find?_cons_of_pos (by simpa using hall)]

/-- A write that no rule covers, by a master that may write every bit of a register that is no half of a 64-bit one. -/
theorem State.plainWrite_free (s : State) (m : Master) (r : RegRow) (off v : Nat) (hw : RegRow.writable r m off ≠ 0)
    (hm : masterMask m off = full32) (hoff : off ≠ R_GLB_PLANE_CTL) (hlo : lowOf64 off = false) (hhi : ¬(4 ≤ off ∧ lowOf64 (off - 4) = true))
    (hc : s.covers m off v = []) : s.plainWrite m r off v = (.ok, s.effect m r off (v &&& full32)) := by
  unfold State.plainWrite
  dsimp only
  rw [if_neg hw, hc, List.find?_nil]
  simp only [if_neg hoff, hlo, if_neg hhi, Bool.false_eq_true, if_false, hm, Nat.xor_self, List.foldl_nil, List.filter_nil,
    State.forEach, firstRule, Nat.and_zero, Nat.or_zero, Nat.xor_zero]

/-! ### Locks (R346) -/

theorem State.covers_locked (s : State) (m : Master) {off g : Nat} (v : Nat) (hg : lockGroup off = some g)
    (hl : bit (s.get SC_LOCK_GROUPS) g = true) : ∃ rest, s.covers m off v = (lockMask off, .locked) :: rest := by
  unfold State.covers
  simp only [hg, hl, rule, if_true]
  exact ⟨_, rfl⟩

/-- A lock bit shows after a write where it showed before or was asked for. -/
theorem State.setLocks_bit (s : State) (v : Nat) {g : Nat} (hg : g < 7) :
    bit ((s.setLocks v).get SC_LOCK_GROUPS) g = (bit (s.get SC_LOCK_GROUPS) g || bit v g) := by
  have hlt : s.get SC_LOCK_GROUPS ||| v % 128 < 2 ^ 7 := Nat.or_lt_two_pow (bits_lt _ _ _) (Nat.mod_lt _ (by decide))
  have hv : bit (v % 2 ^ 7) g = bit v g := by
    rw [bit_eq_testBit, bit_eq_testBit, Nat.testBit_mod_two_pow, decide_eq_true hg, Bool.true_and]
  unfold State.setLocks
  rw [State.put_get_of_lt s (by decide) hlt, bit_or]
  exact congrArg _ hv

/-- Settles O13: the lock's rule comes first, and a refusal with LOCKED changes nothing. -/
theorem lockedRegistersDropEveryWrite : Obligations.LockedRegistersDropEveryWrite := by
  refine ⟨fun s m off v g d r hr hk hg hl hw hall => ?_, fun s v g hg h => ?_⟩
  · obtain ⟨rest, hc⟩ := s.covers_locked m v hg hl
    rw [State.regWrite_plain s m off v (by rw [hr]; rfl) hk, State.plainWrite_refused s m r off v hw hc hall]
    rfl
  · rw [State.setLocks_bit s v hg]
    simpa using h

/-! ### Doorbells (R388, R392) -/

/-- The row of a doorbell: one bit that a write sets. -/
def dbRow : RegRow := ⟨4, 4, 1, .plain, 0, 0, 0, 0, 1⟩

theorem regRow_db {mb : Nat} (h : mb < 2) : (regRow (R_MB_DB mb)).map (·.1) = some dbRow := by
  revert mb
  decide +kernel

theorem masterMask_db (m : Master) {mb : Nat} (h : mb < 2) : masterMask m (R_MB_DB mb) = full32 := by
  obtain rfl | rfl : mb = 0 ∨ mb = 1 := by omega
  · rfl
  · rfl

theorem State.regWrite_db (s : State) (m : Master) {mb : Nat} (v : Nat) (h : mb < 2) :
    s.regWrite m (R_MB_DB mb) v = s.plainWrite m dbRow (R_MB_DB mb) v :=
  State.regWrite_plain s m _ v (regRow_db h) rfl

theorem writable_db (m : Master) {mb : Nat} (h : mb < 2) : RegRow.writable dbRow m (R_MB_DB mb) = 1 := by
  unfold RegRow.writable
  rw [masterMask_db m h]
  rfl

/-- The one rule over a doorbell: it is busy unless its mailbox is IDLE, and MBA's while another partition holds SEM0. -/
theorem State.covers_db (s : State) (m : Master) {mb : Nat} (v : Nat) (h : mb < 2) :
    s.covers m (R_MB_DB mb) v = rule ((mb == 0 && s.sem0Other m) || s.get (MB_STAT_STATE mb) != mbIDLE) full32 .busy := by
  obtain rfl | rfl : mb = 0 ∨ mb = 1 := by omega
  · exact List.append_nil _
  · exact List.append_nil _

theorem State.put_whState (s : State) {f : Fld} (v : Nat) (h : R_GLB_WH_STAT ≠ f.off) : (s.put f v).whState = s.whState :=
  State.put_get_other s f GLB_WH_STAT_STATE v h

/-- A doorbell that rings while the Wellhead is up or booting: the mailbox is PENDING and the Wellhead will hear. -/
theorem State.doorbell_rings (s : State) (mb hpart : Nat) (h : s.whState = whUP ∨ s.whState = whBOOTING) :
    (s.doorbell mb hpart).get (MB_STAT_STATE mb) = mbPENDING ∧ (s.doorbell mb hpart).wh.rung = s.wh.rung ++ [mb] := by
  have hissuer (b : Bool) : (s.doIf b (·.put (MB_ISSUER_HPART 0) hpart)).wh = s.wh ∧
      (s.doIf b (·.put (MB_ISSUER_HPART 0) hpart)).whState = s.whState := by
    cases b
    · exact ⟨rfl, rfl⟩
    · exact ⟨rfl, s.put_whState hpart (by decide)⟩
  obtain ⟨hwh, hst⟩ := hissuer (mb == 0)
  have hstat : R_GLB_WH_STAT ≠ (MB_STAT_STATE mb).off := by
    simp only [R_GLB_WH_STAT, MB_STAT_STATE, R_MB_STAT]
    omega
  have hup := (State.put_whState (s.doIf (mb == 0) (·.put (MB_ISSUER_HPART 0) hpart)) mbPENDING hstat).trans hst
  unfold State.doorbell
  have hcase : ((s.doIf (mb == 0) (·.put (MB_ISSUER_HPART 0) hpart)).put (MB_STAT_STATE mb) mbPENDING).whState = whUP ∨
      ((s.doIf (mb == 0) (·.put (MB_ISSUER_HPART 0) hpart)).put (MB_STAT_STATE mb) mbPENDING).whState = whBOOTING := by
    rw [hup]
    exact h
  refine (if_pos hcase).symm ▸ ⟨State.put_get_of_lt _ (by change 0 + 3 ≤ 32; decide) (by change 1 < 2 ^ 3; decide), ?_⟩
  rw [← hwh]

/-- Where no rule covers it, a write of 1 rings the doorbell. -/
theorem State.effect_db (s : State) (m : Master) {mb v : Nat} (h : mb < 2) (hv : bit v 0 = true) :
    ∃ hpart, s.effect m dbRow (R_MB_DB mb) (v &&& full32) = s.doorbell mb hpart := by
  have hbit : bit (v &&& full32) 0 = true := by rw [bit_and, hv]; rfl
  obtain rfl | rfl : mb = 0 ∨ mb = 1 := by omega
  · exact ⟨_, if_pos hbit⟩
  · exact ⟨_, if_pos hbit⟩

/-- Settles O16: `State.covers_db` decides between a ring and BUSY. -/
theorem doorbellsRingOnlyIdleMailboxes : Obligations.DoorbellsRingOnlyIdleMailboxes := by
  refine ⟨fun s m mb v hmb hv hshared hidle hup => ?_, fun s m mb v hmb hbusy => ?_⟩
  · have hfree : s.covers m (R_MB_DB mb) v = [] := by
      have hs : (mb == 0 && s.sem0Other m) = false := by
        by_cases h0 : mb = 0
        · rw [hshared h0, Bool.and_false]
        · rw [beq_false_of_ne h0, Bool.false_and]
      rw [State.covers_db s m v hmb, hs, hidle]
      rfl
    obtain ⟨hpart, heff⟩ := s.effect_db m hmb hv
    have hw : RegRow.writable dbRow m (R_MB_DB mb) ≠ 0 := by rw [writable_db m hmb]; decide
    have hoff : ∀ mb < 2, R_MB_DB mb ≠ R_GLB_PLANE_CTL ∧ lowOf64 (R_MB_DB mb) = false ∧ lowOf64 (R_MB_DB mb - 4) = false := by decide +kernel
    obtain ⟨hpl, hlo, hhi⟩ := hoff mb hmb
    rw [State.regWrite_db s m v hmb,
      State.plainWrite_free s m dbRow _ v hw (masterMask_db m hmb) hpl hlo (fun h => by simp [hhi] at h) hfree, heff]
    exact ⟨rfl, s.doorbell_rings mb hpart hup⟩
  · have hc : s.covers m (R_MB_DB mb) v = [(full32, .busy)] := by
      rw [State.covers_db s m v hmb]
      exact if_pos (by simp [hbusy])
    have hw := writable_db m hmb
    rw [State.regWrite_db s m v hmb, State.plainWrite_refused s m dbRow _ v (by rw [hw]; decide) hc (by rw [hw]; decide)]
    obtain rfl | rfl : mb = 0 ∨ mb = 1 := by omega
    · rfl
    · rfl

end Sys2Proof.Machine
end

section
/-! SUPPORT. Accesses to offsets no register occupies (R13), and the ring of fault records (R408, R409). -/
namespace Sys2Proof.Machine

/-- With nothing waiting in CX, an access that can be moved at once is moved in the first round. -/
theorem access_moved (s u : State) (m : Master) (off : Nat) (w : Option Word) (hm : m ≠ .debug) (hon : s.cxOn = true)
    (hq : s.wh.cxq = []) (hs : (s.enter m off w false).cxStep (masterIdx m) = (true, u)) : s.access m off w = u.cxLook 3 := by
  have hacc : s.access m off w = (s.enter m off w false).cxRun := by
    cases m with
    | debug => exact absurd rfl hm
    | portA => rfl
    | portB => rfl
    | wellhead => rfl
  have hq' : (s.enter m off w false).wh.cxq = [⟨m, off, w, false, none⟩] := by simp [State.enter, hq]
  have hround := cxRound_grant _ _ ⟨m, off, w, false, none⟩ hq' (masterIdx_lt m hm) hs
  have hon' : (s.enter m off w false).cxOn = true := hon
  simp only [hacc, State.cxRun, hon', if_true, hq', List.length_singleton]
  change (State.cxDrain 4 _).dbgDrain = _
  simp only [State.cxDrain, hround, if_true, State.cxLook]

/-- An access with a right and a path to an offset no register occupies is answered without looking at its domain (R13). -/
theorem access_unoccupied (s : State) (m : Master) (off t : Nat) (w : Option Word) (hm : m ≠ .debug) (hon : s.cxOn = true)
    (hq : s.wh.cxq = []) (hr : s.portRight m off w.isSome = true) (ht : cxTarget off = some t) (hp : cxPath m t = true)
    (hoff : off < 0x800000) (hrow : regRow off = none) :
    s.access m off w = (s.enter m off w false).cxEnd m off w .unsupported 0 := by
  have hright : (s.enter m off w false).portRight m off w.isSome = true := by rw [← hr]; cases m <;> rfl
  have hplace : (s.enter m off w false).cxPlace m off w.isSome = none := by
    simp only [State.cxPlace, if_neg (by omega : ¬ 0x800000 ≤ off), hrow, Option.map_none]
  refine access_moved s _ m off w hm hon hq ?_
  simp [State.cxStep, enter_first s m off w hq, State.cxServe, hright, ht, hp, hplace, State.cxDone]

/-- Settles O12: nothing is placed at the offset, so CX answers at once. -/
theorem unoccupiedOffsetsAnswerUnsupported : Obligations.UnoccupiedOffsetsAnswerUnsupported := by
  refine ⟨fun s m off t hm hon hrun hq hr ht hp hoff hrow => ?_, fun s m off t w hm hon hrun hq hr ht hp hoff hrow => ?_⟩
  · exact (act_running _ hrun).trans (by rw [access_unoccupied s m off t none hm hon hq hr ht hp hoff hrow])
  · exact (act_running _ hrun).trans (by rw [access_unoccupied s m off t (some w) hm hon hq hr ht hp hoff hrow])

/-- What a count changes in the statistics counters. -/
theorem State.bump_ctrs (s : State) (off n : Nat) : (s.bump off n).ctrs = tset s.ctrs off (min (s.cnt off + n) ctrMax) := by
  unfold State.bump
  dsimp only
  split <;> rfl

/-- Equal counters count to equal counters. -/
theorem State.count_ctrs_congr {s t : State} (h : s.ctrs = t.ctrs) (off : Nat) : (s.count off).ctrs = (t.count off).ctrs := by
  rw [State.count, State.count, State.bump_ctrs, State.bump_ctrs, State.cnt, State.cnt, h]

/-! ### A new fault record: its words, then the pointers of the ring, then its class bit -/

/-- The first word of a fault record: class, unit, flags and whether another class stood before it. -/
def fltWord0 (c u flags second : Nat) : Nat := c + u % 256 * 2 ^ 8 + flags % 4 * 2 ^ 24 + second * 2 ^ 26

/-- The four words of the record at `i` of the ring. -/
def State.fltStore (s : State) (i w0 detail : Nat) : State :=
  (((s.wr (fltOff i 0) w0).wr (fltOff i 1) s.nowNs).wr (fltOff i 2) s.nowSec).wr (fltOff i 3) detail

/-- The pointers of the ring past a record written at `w`. -/
def State.fltAdvance (s : State) (w unread oldest : Nat) : State :=
  if unread = 64 then ((s.put GLB_FLT_WR_NEXT ((w + 1) % 64)).put GLB_FLT_RD_OLDEST ((oldest + 1) % 64)).count C_GLB_FLT_OVF
  else (s.put GLB_FLT_WR_NEXT ((w + 1) % 64)).put GLB_FLT_WR_UNREAD (unread + 1)

/-- The class bit of a fault in GLB_ERR_SUM. -/
def State.errMark (s : State) (c : Nat) : State := s.wr R_GLB_ERR_SUM (s.rd R_GLB_ERR_SUM ||| 2 ^ c)

theorem State.logFault_folds (s : State) {c u : Nat} (detail flags : Nat) (h : s.folds c u = true) :
    s.logFault c u detail flags = s.wr (fltOff ((s.get GLB_FLT_WR_NEXT + 63) % 64) 0)
      (insBits (s.rd (fltOff ((s.get GLB_FLT_WR_NEXT + 63) % 64) 0)) 16 8
        (min (bits (s.rd (fltOff ((s.get GLB_FLT_WR_NEXT + 63) % 64) 0)) 16 8 + 1) 255)) := if_pos h

theorem State.logFault_new (s : State) {c u : Nat} (detail flags : Nat) (h : s.folds c u = false) :
    s.logFault c u detail flags =
      (((s.fltStore (s.get GLB_FLT_WR_NEXT) (fltWord0 c u flags (b2n (bits (s.rd R_GLB_ERR_SUM) 1 11 != 0))) detail).fltAdvance
        (s.get GLB_FLT_WR_NEXT) (s.get GLB_FLT_WR_UNREAD) (s.get GLB_FLT_RD_OLDEST)).errMark c) :=
  if_neg (by rw [h]; decide)

theorem State.errMark_rd (s : State) (c : Nat) {o : Nat} (h : o ≠ R_GLB_ERR_SUM) : (s.errMark c).rd o = s.rd o :=
  State.wr_rd_other s _ h

theorem State.errMark_get (s : State) (c : Nat) {f : Fld} (h : f.off ≠ R_GLB_ERR_SUM) : (s.errMark c).get f = s.get f := by
  unfold State.get
  rw [s.errMark_rd c h]

theorem State.errMark_bit (s : State) {c : Nat} (h : c < 32) : bit ((s.errMark c).rd R_GLB_ERR_SUM) c = true := by
  rw [State.errMark, State.wr_rd_same, bit_mod_word _ h, bit_or, bit_two_pow_self, Bool.or_true]

/-- The pointers are the only registers that the ring's advance changes, but for a counter's saturation. -/
theorem State.fltAdvance_rd (s : State) (w unread oldest : Nat) {o : Nat} (hw : o ≠ R_GLB_FLT_WR) (hr : o ≠ R_GLB_FLT_RD)
    (he : o ≠ R_GLB_SAT_EVT) : (s.fltAdvance w unread oldest).rd o = s.rd o := by
  unfold State.fltAdvance State.count
  split_ifs
  · rw [State.bump_rd_other _ _ _ he, State.put_rd_other _ _ _ hr, State.put_rd_other _ _ _ hw]
  · rw [State.put_rd_other _ _ _ hw, State.put_rd_other _ _ _ hw]

theorem State.fltAdvance_next (s : State) (w unread oldest : Nat) :
    (s.fltAdvance w unread oldest).get GLB_FLT_WR_NEXT = (w + 1) % 64 := by
  unfold State.fltAdvance
  split_ifs
  · rw [State.count_get _ _ (by decide), State.put_get_other _ _ _ _ (by decide)]
    exact State.put_get_of_lt _ (by decide) (Nat.mod_lt _ (by decide))
  · rw [State.put_get_disjoint _ _ (by decide) (by decide)]
    exact State.put_get_of_lt _ (by decide) (Nat.mod_lt _ (by decide))

theorem State.fltAdvance_unread (s : State) (w oldest : Nat) {unread : Nat} (h : unread ≤ 64) (hs : s.get GLB_FLT_WR_UNREAD = unread) :
    (s.fltAdvance w unread oldest).get GLB_FLT_WR_UNREAD = min (unread + 1) 64 := by
  unfold State.fltAdvance
  split_ifs with hfull
  · rw [State.count_get _ _ (by decide), State.put_get_other _ _ _ _ (by decide),
      State.put_get_disjoint _ _ (by decide) (by decide), hs]
    omega
  · refine (State.put_get_of_lt _ (by decide) ?_).trans (by omega)
    change unread + 1 < 128
    omega

theorem State.fltAdvance_full (s : State) (w oldest : Nat) :
    (s.fltAdvance w 64 oldest).get GLB_FLT_RD_OLDEST = (oldest + 1) % 64 ∧
      (s.fltAdvance w 64 oldest).ctrs = (s.count C_GLB_FLT_OVF).ctrs := by
  rw [State.fltAdvance, if_pos rfl, State.count_get _ _ (by decide)]
  exact ⟨State.put_get_of_lt _ (by decide) (Nat.mod_lt _ (by decide)),
    State.count_ctrs_congr (t := s) (by rw [State.put_ctrs, State.put_ctrs]) _⟩

theorem State.fltStore_rd (s : State) (i w0 detail : Nat) {o : Nat} (h : o < 0x800) : (s.fltStore i w0 detail).rd o = s.rd o := by
  have hne (d : Nat) : o ≠ fltOff i d := by unfold fltOff; omega
  unfold State.fltStore
  rw [State.wr_rd_other _ _ (hne 3), State.wr_rd_other _ _ (hne 2), State.wr_rd_other _ _ (hne 1), State.wr_rd_other _ _ (hne 0)]

theorem State.fltStore_word0 (s : State) (i w0 detail : Nat) : (s.fltStore i w0 detail).rd (fltOff i 0) = w0 % 2 ^ 32 := by
  have hne (d : Nat) (h : 0 < d) : fltOff i 0 ≠ fltOff i d := by unfold fltOff; omega
  unfold State.fltStore
  rw [State.wr_rd_other _ _ (hne 3 (by decide)), State.wr_rd_other _ _ (hne 2 (by decide)), State.wr_rd_other _ _ (hne 1 (by decide)),
    State.wr_rd_same]

theorem State.fltStore_ctrs (s : State) (i w0 detail : Nat) : (s.fltStore i w0 detail).ctrs = s.ctrs := rfl

theorem State.fltStore_detail (s : State) (i w0 detail : Nat) : (s.fltStore i w0 detail).rd (fltOff i 3) = detail % 2 ^ 32 :=
  State.wr_rd_same _ _ _

/-- What the words of a new record read once its fault is logged. -/
theorem State.logFault_rd_record (s : State) {c u : Nat} (detail flags d : Nat) (h : s.folds c u = false) :
    (s.logFault c u detail flags).rd (fltOff (s.get GLB_FLT_WR_NEXT) d) =
      (s.fltStore (s.get GLB_FLT_WR_NEXT) (fltWord0 c u flags (b2n (bits (s.rd R_GLB_ERR_SUM) 1 11 != 0))) detail).rd
        (fltOff (s.get GLB_FLT_WR_NEXT) d) := by
  have hne {o : Nat} (ho : o < 0x800) : fltOff (s.get GLB_FLT_WR_NEXT) d ≠ o := by unfold fltOff; omega
  rw [State.logFault_new s detail flags h, State.errMark_rd _ _ (hne (by decide)),
    State.fltAdvance_rd _ _ _ _ (hne (by decide)) (hne (by decide)) (hne (by decide))]

/-- Settles O17: `State.logFault_folds` and `State.logFault_new` are its two halves. -/
theorem faultRecordsFoldOrAdvanceTheRing : Obligations.FaultRecordsFoldOrAdvanceTheRing := by
  refine ⟨fun s c u detail flags hf => ?_, fun s c u detail flags hc hf hnext hun => ?_⟩
  · rw [State.logFault_folds s detail flags hf]
    refine ⟨fun o ho => State.wr_rd_other s _ ho, ?_, rfl⟩
    rw [State.wr_rd_same, bits_mod_word _ (by decide), bits_insBits_same, Nat.mod_eq_of_lt]
    exact (Nat.min_le_right _ _).trans_lt (by decide)
  · have hw0 := (State.logFault_rd_record s detail flags 0 hf).trans (State.fltStore_word0 ..)
    refine ⟨?_, ?_, ?_, ?_, ?_, ?_, fun hfull => ?_⟩
    · rw [State.logFault_new s detail flags hf, State.errMark_get _ _ (by decide), State.fltAdvance_next]
    · rw [State.logFault_new s detail flags hf, State.errMark_get _ _ (by decide)]
      exact State.fltAdvance_unread _ _ _ hun (congrArg (bits · _ _) (State.fltStore_rd _ _ _ _ (by decide)))
    · rw [hw0, bits_mod_word _ (by decide)]
      simp only [bits, fltWord0]
      omega
    · rw [hw0, bits_mod_word _ (by decide)]
      simp only [bits, fltWord0]
      omega
    · exact (State.logFault_rd_record s detail flags 3 hf).trans (State.fltStore_detail ..)
    · rw [State.logFault_new s detail flags hf]
      exact State.errMark_bit _ (by omega)
    · rw [State.logFault_new s detail flags hf, hfull, State.errMark_get _ _ (by decide)]
      obtain ⟨hold, hctrs⟩ := State.fltAdvance_full
        (s.fltStore (s.get GLB_FLT_WR_NEXT) (fltWord0 c u flags (b2n (bits (s.rd R_GLB_ERR_SUM) 1 11 != 0))) detail)
        (s.get GLB_FLT_WR_NEXT) (s.get GLB_FLT_RD_OLDEST)
      exact ⟨hold, hctrs.trans (State.count_ctrs_congr (State.fltStore_ctrs ..) _)⟩

end Sys2Proof.Machine
end

section
/-! SUPPORT. The cistern's memory under writes, zeroing and copies (R186, R193, R206, R317). -/
namespace Sys2Proof.Machine

/-! ### Tables under filters and moves -/

theorem tsorted_filter {α : Type} (t : List (Nat × α)) (p : Nat × α → Bool) (h : tsorted t = true) : tsorted (t.filter p) = true := by
  induction t with
  | nil => rfl
  | cons x r ih =>
    obtain ⟨a, v⟩ := x
    obtain ⟨ha, hr⟩ := (tsorted_cons a v r).1 h
    rw [List.filter_cons]
    split_ifs
    · exact (tsorted_cons _ _ _).2 ⟨fun y hy => ha y (List.mem_filter.1 hy).1, ih hr⟩
    · exact ih hr

/-- In a sorted table the key looked up is the first entry's or is in the rest. -/
theorem tget_cons {α : Type} {a : Nat} {v : α} {r : List (Nat × α)} (h : tsorted ((a, v) :: r) = true) (k : Nat) :
    tget ((a, v) :: r) k = if a = k then some v else tget r k := by
  obtain ⟨ha, -⟩ := (tsorted_cons a v r).1 h
  by_cases hlt : k < a
  · rw [tget_above r a k ha (by omega)]
    simp only [tget, if_pos hlt]
  · simp only [tget, if_neg hlt]

theorem tget_filter {α : Type} (t : List (Nat × α)) (q : Nat → Bool) (k : Nat) (h : tsorted t = true) :
    tget (t.filter (fun c => q c.1)) k = if q k then tget t k else none := by
  induction t with
  | nil => simp [tget]
  | cons x r ih =>
    obtain ⟨a, v⟩ := x
    have hr := ((tsorted_cons a v r).1 h).2
    have hf := tsorted_filter _ (fun c : Nat × α => q c.1) h
    rw [List.filter_cons] at hf ⊢
    rw [tget_cons h]
    by_cases ha : q a = true
    · rw [if_pos ha] at hf ⊢
      rw [tget_cons hf, ih hr]
      by_cases hk : a = k
      · simp [hk, hk ▸ ha]
      · simp [hk]
    · rw [if_neg ha, ih hr]
      by_cases hk : a = k
      · simp [← hk, ha]
      · simp [hk]

/-- Entries of one table written to another, each key moved from its distance to `src` to the same distance to `dst`. -/
def tmove {α : Type} (src dst : Nat) (l m : List (Nat × α)) : List (Nat × α) :=
  l.foldl (fun m c => tset m (c.1 - src + dst) c.2) m

theorem tsorted_tmove {α : Type} (src dst : Nat) (l : List (Nat × α)) : ∀ m, tsorted m = true → tsorted (tmove src dst l m) = true := by
  induction l with
  | nil => exact fun _ h => h
  | cons x r ih => exact fun m h => ih _ (tsorted_tset _ _ _ h)

theorem mem_tmove {α : Type} (src dst : Nat) (l : List (Nat × α)) :
    ∀ m, ∀ x ∈ tmove src dst l m, x ∈ m ∨ ∃ c ∈ l, c.2 = x.2 := by
  induction l with
  | nil => exact fun _ x h => .inl h
  | cons y r ih =>
    intro m x h
    obtain hx | ⟨c, hc, he⟩ := ih _ x h
    · obtain hm | rfl := mem_tset _ _ _ _ hx
      · exact .inl hm
      · exact .inr ⟨y, List.mem_cons_self, rfl⟩
    · exact .inr ⟨c, List.mem_cons_of_mem _ hc, he⟩

theorem tget_tmove_below {α : Type} (src : Nat) {dst k : Nat} (hk : k < dst) (l : List (Nat × α)) :
    ∀ m, tget (tmove src dst l m) k = tget m k := by
  induction l with
  | nil => exact fun _ => rfl
  | cons x r ih =>
    intro m
    exact (ih _).trans (by rw [tget_tset, if_neg (by omega)])

theorem tget_tmove {α : Type} {src dst k : Nat} (hk : dst ≤ k) (l : List (Nat × α)) :
    ∀ m, tsorted l = true → (∀ c ∈ l, src ≤ c.1) → tget (tmove src dst l m) k = (tget l (src + (k - dst))).or (tget m k) := by
  induction l with
  | nil => exact fun _ _ _ => rfl
  | cons x r ih =>
    obtain ⟨a, v⟩ := x
    intro m hs hl
    obtain ⟨ha, hr⟩ := (tsorted_cons a v r).1 hs
    have hsrc : src ≤ a := hl (a, v) List.mem_cons_self
    refine (ih _ hr (fun c hc => hl c (List.mem_cons_of_mem _ hc))).trans ?_
    rw [tget_cons hs, tget_tset]
    by_cases hak : a = src + (k - dst)
    · rw [if_pos (by dsimp only; omega), if_pos hak, ← hak, tget_above r a a ha le_rfl]
      rfl
    · rw [if_neg (by dsimp only; omega), if_neg hak]

/-! ### Bytes -/

theorem memWf_iff (m : List Host.Cell) : memWf m = true ↔ tsorted m = true ∧ ∀ c ∈ m, c.2 ≠ 0 := by
  simp [memWf]

theorem memWf_filter (m : List Host.Cell) (p : Host.Cell → Bool) (h : memWf m = true) : memWf (m.filter p) = true := by
  rw [memWf_iff] at h ⊢
  exact ⟨tsorted_filter m p h.1, fun c hc => h.2 c (List.mem_filter.1 hc).1⟩

/-- Settles O19: a write that is taken is `State.bankWrite_taken`; both refusals leave the state. -/
theorem bankWritesStoreTheirBytesAndNoOthers : Obligations.BankWritesStoreTheirBytesAndNoOthers := by
  intro s a bs bad own hwf
  by_cases hrows : s.rowsOk (bankOf a) (a % 0x400000) bs.length = true
  case neg =>
    have hrefused : s.bankWrite a bs bad own = (.retired, s) := if_pos (by simpa using hrows)
    rw [hrefused]
    exact ⟨fun h => (by cases h), fun _ => rfl⟩
  by_cases hseal : (s.sealed a || s.sealed (a + bs.length - 1)) = true
  case pos =>
    have hrefused : s.bankWrite a bs bad own = (.locked, s) := by simp [State.bankWrite, hrows, hseal]
    rw [hrefused]
    exact ⟨fun h => (by cases h), fun _ => rfl⟩
  obtain ⟨hfirst, hlast⟩ := Bool.or_eq_false_iff.1 (Bool.eq_false_iff.2 hseal)
  rw [State.bankWrite_taken s a bs bad own hrows hfirst hlast]
  have hmem : (((s.writeMarks a bs.length bad).cisWrite a bs).resLose (bankOf a) (a % 0x400000) bs.length own).cis.mem =
      memWrite s.cis.mem a bs := congrArg (memWrite · a bs) (s.writeMarks_mem a bs.length bad)
  refine ⟨fun _ => ?_, fun h => absurd rfl h⟩
  rw [hmem]
  exact ⟨fun i hi => memByte_memWrite_in bs s.cis.mem a i hwf hi, fun b hb => memByte_memWrite_out bs s.cis.mem a b hwf hb,
    memWrite_wf bs s.cis.mem a hwf⟩

theorem State.cisClear_wf (s : State) (a n : Nat) (h : memWf s.cis.mem = true) : memWf (s.cisClear a n).cis.mem = true :=
  memWf_filter _ _ h

theorem State.cisClear_tget (s : State) (a n k : Nat) (h : memWf s.cis.mem = true) :
    tget (s.cisClear a n).cis.mem k = if a ≤ k ∧ k < a + n then none else tget s.cis.mem k := by
  refine (tget_filter s.cis.mem (fun x => !decide (a ≤ x ∧ x < a + n)) k ((memWf_iff _).1 h).1).trans ?_
  by_cases hk : a ≤ k ∧ k < a + n
  · simp [hk]
  · simp only [if_neg hk, decide_eq_false hk, Bool.not_false, if_true]

theorem State.cisClear_byte (s : State) (a n b : Nat) (h : memWf s.cis.mem = true) :
    memByte (s.cisClear a n).cis.mem b = if a ≤ b ∧ b < a + n then 0 else memByte s.cis.mem b := by
  unfold memByte tgetD
  rw [s.cisClear_tget a n b h]
  split_ifs <;> rfl

/-- The cells of the memory `m` in a range of `n` bytes from `src`. -/
def cellsAt (m : List Host.Cell) (src n : Nat) : List Host.Cell := m.filter (fun c => decide (src ≤ c.1 ∧ c.1 < src + n))

theorem State.cisCopy_mem (s : State) (src dst n : Nat) :
    (s.cisCopy src dst n).cis.mem = tmove src dst (cellsAt (s.cisClear dst n).cis.mem src n) (s.cisClear dst n).cis.mem := rfl

theorem cellsAt_sorted (m : List Host.Cell) (src n : Nat) (h : tsorted m = true) : tsorted (cellsAt m src n) = true :=
  tsorted_filter _ _ h

theorem cellsAt_tget (m : List Host.Cell) (src n k : Nat) (h : tsorted m = true) :
    tget (cellsAt m src n) k = if src ≤ k ∧ k < src + n then tget m k else none := by
  refine (tget_filter m (fun x => decide (src ≤ x ∧ x < src + n)) k h).trans ?_
  simp only [decide_eq_true_eq]

theorem State.cisCopy_wf (s : State) (src dst n : Nat) (h : memWf s.cis.mem = true) : memWf (s.cisCopy src dst n).cis.mem = true := by
  obtain ⟨hsort, hne⟩ := (memWf_iff _).1 (s.cisClear_wf dst n h)
  rw [State.cisCopy_mem, memWf_iff]
  refine ⟨tsorted_tmove _ _ _ _ hsort, fun x hx => ?_⟩
  obtain hm | ⟨c, hc, he⟩ := mem_tmove _ _ _ _ x hx
  · exact hne x hm
  · exact he ▸ hne c (List.mem_filter.1 hc).1

theorem State.cisCopy_byte (s : State) (src dst n b : Nat) (h : memWf s.cis.mem = true) (hdis : src + n ≤ dst ∨ dst + n ≤ src) :
    memByte (s.cisCopy src dst n).cis.mem b = if dst ≤ b ∧ b < dst + n then memByte s.cis.mem (src + (b - dst)) else memByte s.cis.mem b := by
  have hsort := ((memWf_iff _).1 (s.cisClear_wf dst n h)).1
  rw [State.cisCopy_mem]
  unfold memByte tgetD
  by_cases hlt : b < dst
  · rw [tget_tmove_below src hlt, s.cisClear_tget dst n b h, if_neg (by omega), if_neg (by omega)]
  · have hsrc : ∀ c ∈ cellsAt (s.cisClear dst n).cis.mem src n, src ≤ c.1 := fun c hc =>
      (of_decide_eq_true (List.mem_filter.1 hc).2).1
    rw [tget_tmove (Nat.le_of_not_lt hlt) _ _ (cellsAt_sorted _ src n hsort) hsrc, cellsAt_tget _ _ _ _ hsort, s.cisClear_tget dst n b h]
    by_cases hin : b < dst + n
    · rw [if_pos (by omega), if_pos (by omega), if_pos (by omega), s.cisClear_tget dst n _ h, if_neg (by omega), Option.or_none]
    · rw [if_neg (by omega), if_neg (by omega), if_neg (by omega)]
      rfl

/-- A range within one block of 64 KiB is one piece. -/
theorem cutEvery_one {a n : Nat} (hn : 0 < n) (h : a % 65536 + n ≤ 65536) : cutEvery 65536 (n / 65536 + 2) a n = [(a, n)] := by
  simp only [cutEvery, if_neg (by omega : ¬ n = 0), if_pos (by omega : n ≤ 65536 - a % 65536)]

/-- Zeroing within one block of 64 KiB asks its bank once. -/
theorem State.cisZero_piece (s : State) {a n : Nat} (hn : 0 < n) (h : a % 65536 + n ≤ 65536) :
    s.cisZero a n = if s.bankRetired (bankOf a) then s else if s.sealed a then s.count (C_CT_SEAL_DROP (bankOf a))
      else (s.cisClear a n).resLose (bankOf a) (a % 0x400000) n none := by
  unfold State.cisZero
  rw [cutEvery_one hn h]
  rfl

/-- Settles O20: `State.cisClear_byte`, `State.cisZero_piece` and `State.cisCopy_byte`. -/
theorem cisternRangesZeroAndCopy : Obligations.CisternRangesZeroAndCopy := by
  refine ⟨fun s a n h => ⟨s.cisClear_wf a n h, fun b => s.cisClear_byte a n b h⟩, fun s a n hn hone => ?_,
    fun s src dst n h hdis => ⟨s.cisCopy_wf src dst n h, fun b => s.cisCopy_byte src dst n b h hdis⟩⟩
  rw [s.cisZero_piece hn hone]
  refine ⟨fun hr => if_pos hr, fun hr hs => ?_, fun hr hs => ?_⟩
  · rw [hr, hs]
    rfl
  · rw [hr, hs]
    rfl

end Sys2Proof.Machine
end

section
/-! SUPPORT. Copies of a packet at the filters (R146, R147), retired requests (R97, R98), shapers (R166, R167) and edge wakes (R362). -/
namespace Sys2Proof.Machine

/-! ### Tables of keys -/

theorem dropFirst_append_single {α : Type} (f : α → Bool) (l : List α) {a : α} (hl : l.any f = false) (ha : f a = true) :
    dropFirst f (l ++ [a]) = l := by
  induction l with
  | nil => simp [dropFirst, ha]
  | cons x r ih =>
    obtain ⟨hx, hr⟩ := Bool.or_eq_false_iff.1 (List.any_cons.symm.trans hl)
    simp [dropFirst, hx, ih hr]

/-! ### The transit filter (R146) -/

/-- Does a key of the filter of tile `t` stand for the same (TAG, SEQ) as the packet? -/
def sameKey (t : Nat) (p : Pkt) (e : Nat × Nat × Nat × Nat) : Bool := e.1 == t && e.2.1 == p.tag && e.2.2.1 == p.seq

/-- A late copy in a filter: it is counted and the aged key is taken away. -/
def State.passLate (s : State) (t : Nat) (p : Pkt) : State :=
  s.doIf (s.mesh.aged.contains (t, p.tag, p.seq, p.stamp)) (fun s =>
    { s.count (C_PT_NI_ELIM_PASS (match tileUnit t with | .pt c => c | _ => 0)) with
      mesh := { s.mesh with aged := dropFirst (fun e => e == (t, p.tag, p.seq, p.stamp)) s.mesh.aged } })

/-- A key kept in the filter until its twin comes. -/
def State.keepKey (s : State) (t : Nat) (p : Pkt) : State :=
  { s with mesh := { s.mesh with transit := s.mesh.transit ++ [(t, p.tag, p.seq, p.stamp)] } }

theorem State.transitFilter_first (s : State) (t : Nat) (o : Bool) (p : Pkt) (h : s.mesh.transit.any (sameKey t p) = false) :
    s.transitFilter t o p = (true, if o then (s.passLate t p).keepKey t p else s.passLate t p) := by
  refine (if_neg (Bool.eq_false_iff.1 h)).trans ?_
  cases o <;> rfl

theorem State.transitFilter_second (s : State) (t : Nat) (o : Bool) (p : Pkt) (h : s.mesh.transit.any (sameKey t p) = true) :
    s.transitFilter t o p = (false, { s with mesh := { s.mesh with transit := dropFirst (sameKey t p) s.mesh.transit } }) := if_pos h

theorem sameKey_own (t : Nat) (p : Pkt) : sameKey t p (t, p.tag, p.seq, p.stamp) = true := by simp [sameKey]

theorem State.keepKey_same (s : State) (t : Nat) (p : Pkt) : (s.keepKey t p).mesh.transit.any (sameKey t p) = true := by
  simp [State.keepKey, sameKey_own]

theorem tileUnit_ptTile : ∀ c < 16, tileUnit (ptTile c) = .pt c := by decide

/-- Settles O21: `State.transitFilter_first`, then `State.transitFilter_second` on the key it kept. -/
theorem transitFilterPassesOneOfTwoCopies : Obligations.TransitFilterPassesOneOfTwoCopies := by
  intro s c p hc hnone
  have hfirst (o : Bool) := s.transitFilter_first (ptTile c) o p hnone
  refine ⟨fun o => by rw [hfirst o], ?_, fun hage => ⟨?_, ?_⟩, fun hage => ?_⟩
  · rw [hfirst true]
    exact congrArg Prod.fst (State.transitFilter_second _ _ _ p (State.keepKey_same _ _ p))
  · rw [hfirst true]
    have hlate : s.passLate (ptTile c) p = s := by
      unfold State.passLate
      rw [hage]
      rfl
    rw [hlate]
    refine (congrArg Prod.snd (State.transitFilter_second _ _ _ p (State.keepKey_same _ _ p))).trans ?_
    exact congrArg (fun l => { s with mesh := { s.mesh with transit := l } })
      (dropFirst_append_single (sameKey (ptTile c) p) _ hnone (sameKey_own _ p))
  · rw [hfirst false]
    unfold State.passLate
    rw [hage]
    rfl
  · rw [hfirst false]
    unfold State.passLate
    rw [hage, tileUnit_ptTile c hc]
    rfl

/-! ### Retired entries of the reorder table (R97, R98) -/

theorem State.guardOpen_req (s : State) (n k : Nat) (up : Bool) : (s.guardOpen n k up).req = s.req := by
  unfold State.guardOpen State.showFence
  dsimp only
  split_ifs <;> rfl

theorem State.guardRetire_req (s : State) (g : Option (Nat × Nat)) : (s.guardRetire g).req = s.req := by
  cases g with
  | none => rfl
  | some g => exact s.guardOpen_req g.1 g.2 false

theorem State.roRetire_req (s : State) {ti tag : Nat} {e : RoEntry} (h : tget s.req.ro (roKey ti tag) = some e) :
    (s.roRetire ti tag).req = { s.req with
      ro := tset s.req.ro (roKey ti tag) { e with st := 2, gen := (e.gen + 1) % 256 }, roFree := s.req.roFree ++ [(ti, tag)] } := by
  simp only [State.roRetire, h, State.guardRetire_req]
  rfl

/-- A tag picked from the retired ones is free: an entry in quarantine is passed over. -/
theorem State.roPick_free (s : State) {ti tag : Nat} (hn : roSize ti ≤ tgetD s.req.roNext ti 0) (h : s.roPick ti = some tag) :
    ((tget s.req.ro (roKey ti tag)).map (·.st)).getD 0 = 0 := by
  simp only [State.roPick, if_neg (Nat.not_lt.2 hn), Option.map_eq_some_iff] at h
  obtain ⟨⟨t, g⟩, hfind, rfl⟩ := h
  have hp := List.find?_some hfind
  simp only [Bool.and_eq_true, beq_iff_eq] at hp
  obtain ⟨rfl, hst⟩ := hp
  exact hst

/-- Settles O23: what the retirement leaves in the table is `State.roRetire_req`. -/
theorem retiredEntriesMatchNoResponse : Obligations.RetiredEntriesMatchNoResponse := by
  intro s ti tag e he
  have hreq := s.roRetire_req he
  have hget : tget (s.roRetire ti tag).req.ro (roKey ti tag) = some { e with st := 2, gen := (e.gen + 1) % 256 } := by
    rw [hreq]
    exact tget_tset_same ..
  refine ⟨hget, fun c hc => ?_, fun k hk => ?_, by rw [hreq], fun hn hpick => ?_⟩
  · simp [State.roMatch, hc, hget]
  · rw [hreq]
    exact tget_tset_other _ _ hk
  · have hst := State.roPick_free _ (by rw [hreq]; exact hn) hpick
    rw [hget] at hst
    exact absurd hst (by decide : (2 : Nat) ≠ 0)

end Sys2Proof.Machine
end

section
/-! SUPPORT. The elimination entries of a tile (R147, R148). -/
namespace Sys2Proof.Machine

theorem State.on_congr {s t : State} {f : Fld} (h : t.get f = s.get f) : t.on f = s.on f := by
  unfold State.on
  rw [h]

theorem elimBase_ge (t : Nat) : elimBase t = 0 ∨ 0x5F00 ≤ elimBase t := by
  unfold elimBase
  split
  · exact .inr (by omega)
  · exact .inr (by omega)
  · exact .inr (by omega)
  · exact .inl rfl

/-- Which entry serves a stream rests on the EN and STREAM fields alone. -/
theorem State.elimEntry_congr {s u : State} {ti : Nat} (stream : Nat)
    (h : ∀ i, u.get (NI_ELIM_CFG_EN (elimBase ti) i) = s.get (NI_ELIM_CFG_EN (elimBase ti) i) ∧
      u.get (NI_ELIM_CFG_STREAM (elimBase ti) i) = s.get (NI_ELIM_CFG_STREAM (elimBase ti) i)) :
    u.elimEntry ti stream = s.elimEntry ti stream := by
  unfold State.elimEntry
  simp only [fun i => State.on_congr (h i).1, fun i => (h i).2]

/-- An entry's tile has elimination entries at all. -/
theorem State.elimEntry_base {s : State} {ti stream n : Nat} (h : s.elimEntry ti stream = some n) : 0x5F00 ≤ elimBase ti := by
  refine (elimBase_ge ti).resolve_left fun h0 => ?_
  simp [State.elimEntry, h0] at h

/-- The window of an entry with the numbers it spans. -/
def State.elimMark (s : State) (ti n win span : Nat) : State :=
  { s with mesh := { s.mesh with
    elimWin := tset s.mesh.elimWin (ti * 1024 + n) (win % win64), elimSpan := tset s.mesh.elimSpan (ti * 1024 + n) (min 64 span) } }

theorem State.elimMark_win (s : State) (ti n win span : Nat) :
    tgetD (s.elimMark ti n win span).mesh.elimWin (ti * 1024 + n) 0 = win % win64 := by
  simp [State.elimMark, tgetD_tset]

/-- How far SEQ `seq` lies past the highest one that the entry accepted. -/
def State.elimAhead (s : State) (ti n seq : Nat) : Nat := (seq + 65536 - s.get (NI_ELIM_CFG_H (elimBase ti) n)) % 65536

/-- A number that the window holds already is a duplicate. -/
theorem State.eliminate_dup (s : State) {ti stream seq n : Nat} (he : s.elimEntry ti stream = some n)
    (hi : s.on (NI_ELIM_ST_INIT (elimBase ti) n) = false) (hd : s.elimAhead ti n seq = 0 ∨ 65473 ≤ s.elimAhead ti n seq)
    (hw : bit (tgetD s.mesh.elimWin (ti * 1024 + n) 0) ((65536 - s.elimAhead ti n seq) % 65536) = true) :
    (s.eliminate ti stream seq).1 = false := by
  unfold State.elimAhead at hd hw
  unfold State.eliminate
  simp only [he, hi, Bool.false_eq_true, if_false]
  rw [if_neg (by omega), if_pos hd, if_pos hw]

/-- The three ways in which an entry accepts a copy: its first, a newer number, a late number of its window. -/
theorem State.eliminate_accepts {s : State} {ti stream seq : Nat} (h : (s.eliminate ti stream seq).1 = true) :
    ∃ n, s.elimEntry ti stream = some n ∧
      ((s.eliminate ti stream seq).2 =
          ((s.put (NI_ELIM_CFG_H (elimBase ti) n) seq).put (NI_ELIM_ST_INIT (elimBase ti) n) 0).elimMark ti n 1 1 ∨
        (∃ out win d span, 1 ≤ d ∧ s.on (NI_ELIM_ST_INIT (elimBase ti) n) = false ∧ (s.eliminate ti stream seq).2 =
          ((s.put (NI_ELIM_CFG_H (elimBase ti) n) seq).bump (C_NI_ELIM_GAP (elimBase ti)) out).elimMark ti n (win * 2 ^ d + 1) span) ∨
        (∃ span, s.on (NI_ELIM_ST_INIT (elimBase ti) n) = false ∧ (s.elimAhead ti n seq = 0 ∨ 65473 ≤ s.elimAhead ti n seq) ∧
          bit (tgetD s.mesh.elimWin (ti * 1024 + n) 0) ((65536 - s.elimAhead ti n seq) % 65536) = false ∧
          (s.eliminate ti stream seq).2 = s.elimMark ti n
            (tgetD s.mesh.elimWin (ti * 1024 + n) 0 + 2 ^ ((65536 - s.elimAhead ti n seq) % 65536)) span)) := by
  unfold State.elimAhead
  unfold State.eliminate at h ⊢
  cases he : s.elimEntry ti stream with
  | none => simp [he] at h
  | some n =>
    refine ⟨n, rfl, ?_⟩
    simp only [he] at h ⊢
    split at h
    case isTrue hinit =>
      rw [if_pos hinit]
      exact .inl rfl
    case isFalse hinit =>
      rw [if_neg hinit]
      split at h
      case isTrue hnew =>
        rw [if_pos hnew]
        exact .inr (.inl ⟨_, _, _, _, hnew.1, Bool.eq_false_iff.2 hinit, rfl⟩)
      case isFalse hnew =>
        rw [if_neg hnew]
        split at h
        case isTrue hlate =>
          rw [if_pos hlate]
          split at h
          case isTrue hbit => simp at h
          case isFalse hbit =>
            rw [if_neg hbit]
            exact .inr (.inr ⟨_, Bool.eq_false_iff.2 hinit, hlate, Bool.eq_false_iff.2 hbit, rfl⟩)
        case isFalse hlate => simp at h

/-- The fields of an entry after its highest number moved. -/
theorem State.put_H_frame (s : State) (b n v i : Nat) :
    (s.put (NI_ELIM_CFG_H b n) v).get (NI_ELIM_CFG_EN b i) = s.get (NI_ELIM_CFG_EN b i) ∧
    (s.put (NI_ELIM_CFG_H b n) v).get (NI_ELIM_CFG_STREAM b i) = s.get (NI_ELIM_CFG_STREAM b i) :=
  ⟨State.put_get_disjoint s v (by change 15 + 1 ≤ 32; decide) (.inr (by change 15 + 1 ≤ 16; decide)),
    State.put_get_disjoint s v (by change 0 + 15 ≤ 32; decide) (.inr (by change 0 + 15 ≤ 16; decide))⟩

theorem State.put_H_same (s : State) (b n : Nat) {v : Nat} (h : v < 65536) : (s.put (NI_ELIM_CFG_H b n) v).get (NI_ELIM_CFG_H b n) = v :=
  State.put_get_of_lt s (by change 16 + 16 ≤ 32; decide) h

theorem ELIM_ST_ne_CFG (b n i : Nat) : R_NI_ELIM_CFG b i ≠ R_NI_ELIM_ST b n := by
  unfold R_NI_ELIM_CFG R_NI_ELIM_ST
  omega

/-- Right after a copy was accepted its number is a duplicate. -/
theorem State.eliminate_again {s : State} {ti stream seq : Nat} (hseq : seq < 65536) (h : (s.eliminate ti stream seq).1 = true) :
    ((s.eliminate ti stream seq).2.eliminate ti stream seq).1 = false := by
  obtain ⟨n, he, hfirst | ⟨out, win, d, span, hd, hinit, hnew⟩ | ⟨span, hinit, hd, hbit, hlate⟩⟩ := State.eliminate_accepts h
  · have hH : (s.eliminate ti stream seq).2.get (NI_ELIM_CFG_H (elimBase ti) n) = seq := by
      rw [hfirst]
      exact (State.put_get_other _ _ _ 0 (ELIM_ST_ne_CFG _ _ _)).trans (s.put_H_same _ n hseq)
    have hinit : (s.eliminate ti stream seq).2.on (NI_ELIM_ST_INIT (elimBase ti) n) = false := by
      rw [hfirst]
      exact State.put_on_flag _ false (by change 0 + 1 ≤ 32; decide) rfl
    have hahead : (s.eliminate ti stream seq).2.elimAhead ti n seq = 0 := by
      rw [State.elimAhead, hH]
      omega
    refine State.eliminate_dup _ ((State.elimEntry_congr stream fun i => ?_).trans he) hinit (.inl hahead) ?_
    · rw [hfirst]
      obtain ⟨hen, hst⟩ := s.put_H_frame (elimBase ti) n seq i
      exact ⟨(State.put_get_other _ _ _ 0 (ELIM_ST_ne_CFG _ _ _)).trans hen, (State.put_get_other _ _ _ 0 (ELIM_ST_ne_CFG _ _ _)).trans hst⟩
    · rw [hahead, hfirst, State.elimMark_win]
      rfl
  · have hsat (i : Nat) : R_NI_ELIM_CFG (elimBase ti) i ≠ R_GLB_SAT_EVT := by
      have := State.elimEntry_base he
      unfold R_NI_ELIM_CFG R_GLB_SAT_EVT
      omega
    have hsat' : R_NI_ELIM_ST (elimBase ti) n ≠ R_GLB_SAT_EVT := by
      have := State.elimEntry_base he
      unfold R_NI_ELIM_ST R_GLB_SAT_EVT
      omega
    have hget {f : Fld} (hf : f.off ≠ R_GLB_SAT_EVT) : (s.eliminate ti stream seq).2.get f = (s.put (NI_ELIM_CFG_H (elimBase ti) n) seq).get f := by
      rw [hnew]
      exact congrArg (bits · f.lo f.w) (State.bump_rd_other _ _ out hf)
    have hahead : (s.eliminate ti stream seq).2.elimAhead ti n seq = 0 := by
      rw [State.elimAhead, hget (hsat n), s.put_H_same _ n hseq]
      omega
    refine State.eliminate_dup _ ((State.elimEntry_congr stream fun i => ?_).trans he) ?_ (.inl hahead) ?_
    · rw [hget (hsat i), hget (hsat i)]
      exact s.put_H_frame (elimBase ti) n seq i
    · rw [State.on_congr ((hget hsat').trans (State.put_get_other _ _ _ _ (ELIM_ST_ne_CFG _ _ _).symm)), hinit]
    · rw [hahead, hnew, State.elimMark_win, bit_eq_testBit]
      change ((win * 2 ^ d + 1) % 2 ^ 64).testBit 0 = true
      rw [Nat.testBit_mod_two_pow, Nat.testBit_zero]
      obtain ⟨e, rfl⟩ : ∃ e, d = e + 1 := ⟨d - 1, by omega⟩
      simp [pow_succ, ← mul_assoc]
  · have hi : (65536 - s.elimAhead ti n seq) % 65536 < 64 := by omega
    have hframe (f : Fld) : (s.eliminate ti stream seq).2.get f = s.get f := by
      rw [hlate]
      rfl
    have hahead : (s.eliminate ti stream seq).2.elimAhead ti n seq = s.elimAhead ti n seq := by
      rw [State.elimAhead, hframe]
      rfl
    refine State.eliminate_dup _ ((State.elimEntry_congr stream fun i => ⟨hframe _, hframe _⟩).trans he)
      ((State.on_congr (hframe _)).trans hinit) (hahead ▸ hd) ?_
    rw [hahead, hlate, State.elimMark_win]
    rw [bit_eq_testBit] at hbit ⊢
    change Nat.testBit (_ % 2 ^ 64) _ = true
    rw [Nat.testBit_mod_two_pow, decide_eq_true hi, Nat.add_comm, Nat.testBit_two_pow_add_eq, hbit]
    rfl

/-- Settles O22: `State.eliminate_again`, and an entry that is not there. -/
theorem eliminationDeliversEachNumberOnce : Obligations.EliminationDeliversEachNumberOnce := by
  refine ⟨fun s ti stream seq hseq h => State.eliminate_again hseq h, fun s ti stream seq h => ?_⟩
  unfold State.eliminate
  rw [h]

end Sys2Proof.Machine
end

section
/-! SUPPORT. Shapers (R166, R167) and edge wakes (R362). -/
namespace Sys2Proof.Machine

/-! ### Shapers -/

theorem toSigned_fromSigned {v : Int} (hlo : -2 ^ 31 ≤ v) (hhi : v < 2 ^ 31) : toSigned 32 (fromSigned 32 v % 2 ^ 32) = v := by
  unfold toSigned fromSigned
  split_ifs <;> omega

theorem toSigned_ge (v : Nat) : -2 ^ 31 ≤ toSigned 32 v := by
  unfold toSigned
  split_ifs <;> omega

/-- The registers of one port's shaper are apart. -/
theorem shp_offsets (c k q : Nat) : R_SHP_TOKENS c k q ≠ R_SHP_CFG c k q ∧ R_SHP_TOKENS c k q ≠ R_SHP_QUANT c k q ∧
    R_SHP_TOKENS c k q ≠ R_SHP_BURST c k q := by
  unfold R_SHP_TOKENS R_SHP_CFG R_SHP_QUANT R_SHP_BURST
  omega

theorem State.setTokens_tokens (s : State) (p q : Nat) {v : Int} (hlo : -2 ^ 31 ≤ v) (hhi : v < 2 ^ 31) :
    (s.setTokens p q v).tokens p q = v := by
  unfold State.tokens State.setTokens
  rw [State.put_get_same s _ (by change 0 + 32 ≤ 32; decide)]
  exact toSigned_fromSigned hlo hhi

theorem State.setTokens_get (s : State) (p q : Nat) (v : Int) {f : Fld} (h : f.off ≠ R_SHP_TOKENS (portC p) (portK p) q) :
    (s.setTokens p q v).get f = s.get f := State.put_get_other s _ f _ h

theorem State.tokens_ge (s : State) (p q : Nat) : -2 ^ 31 ≤ s.tokens p q := toSigned_ge _

/-- A staged word of a shaper's register in force. -/
def State.loadStaged (s : State) (off : Nat) : State :=
  match tget s.sch.staged off with
  | none => s
  | some w => { s.wr off w with sch := { s.sch with staged := tdel s.sch.staged off } }

theorem State.loadStaged_rd (s : State) {off o : Nat} (h : o ≠ off) : (s.loadStaged off).rd o = s.rd o := by
  unfold State.loadStaged
  split
  · rfl
  · exact State.wr_rd_other s _ h

/-- A shaper with its staged words in force. -/
def State.shpLoad (s : State) (p q : Nat) : State :=
  ((s.loadStaged (R_SHP_CFG (portC p) (portK p) q)).loadStaged (R_SHP_QUANT (portC p) (portK p) q)).loadStaged (R_SHP_BURST (portC p) (portK p) q)

theorem State.shpLoad_tokens (s : State) (p q : Nat) : (s.shpLoad p q).tokens p q = s.tokens p q := by
  obtain ⟨hc, hq, hb⟩ := shp_offsets (portC p) (portK p) q
  have hrd : (s.shpLoad p q).rd (R_SHP_TOKENS (portC p) (portK p) q) = s.rd (R_SHP_TOKENS (portC p) (portK p) q) := by
    unfold State.shpLoad
    rw [State.loadStaged_rd _ hb, State.loadStaged_rd _ hq, State.loadStaged_rd _ hc]
  exact congrArg (fun r => toSigned 32 (bits r 0 32)) hrd

theorem State.refill_started (s : State) {p q : Nat} (hwas : s.shpOn p q = false) (hon : (s.shpLoad p q).shpOn p q = true) :
    s.refill p q = (s.shpLoad p q).setTokens p q ((s.shpLoad p q).get (SHP_BURST_BYTES (portC p) (portK p) q)) :=
  if_pos ⟨hon, by rw [hwas]; rfl⟩

theorem State.refill_running (s : State) {p q : Nat} (h : ¬((s.shpLoad p q).shpOn p q = true ∧ (!s.shpOn p q) = true)) :
    s.refill p q = (s.shpLoad p q).setTokens p q (min ((s.shpLoad p q).tokens p q + (s.shpLoad p q).get (SHP_QUANT_BYTES (portC p) (portK p) q))
      ((s.shpLoad p q).get (SHP_BURST_BYTES (portC p) (portK p) q))) := if_neg h

theorem State.refill_get (s : State) (p q : Nat) {f : Fld} (h : f.off ≠ R_SHP_TOKENS (portC p) (portK p) q) :
    (s.refill p q).get f = (s.shpLoad p q).get f := by
  by_cases hb : (s.shpLoad p q).shpOn p q = true ∧ (!s.shpOn p q) = true
  · rw [s.refill_started (by simpa using hb.2) hb.1]
    exact State.setTokens_get _ p q _ h
  · rw [s.refill_running hb]
    exact State.setTokens_get _ p q _ h

theorem State.burst_lt (s : State) (p q : Nat) : (s.get (SHP_BURST_BYTES (portC p) (portK p) q) : Int) < 2 ^ 31 := by
  have : s.get (SHP_BURST_BYTES (portC p) (portK p) q) < 2 ^ 24 := bits_lt _ _ _
  omega

/-- Settles O24: the two branches of a refill, once the staged words are in force. -/
theorem refillsStopAtTheBurst : Obligations.RefillsStopAtTheBurst := by
  intro s p q _ _
  obtain ⟨hc, hq, hb⟩ := shp_offsets (portC p) (portK p) q
  refine ⟨fun hon => ?_, fun hwas hon => ?_⟩
  · rw [s.refill_get p q (f := SHP_QUANT_BYTES _ _ _) hq.symm, s.refill_get p q (f := SHP_BURST_BYTES _ _ _) hb.symm,
      s.refill_running (by simp [hon]), s.shpLoad_tokens]
    have := s.tokens_ge p q
    have := (s.shpLoad p q).burst_lt p q
    exact State.setTokens_tokens _ p q (by omega) (by omega)
  · have hload : (s.shpLoad p q).shpOn p q = true := by
      rw [← hon]
      exact (State.on_congr (s.refill_get p q (f := SHP_CFG_EN _ _ _) hc.symm)).symm
    rw [s.refill_get p q (f := SHP_BURST_BYTES _ _ _) hb.symm, s.refill_started hwas hload]
    have := (s.shpLoad p q).burst_lt p q
    exact State.setTokens_tokens _ p q (by omega) this

/-! ### Edge wakes -/

theorem State.asleep_iff (s : State) (d : Nat) : s.asleep d = true ↔ dCLKSTOP ≤ s.dom d ∧ s.dom d ≤ dOFF := decide_eq_true_iff

theorem State.edgeWake_asleep (s : State) {d : Nat} (h : s.asleep d = true) : s.edgeWake d = s.put (PW_DOM_VOTE_EDGE d) 1 := if_pos h

theorem State.edgeWake_awake (s : State) {d : Nat} (h : s.dom d < dCLKSTOP ∨ dOFF < s.dom d) :
    s.edgeWake d = if (s.dom d = dCLOSING ∨ s.dom d = dDRAINING) ∧ !s.bankBack d then s.abortEntry d 4
      else if s.dom d = dISOLATED then s else s.pwIgnored :=
  if_neg (by rw [State.asleep_iff]; omega)

theorem State.setDom_dom (s : State) {d st : Nat} (h : st < 8) : (s.setDom d st).dom d = st :=
  State.put_get_of_lt s (by change 0 + 3 ≤ 32; decide) h

theorem State.ledger_ctrs (s : State) (d code abort : Nat) : (s.ledger d code abort).ctrs = (s.count (0x20100 + code * 8)).ctrs := by
  unfold State.ledger State.pwEvt
  change (State.count _ _).ctrs = _
  exact State.count_ctrs_congr (by rfl) _

/-- An entry given up: the domain is ON and ABORTS counts it. -/
theorem State.abortEntry_dom (s : State) (d code : Nat) : (s.abortEntry d code).dom d = dON := by
  have hsat : R_PW_DOM_STAT d ≠ R_GLB_SAT_EVT := by unfold R_PW_DOM_STAT R_GLB_SAT_EVT; omega
  exact (State.count_get _ _ hsat).trans (State.setDom_dom _ (by decide))

theorem State.abortEntry_aborts (s : State) (d : Nat) {code : Nat} (hcode : code < 64) :
    (s.abortEntry d code).cnt (C_PW_DOM_ABORTS d) = min (s.cnt (C_PW_DOM_ABORTS d) + 1) ctrMax := by
  have hne : C_PW_DOM_ABORTS d ≠ 0x20100 + code * 8 := by unfold C_PW_DOM_ABORTS; omega
  have hled : (s.ledger d code 1).cnt (C_PW_DOM_ABORTS d) = s.cnt (C_PW_DOM_ABORTS d) := by
    unfold State.cnt
    rw [State.ledger_ctrs]
    exact (State.bump_cnt s _ 1 _).trans (if_neg hne)
  refine (State.bump_cnt _ _ 1 _).trans ((if_pos rfl).trans ?_)
  rw [← hled]
  rfl

/-- Settles O25: the branches of `State.edgeWake`. -/
theorem edgeWakesActByTheDomainsState : Obligations.EdgeWakesActByTheDomainsState := by
  refine ⟨fun s d _ h => ?_, fun s d _ h hback => ?_, fun s d _ h => ?_, fun s d _ h => ?_⟩
  · have hasleep : s.asleep d = true := by
      rw [State.asleep_iff]
      unfold dCLKSTOP dRETAINED dOFF at *
      omega
    rw [s.edgeWake_asleep hasleep]
    refine ⟨State.put_on_flag s true (by change 12 + 1 ≤ 32; decide) rfl, State.put_get_other s _ _ _ ?_⟩
    change R_PW_DOM_STAT d ≠ R_PW_DOM_VOTE d
    unfold R_PW_DOM_STAT R_PW_DOM_VOTE
    omega
  · rw [s.edgeWake_awake (by unfold dCLOSING dDRAINING dCLKSTOP at *; omega), if_pos ⟨h, by rw [hback]; rfl⟩]
    refine ⟨s.abortEntry_dom d 4, fun hlt => (s.abortEntry_aborts d (by decide)).trans (by omega)⟩
  · rw [s.edgeWake_awake (by rw [h]; decide), if_neg (by simp [h, dISOLATED, dCLOSING, dDRAINING]), if_pos h]
  · rw [s.edgeWake_awake (by obtain h | h := h <;> rw [h] <;> decide),
      if_neg (by obtain h | h := h <;> simp [h, dON, dWAKING, dCLOSING, dDRAINING]),
      if_neg (by obtain h | h := h <;> rw [h] <;> decide)]
    rfl

end Sys2Proof.Machine
end

section
/-! SUPPORT. The two sets of a guard: swaps, refused writes and loads (R344, R345, R352). -/
namespace Sys2Proof.Machine

/-! ### Swaps -/

theorem State.activeSet_lt (s : State) (n : Nat) : s.activeSet n < 2 := bits_lt _ _ _

theorem State.showFence_activeSet (s : State) (n : Nat) : (s.showFence n).activeSet n = s.activeSet n := by
  have hne : R_GD_STAT n ≠ R_GD_FENCE n := by unfold R_GD_STAT R_GD_FENCE; omega
  exact (State.put_get_other _ _ _ _ hne).trans (State.put_get_other _ _ _ _ hne)

theorem State.showFence_done (s : State) (n : Nat) : (s.showFence n).on (GD_FENCE_DONE n) = (s.guardCount n (1 - s.activeSet n) == 0) :=
  State.put_on_flag _ _ (by change 31 + 1 ≤ 32; decide) rfl

theorem State.put_activeSet (s : State) (n : Nat) {v : Nat} (h : v < 2) : (s.put (GD_STAT_ACTIVE n) v).activeSet n = v :=
  State.put_get_of_lt s (by change 0 + 1 ≤ 32; decide) h

theorem State.swapGuard_activeSet (s : State) (n : Nat) : (s.swapGuard n).activeSet n = 1 - s.activeSet n :=
  (State.showFence_activeSet _ n).trans (s.put_activeSet n (by omega))

theorem State.swapGuard_done (s : State) (n : Nat) : (s.swapGuard n).on (GD_FENCE_DONE n) = (s.guardCount n (s.activeSet n) == 0) := by
  have := s.activeSet_lt n
  refine (State.showFence_done _ n).trans ?_
  rw [s.put_activeSet n (by omega), show 1 - (1 - s.activeSet n) = s.activeSet n by omega]
  rfl

/-! ### Refused writes -/

/-- The words of a guard's regions are plain registers with writable bits. -/
theorem regRow_region : ∀ n < 30, ∀ st < 2, ∀ r < 16, ∀ k < 3,
    ((regRow (rgnBase n st r + 4 * k)).any (fun x => x.1.kind == .plain && (x.1.rw ||| x.1.w1c ||| x.1.w1s ||| x.1.wo) &&& full32 != 0)) = true := by
  decide +kernel

/-- The lock group of a guard's registers below FENCE. -/
theorem lockGroup_guard {off : Nat} (hlo : 0x50000 ≤ off) (hhi : off < 0x57800) (ho : off % 0x400 < 0x208) :
    lockGroup off = some (if (off - 0x50000) / 0x400 < 16 then 0 else if (off - 0x50000) / 0x400 < 28 then 1
      else if (off - 0x50000) / 0x400 = 28 then 2 else 3) :=
  (if_pos ⟨hlo, hhi⟩).trans (if_pos (.inl ho))

/-- Where a guard's SWAP register lies. -/
theorem swap_place {n : Nat} (hn : n < 30) :
    0x50000 ≤ R_GD_SWAP n ∧ R_GD_SWAP n < 0x57800 ∧ (R_GD_SWAP n - 0x50000) / 0x400 = n ∧ R_GD_SWAP n % 0x400 < 0x208 := by
  have hplace : R_GD_SWAP n = 0x50000 + n * 0x400 + 0x204 := rfl
  omega

section
variable {n st r k : Nat} (hn : n < 30) (hst : st < 2) (hr : r < 16) (hk : k < 3)
include hn hst hr hk

/-- Where the words of a guard's regions lie. -/
theorem region_place : 0x50000 ≤ rgnBase n st r + 4 * k ∧ rgnBase n st r + 4 * k < 0x57800 ∧
    (rgnBase n st r + 4 * k - 0x50000) / 0x400 = n ∧ (rgnBase n st r + 4 * k) % 0x400 < 0x200 ∧
    (rgnBase n st r + 4 * k) % 0x400 / 0x100 = st := by
  unfold rgnBase
  omega

theorem masterMask_region (m : Master) : masterMask m (rgnBase n st r + 4 * k) = full32 := by
  obtain ⟨hlo, hhi, -⟩ := region_place hn hst hr hk
  have hreg {a b : Nat} (h : b ≤ 0x50000) : inReg (rgnBase n st r + 4 * k) a b = false := decide_eq_false (by omega)
  unfold masterMask
  rw [if_neg (by unfold R_GLB_WH_CTL; omega), hreg (b := 0x3020C) (by omega), hreg (b := 0x48000) (by omega)]
  rfl

/-- A lock group holds a guard's regions and its SWAP register together. -/
theorem lockGroup_region : lockGroup (rgnBase n st r + 4 * k) = lockGroup (R_GD_SWAP n) := by
  obtain ⟨hlo, hhi, hg, ho, -⟩ := region_place hn hst hr hk
  obtain ⟨hslo, hshi, hsg, hso⟩ := swap_place hn
  rw [lockGroup_guard hlo hhi (by omega), lockGroup_guard hslo hshi hso, hg, hsg]

/-- The active set of an unlocked guard is busy: that rule stands before any other over its regions. -/
theorem State.covers_region (s : State) (m : Master) (v : Nat) (hact : s.activeSet n = st) (hl : s.guardLocked n = false) :
    ∃ rest, s.covers m (rgnBase n st r + 4 * k) v = (full32, .busy) :: rest := by
  obtain ⟨hlo, hhi, hg, ho, hs⟩ := region_place hn hst hr hk
  have hreg : inReg (rgnBase n st r + 4 * k) 0x3F0000 0x3F0200 = false := decide_eq_false (by omega)
  have hin : inReg (rgnBase n st r + 4 * k) 0x50000 0x57800 = true := decide_eq_true (by omega)
  obtain ⟨g, hgroup⟩ : ∃ g, lockGroup (rgnBase n st r + 4 * k) = some g := ⟨_, lockGroup_guard hlo hhi (by omega)⟩
  have hfree : bit (s.get SC_LOCK_GROUPS) g = false := by
    rw [← hl, State.guardLocked, ← lockGroup_region hn hst hr hk, hgroup]
    rfl
  unfold State.covers
  simp only [hgroup, hfree, hreg]
  rw [if_neg (by omega), if_neg (by omega), if_neg (by omega), if_pos hin]
  unfold State.coversGd
  dsimp only
  rw [hg, hs, hact, decide_eq_true ho, Bool.true_and, beq_self_eq_true, Bool.true_or]
  exact ⟨_, rfl⟩

/-- A write to a word of the active set is dropped with BUSY and counted (R345). -/
theorem State.regWrite_active (s : State) (m : Master) (v : Nat) (hact : s.activeSet n = st) (hl : s.guardLocked n = false) :
    s.regWrite m (rgnBase n st r + 4 * k) v = (.busy, s.count C_GLB_CFG_BUSY) := by
  have hany := regRow_region n hn st hst r hr k hk
  cases hrow : regRow (rgnBase n st r + 4 * k) with
  | none => simp [hrow] at hany
  | some x =>
    simp only [hrow, Option.any_some, Bool.and_eq_true, beq_iff_eq, bne_iff_ne] at hany
    obtain ⟨hkind, hw⟩ := hany
    obtain ⟨rest, hc⟩ := s.covers_region hn hst hr hk m v hact hl
    have hmask := masterMask_region hn hst hr hk m
    have hplace : inReg (rgnBase n st r + 4 * k) 0x40000 0x48000 = false :=
      decide_eq_false (by have := region_place hn hst hr hk; omega)
    rw [State.regWrite_plain s m _ v (by rw [hrow]; rfl) hkind,
      State.plainWrite_refused s m x.1 _ v (by rw [RegRow.writable, hmask]; exact hw) hc (by rw [RegRow.writable, hmask, Nat.and_assoc, Nat.and_self])]
    unfold State.refusal
    rw [hplace]
    rfl

end

/-- Settles O26: `State.swapGuard_activeSet`, `State.swapGuard_done` and `State.regWrite_active`. -/
theorem guardSwapsExchangeTheSets : Obligations.GuardSwapsExchangeTheSets := by
  refine ⟨fun s n hn => ⟨s.swapGuard_activeSet n, ?_, s.swapGuard_done n⟩, fun s m n r k v hn hr hk hl =>
    s.regWrite_active hn (s.activeSet_lt n) hr hk m v rfl hl⟩
  have := s.activeSet_lt n
  rw [State.swapGuard_activeSet, State.swapGuard_activeSet]
  omega

/-! ### Loads -/

/-- The words of one region: writing it changes these three alone. -/
theorem State.writeRgn_rd (s : State) (n st r base ctl : Nat) {o : Nat} (h : o < rgnBase n st r ∨ rgnBase n st r + 12 ≤ o) :
    (s.writeRgn n st r base ctl).rd o = s.rd o := by
  unfold State.writeRgn
  dsimp only
  rw [State.wr_rd_other _ _ (by omega), State.wr_rd_other _ _ (by omega), State.wr_rd_other _ _ (by omega)]

/-- A region written with base and control 0 reads 0. -/
theorem State.writeRgn_zero (s : State) (n st r : Nat) {k : Nat} (hk : k < 3) : (s.writeRgn n st r 0 0).rd (rgnBase n st r + 4 * k) = 0 := by
  unfold State.writeRgn
  simp only [State.wr_rd]
  obtain rfl | rfl | rfl : k = 0 ∨ k = 1 ∨ k = 2 := by omega
  · simp
  · simp
  · simp

theorem rgnBase_apart (n st : Nat) {r r' : Nat} (h : r ≠ r') : rgnBase n st r + 12 ≤ rgnBase n st r' ∨ rgnBase n st r' + 12 ≤ rgnBase n st r := by
  unfold rgnBase
  omega

/-- A run of updates that each keep what `f` reads keeps it. -/
theorem State.forEach_keeps_mem {α β : Type} (f : State → β) {g : α → State → State} (l : List α) :
    ∀ s : State, (∀ x ∈ l, ∀ u, f (g x u) = f u) → f (s.forEach l g) = f s := by
  induction l with
  | nil => exact fun _ _ => rfl
  | cons x r ih => exact fun s h => (ih (g x s) fun y hy => h y (List.mem_cons_of_mem _ hy)).trans (h x List.mem_cons_self s)

/-- Clearing all regions of a set leaves each word of them 0. -/
theorem State.clearSet_zero (s : State) (n st : Nat) {r k : Nat} (hr : r < 16) (hk : k < 3) :
    (s.forEach (List.range 16) (fun r u => u.writeRgn n st r 0 0)).rd (rgnBase n st r + 4 * k) = 0 := by
  have hsplit : List.range 16 = List.range r ++ r :: (List.range' (r + 1) (15 - r)) := by
    interval_cases r <;> rfl
  unfold State.forEach
  rw [hsplit, List.foldl_append, List.foldl_cons]
  refine (State.forEach_keeps_mem (·.rd (rgnBase n st r + 4 * k)) _ _ fun x hx u => ?_).trans (State.writeRgn_zero _ n st r hk)
  have hne : r ≠ x := by
    have := List.mem_range'_1.1 hx
    omega
  exact State.writeRgn_rd u n st x 0 0 (by have := rgnBase_apart n st hne; omega)

/-- Settles O27: what the cleared set reads stays where no listed region is written. -/
theorem guardLoadsWriteTheInactiveSetAlone : Obligations.GuardLoadsWriteTheInactiveSetAlone := by
  refine ⟨fun s n ctl o l hn hl hctl ho => ?_, fun s n ctl r k l hn hr hk hl => ?_⟩
  · have hin {x : Nat} (hx : x < 16) : o < rgnBase n (1 - s.activeSet n) x ∨ rgnBase n (1 - s.activeSet n) x + 12 ≤ o := by
      unfold rgnBase at ho ⊢
      omega
    refine (State.wr_rd_other _ _ hctl).trans ?_
    refine (State.forEach_keeps_mem (·.rd o) l _ fun x hx u => State.writeRgn_rd u _ _ _ _ _ (hin (hl x hx))).trans ?_
    exact State.forEach_keeps_mem (·.rd o) _ s fun x hx u => State.writeRgn_rd u _ _ _ _ _ (hin (List.mem_range.1 hx))
  · have hctl : rgnBase n (1 - s.activeSet n) r + 4 * k ≠ R_GD_SCTL n (1 - s.activeSet n) := by
      unfold rgnBase R_GD_SCTL
      omega
    refine (State.wr_rd_other _ _ hctl).trans ?_
    refine (State.forEach_keeps_mem (·.rd _) l _ fun x hx u => State.writeRgn_rd u _ _ _ _ _ ?_).trans (s.clearSet_zero n _ hr hk)
    have := rgnBase_apart n (1 - s.activeSet n) (hl x hx).2
    omega

end Sys2Proof.Machine
end

section
/-! SUPPORT. The state after reset, the frame grid (R53, R54), and how a row of clocked logic ends. -/
namespace Sys2Proof.Machine

/-! ### Reset -/

theorem State.reset_cnt (off : Nat) : State.reset.cnt off = 0 := rfl

/-- Settles O4: with no register written every one reads its reset word. -/
theorem resetRegistersReadTheirStatedValues : Obligations.ResetRegistersReadTheirStatedValues := by
  refine ⟨by decide +kernel, by decide +kernel, by decide +kernel, by decide +kernel, by decide +kernel, by decide +kernel,
    by decide +kernel, by decide +kernel, State.reset_cnt, rfl⟩

/-- Settles O5: all levels are low after reset, and memories that list nothing are canonical. -/
theorem resetIsSettledAndCanonical : Obligations.ResetIsSettledAndCanonical := by
  refine ⟨?_, rfl⟩
  decide +kernel

/-! ### The frame grid -/

theorem State.framePer_pos (s : State) : 0 < s.baseSched.per := by
  have hclamp : 8000 ≤ s.framePer := by
    unfold State.framePer clampN
    split_ifs
    · exact le_rfl
    · decide
    · omega
  change (0 : Int) < s.framePer
  omega

/-- Settles O29: Euclidean division by the period. -/
theorem ticksFallOnTheFrameGrid : Obligations.TicksFallOnTheFrameGrid := by
  intro s n
  have hper := s.framePer_pos
  generalize s.baseSched = c at hper ⊢
  have hdist (k : Int) : c.instant k - c.t0 = (k - c.f0) * c.per := by unfold Sched.instant; omega
  refine ⟨hper, ?_, ?_, fun x hlo hhi => ?_⟩
  · rw [hdist]
    exact Int.mul_emod_left _ _
  · unfold Sched.number
    rw [hdist, Int.mul_ediv_cancel _ hper.ne']
    omega
  · have hlo' := hdist n
    have hhi' := hdist (n + 1)
    have hq : (x - c.t0) / c.per = n - c.f0 := by
      refine le_antisymm (Int.lt_add_one_iff.1 ?_) (Int.le_ediv_of_mul_le hper (by omega))
      refine Int.ediv_lt_of_lt_mul hper ?_
      rw [show n - c.f0 + 1 = n + 1 - c.f0 by omega]
      omega
    unfold Sched.number
    rw [hq]
    omega

/-! ### Rows of clocked logic -/

/-- A row whose effect is `t`, while the clocks run. -/
theorem act_to {s t u : State} (hs : s.stopped = false) (h : t = u) : act s t = .next u.settle := h ▸ act_running t hs

/-- The credit counters that CREDIT_RETURN takes: of a port that exists and feeds no fenced input. -/
theorem credit_in_range {s : State} {p ti dd vc : Nat} (hp : p < 2) (hport : hasPort ti dd = true) (hvc : vc < 8)
    (hfar : dd < 4 → bit (s.get (RT_FENCE_PORTS p (nextTile ti dd))) (backDir dd) = false) :
    ¬(2 ≤ p ∨ !hasPort ti dd ∨ 8 ≤ vc ∨ (dd < 4 ∧ bit (s.get (RT_FENCE_PORTS p (nextTile ti dd))) (backDir dd))) := by
  rintro (h | h | h | ⟨hd, hbit⟩)
  · omega
  · simp [hport] at h
  · omega
  · simp [hfar hd] at hbit

/-- Settles O6: no credit is lacking, so none is taken back. -/
theorem creditReturnToAFullCounterFaults : Obligations.CreditReturnToAFullCounterFaults := fun _ _ _ _ _ hp hport hvc hfar hs hfull =>
  (if_neg (credit_in_range hp hport hvc hfar)).trans (if_pos ⟨hfull, by rw [hs]; rfl⟩)

end Sys2Proof.Machine
end

section
/-! SUPPORT. Rows that are one register access, and the rows of the crossbar. -/
namespace Sys2Proof.Machine

/-- A row whose operands are in range, so that it is not one that no table lists. -/
theorem row_to {s t u : State} {c : Prop} [Decidable c] (hs : s.stopped = false) (hc : ¬c) (h : t = u) :
    act s (if c then s.smIgnored else t) = .next u.settle := act_to hs ((if_neg hc).trans h)

/-- The row that writes word `v` at `off`, where the register takes it. -/
theorem word_to {s u : State} {m : Master} {off t d v : Nat} (h : s.cxReady m off true t none d)
    (ht : s.takes m off (BitVec.ofNat 32 v) d u) : s.accessWord m off v = u.wrote m off (BitVec.ofNat 32 v) :=
  access_write_ready s m off t d _ u h ht

/-- The row that writes field `f`, where its register takes the word. -/
theorem fld_to {s u : State} {m : Master} {f : Fld} {t d v : Nat} (h : s.cxReady m f.off true t none d)
    (ht : s.takes m f.off (s.fldWord f v) d u) : s.accessFld m f v = u.wrote m f.off (s.fldWord f v) :=
  access_write_ready s m f.off t d _ u h ht

/-- Settles O31: each row is the access that `access_read_ready`, `access_write_ready` and `access_aperture_ready` describe. -/
theorem registerAccessesActAtTheirRegister : Obligations.RegisterAccessesActAtTheirRegister := by
  refine ⟨?_, ?_, ?_, ?_, ?_, ?_, ?_, ?_, ?_, ?_, ?_, ?_⟩
  · intro s m off t d h hs
    exact act_to hs (access_read_ready s m off t d h)
  · intro s off hs
    exact act_to hs rfl
  · intro s m off t d w u h ht hs
    exact act_to hs (access_write_ready s m off t d w u h ht)
  · intro s off w hs
    exact act_to hs rfl
  · intro s m off t d hc h hs
    exact row_to hs (by simpa [Option.isSome_iff_ne_none] using hc) (access_read_ready s m off t d h)
  · intro s m off t d u hc h ht hs
    exact row_to hs (by simpa [Option.isSome_iff_ne_none] using hc) (access_write_ready s m off t d 0 u h ht)
  · intro s m off t d w u hlow h ht hs
    exact row_to hs (by simp [hlow]) (access_write_ready s m off t d w u h ht)
  · intro s m off t d w u hoff hlow h ht hs
    exact row_to hs (by simp [hlow, hoff]) (access_write_ready s m off t d w u h ht)
  · intro s m off t d a w hin h hs
    exact row_to hs (by simp [hin]) (access_aperture_ready s m off w t d a h)
  · intro s m t d h hs
    exact act_to hs (access_read_ready s m R_TM_NOW_NS t d h)
  · intro s off w hs
    exact act_to hs rfl
  · intro s i hout hs
    exact row_to hs (by simp [hout]) rfl

/-- Settles O32: each row is a write of its register. -/
theorem namedRegisterWritesAct : Obligations.NamedRegisterWritesAct := by
  refine ⟨?_, ?_, ?_, ?_, ?_, ?_, ?_, ?_, ?_⟩
  · intro s m v t d u h ht hs
    exact act_to hs (access_write_ready s m _ t d v u h ht)
  · intro s m ph v t d u h ht hs
    exact act_to hs (access_write_ready s m _ t d v u h ht)
  · intro s m p t d u hp h ht hs
    exact row_to hs (Nat.not_le.2 hp) (fld_to h ht)
  · intro s m p t d u hp h ht hs
    exact row_to hs (Nat.not_le.2 hp) (fld_to h ht)
  · intro s m p rt v t d u hp hr h ht hs
    exact row_to hs (by omega) (fld_to h ht)
  · intro s m p rt v t d u hp hr h ht hs
    exact row_to hs (by omega) (fld_to h ht)
  · intro s m ti n v t d u hb hn h ht hs
    exact row_to hs (by omega) (word_to h ht)
  · intro s m p v t d u hp h ht hs
    exact row_to hs (Nat.not_le.2 hp) (access_write_ready s m _ t d v u h ht)
  · intro s sc t d u hi h ht hs
    exact row_to hs (by simp [hi]) (word_to h ht)

/-- Settles O33: each row is a write of its register. -/
theorem linkSlotAndPowerRegisterRowsAct : Obligations.LinkSlotAndPowerRegisterRowsAct := by
  refine ⟨?_, ?_, ?_, ?_, ?_, ?_, ?_, ?_, ?_, ?_, ?_, ?_⟩
  · intro s m p t d u hp h ht hs
    exact row_to hs (Nat.not_le.2 hp) (fld_to h ht)
  · intro s m p t d u hp h ht hs
    exact row_to hs (Nat.not_le.2 hp) (fld_to h ht)
  · intro s m p t d u hp h ht hs
    exact row_to hs (Nat.not_le.2 hp) (fld_to h ht)
  · intro s m n en t d u hn h ht hs
    exact row_to hs (Nat.not_le.2 hn) (fld_to h ht)
  · intro s m n t d u hn h ht hs
    exact row_to hs (Nat.not_le.2 hn) (fld_to h ht)
  · intro s m n t d u hn h ht hs
    exact row_to hs (Nat.not_le.2 hn) (fld_to h ht)
  · intro s m b v t d u hb hv h ht hs
    exact row_to hs (by omega) (fld_to h ht)
  · intro s m n t d u hn h ht hs
    exact row_to hs (Nat.not_le.2 hn) (word_to h ht)
  · intro s m g t d u hg h ht hs
    exact row_to hs (Nat.not_le.2 hg) (word_to h ht)
  · intro s m n t d u hn h ht hs
    exact row_to hs (Nat.not_le.2 hn) (fld_to h ht)
  · intro s m n t d u hn h ht hs
    exact row_to hs (Nat.not_le.2 hn) (word_to h ht)
  · intro s m b t d u hb h ht hs
    exact row_to hs (Nat.not_le.2 hb) (word_to h ht)

/-- A Port B frame that arrives with no transfer running is looked at. -/
theorem frame_to {s : State} (hon : s.cxOn = true) (hbusy : s.pbBusy = false) (g : State → State) : s.frame g = g s :=
  (if_neg (by simp [hon])).trans (if_neg (by simp [hbusy]))

/-- Settles O34: accesses that CX serves, and the timers and Port B frames of the crossbar. -/
theorem crossbarRowsAct : Obligations.CrossbarRowsAct := by
  refine ⟨?_, ?_, ?_, ?_, ?_, ?_, ?_, ?_, ?_, ?_, ?_, ?_, ?_, ?_, ?_, ?_, ?_, ?_⟩
  · intro s m n t d u h ht hs
    exact act_to hs (word_to h ht)
  · intro s m n t d hn h hs
    exact row_to hs (Nat.not_le.2 hn) (access_read_ready s m _ t d h)
  · intro s m n v t d u hn h ht hs
    exact row_to hs (Nat.not_le.2 hn) (word_to h ht)
  · intro s m mb t d u hm h ht hs
    exact row_to hs (Nat.not_le.2 hm) (word_to h ht)
  · intro s m mb t d u hm h ht hs
    exact row_to hs (Nat.not_le.2 hm) (word_to h ht)
  · intro s t d u h ht hs
    exact act_to hs (word_to h ht)
  · intro s t d u h ht hs
    exact act_to hs (word_to h ht)
  · intro s m t d u h ht hs
    exact act_to hs (word_to h ht)
  · intro s m v t d u h ht hs
    exact act_to hs (word_to h ht)
  · intro s i hh hs
    exact act_to hs (if_pos hh)
  · intro s i x apt d t hx hp ht hout ha hw hs
    refine act_to hs ?_
    simp only [hx, hp, ht]
    exact if_neg (by simp [hout, ha, hw])
  · intro s n hn ho hs
    exact row_to hs (by omega) rfl
  · intro s bs hon hb hmod hlo hhi hok hs
    exact act_to hs ((frame_to hon hb _).trans (if_neg (by simp [hok]; omega)))
  · intro s bs hon hb hlen hn hok hs
    exact act_to hs ((frame_to hon hb _).trans (if_neg (not_or.2 ⟨fun h => h hlen, not_or.2 ⟨Nat.not_lt.2 hn, by simp [hok]⟩⟩)))
  · intro s bs hon hb hlen hok hs
    exact act_to hs ((frame_to hon hb _).trans (if_neg (by simp [hok, hlen])))
  · intro s n hon hb hset hs
    exact act_to hs ((frame_to hon hb _).trans (by simp only [hset]))
  · intro s n hon hb hset hs
    exact act_to hs ((frame_to hon hb _).trans (by simp only [hset]; rfl))
  · intro s n off k hon hb hset hs
    exact act_to hs ((frame_to hon hb _).trans (by simp only [hset]))

end Sys2Proof.Machine
end

section
/-! SUPPORT. The rows of the timebase: mailbox commands of group 8, the time exchange and the timers (R43 to R63). -/
namespace Sys2Proof.Machine

/-- A row of a mailbox command that its mailbox runs. -/
theorem cmd_to {s u : State} {mb op : Nat} {c : OpenCmd} {f : OpenCmd → State → State} (h : s.runs mb op c) (hs : s.stopped = false)
    (hf : f c s = u) : act s (s.runCmd mb op f) = .next u.settle := act_to hs ((runCmd_runs h f).trans hf)

/-! ### Group 8 -/

section
variable {s : State} {mb : Nat} {c : OpenCmd} (hs : s.stopped = false)
include hs

/-- TIME_SET_TOD with a 1PPS edge of the last 900 ms. -/
theorem timeSetTod_to {sec e : Nat} (h : s.runs mb 0x0801 c) (hsec : sec < 2 ^ 48) (he : s.tm.ppsEdge = some e) (hage : s.tm.ppsAge ≤ 900000000) :
    exec (.timeSetTod mb sec) s = .next ((s.todStep sec e).ok mb []).settle := by
  refine cmd_to h hs ((if_neg (by omega)).trans ?_)
  rw [he]
  exact if_neg (by omega)

theorem timeAdjustRate_to {v : Int} (h : s.runs mb 0x0802 c) (hlo : -(2 ^ 31) ≤ v) (hhi : v < 2 ^ 31) :
    exec (.timeAdjust mb true v) s = .next ((s.put TM_RATE_ADJ (fromSigned 32 (clampI (-858993) 858993 v))).ok mb []).settle :=
  cmd_to h hs ((if_pos rfl).trans (if_neg (by omega)))

theorem timeAdjustStep_to {v : Int} (h : s.runs mb 0x0802 c) :
    exec (.timeAdjust mb false v) s = .next ((s.stepTime (v * 2 ^ 16) false).ok mb []).settle :=
  cmd_to h hs (if_neg (by decide))

/-- FRAME_SET of a schedule that the streams and programs meet and that arms. -/
theorem frameSet_to {per ph frame : Nat} (h : s.runs mb 0x0803 c) (hlo : 8000 ≤ per) (hhi : per ≤ 4096000) (hph : ph < per)
    (hfr : frame < 2 ^ 64) (hfit : s.periodFail per = 0) (harm : (s.frameAsked per ph frame).on TM_FRAME_CTL_SWITCH_ARMED = true) :
    exec (.frameSet mb per ph frame) s = .next ((s.frameAsked per ph frame).ok mb []).settle :=
  cmd_to h hs ((if_neg (by omega)).trans ((if_neg (not_not.2 hfit)).trans (if_pos harm)))

theorem timePtpTs_to {p : Nat} (h : s.runs mb 0x0804 c) (hp : p < 128) : exec (.timePtpTs mb p) s =
    .next (s.okQuery mb ((s.tm.ptpq.filter (fun e => e.1 == p)).flatMap (fun e => e.2.1 :: timeWords e.2.2))).settle :=
  cmd_to h hs (if_neg (Nat.not_le.2 hp))

theorem timeTbResync_to (h : s.runs mb 0x0805 c) (hl : s.tm.retired.length ≠ 2) :
    exec (.timeTbResync mb) s = .next (({ s with tm := { s.tm with retired := [] } }).ok mb []).settle :=
  cmd_to h hs (if_neg hl)

end

/-- Settles O30: the five commands above. -/
theorem timeCommandsComplete : Obligations.TimeCommandsComplete :=
  ⟨fun _ _ _ _ _ h hs hsec he hage => timeSetTod_to hs h hsec he hage, fun _ _ _ _ h hs => timeAdjustStep_to hs h,
    fun _ _ _ _ h hs hlo hhi => timeAdjustRate_to hs h hlo hhi,
    fun _ _ _ _ _ _ h hs hlo hhi hph hfr hfit harm => frameSet_to hs h hlo hhi hph hfr hfit harm,
    fun _ _ _ _ h hs hp => timePtpTs_to hs h hp, fun _ _ _ h hs hl => timeTbResync_to hs h hl⟩

theorem State.todStep_first (s : State) {sec e : Nat} (h : s.on TM_STATUS_VALID = false) :
    s.todStep sec e = (s.put TM_STATUS_SOURCE 2).stepTime ((sec : Int) * 1000000000 * 2 ^ 32 - (e : Int) * 2 ^ 16) true :=
  if_pos (by simp [h])

theorem State.todStep_moved (s : State) {sec e : Nat} (h : s.on TM_STATUS_VALID = true) (hne : sec ≠ (e / 65536 + 500000000) / 1000000000) :
    s.todStep sec e = s.stepTime (((sec : Int) - ((e / 65536 + 500000000) / 1000000000 : Nat)) * 1000000000 * 2 ^ 32) false :=
  (if_neg (by simp [h])).trans (if_neg (by omega))

theorem State.todStep_same (s : State) {sec e : Nat} (h : s.on TM_STATUS_VALID = true) (heq : sec = (e / 65536 + 500000000) / 1000000000) :
    s.todStep sec e = s :=
  (if_neg (by simp [h])).trans (if_pos (by omega))

/-- Settles O37: the commands above, with TIME_SET_TOD's three steps and the refusals. -/
theorem timeCommandsAct : Obligations.TimeCommandsAct := by
  refine ⟨?_, ?_, ?_, ?_, ?_, ?_, ?_, ?_, ?_, ?_, ?_, ?_⟩
  · intro s mb c sec e h hsec he hage hv hs
    rw [timeSetTod_to hs h hsec he hage, s.todStep_first hv]
  · intro s mb c sec e h hsec he hage hv hne hs
    rw [timeSetTod_to hs h hsec he hage, s.todStep_moved hv hne]
  · intro s mb c v h hlo hhi hs
    exact timeAdjustRate_to hs h hlo hhi
  · intro s mb c v h hs
    exact timeAdjustStep_to hs h
  · rintro s mb c per ph frame u h hlo hhi hph hfr hfit rfl harm hs
    exact frameSet_to hs h hlo hhi hph hfr hfit harm
  · intro s mb c p h hp hs
    exact timePtpTs_to hs h hp
  · intro s mb c h hl hs
    exact timeTbResync_to hs h hl
  · intro s mb c sec e h hsec he hage hv heq hs
    rw [timeSetTod_to hs h hsec he hage, s.todStep_same hv heq]
  · intro s mb c sec h hsec hstale hs
    refine cmd_to h hs ((if_neg (by omega)).trans ?_)
    cases he : s.tm.ppsEdge with
    | none => rfl
    | some e => exact if_pos (hstale.resolve_left (by simp [he]))
  · intro s mb c per ph frame h hbad hs
    exact cmd_to h hs (if_pos hbad)
  · intro s mb c per ph frame h hlo hhi hph hfr hfail hs
    exact cmd_to h hs ((if_neg (by omega)).trans (if_pos hfail))
  · intro s mb c h hl hs
    exact cmd_to h hs (if_pos hl)

/-! ### The time exchange -/

/-- Settles O35: each row with the packet it takes or the timer's guard open. -/
theorem timeExchangeRowsAct : Obligations.TimeExchangeRowsAct := by
  refine ⟨?_, ?_, ?_, ?_, ?_, ?_, ?_, ?_, ?_, ?_, ?_⟩
  · intro s p hup hpar hs
    exact row_to hs (by simp [hup, hpar]) rfl
  · intro s p a k u ht hpar hs
    refine act_to hs ?_
    rw [ht]
    exact if_neg (not_not.2 hpar)
  · intro s p a k u ht hs
    refine act_to hs ?_
    rw [ht]
  · intro s p a k u x ht hx hseq hpar hs
    refine act_to hs ?_
    rw [ht]
    dsimp only
    rw [hx]
    exact if_neg (by simp [hseq, hpar])
  · intro s hs
    exact act_to hs rfl
  · intro s p k u ht hne hs
    refine act_to hs ?_
    rw [ht]
    exact (if_neg (not_not.2 rfl)).trans (if_neg hne)
  · intro s p k u ht heq hs
    refine act_to hs ?_
    rw [ht]
    exact (if_neg (not_not.2 rfl)).trans (if_pos heq)
  · intro s p hpar hs
    refine act_to hs ?_
    rw [hpar]
    exact if_pos hpar
  · intro s p hr hup hs
    exact act_to hs (if_pos (by simp [hr, hup]))
  · intro s p a k u ht hs
    refine act_to hs ?_
    rw [ht]
  · intro s p t k u ht hne hs
    refine act_to hs ?_
    rw [ht]
    exact if_pos hne

/-! ### Timers and edges of the timebase -/

/-- Settles O36: each row past the guard of its own event. -/
theorem timebaseRowsAct : Obligations.TimebaseRowsAct := by
  refine ⟨?_, ?_, ?_, ?_, ?_, ?_, ?_, ?_, ?_, ?_, ?_⟩
  · intro s hg hb hs
    exact row_to hs (by simp [hg, hb]) rfl
  · rintro s u rfl hv hpar hs
    exact act_to hs (if_pos ⟨hv, hpar⟩)
  · rintro s u rfl hno hs
    refine act_to hs (if_neg ?_)
    rintro ⟨hv, hpar⟩
    obtain hf | hp := hno
    · exact absurd hv (by simp [hf])
    · exact hp hpar
  · rintro s u hcls rfl hs
    exact row_to hs (not_not.2 hcls) rfl
  · intro s hv hl ht hs
    exact row_to hs (by simp [hv, hl, ht]) rfl
  · intro s hl hs
    exact row_to hs hl rfl
  · rintro s n ht rfl hs
    exact act_to hs (if_pos ht)
  · intro s both hl hs
    exact row_to hs hl rfl
  · intro s hl ht hs
    exact row_to hs (by simp [hl, ht]) rfl
  · intro s hr ht hs
    exact row_to hs (by simp [hr, ht]) rfl
  · intro s len ht hs
    exact row_to hs (by simp [ht]) rfl

end Sys2Proof.Machine
end

section
/-! SUPPORT. The rows of masters, of packets that arrive at a tile, and of the mesh. -/
namespace Sys2Proof.Machine

theorem gives_eq {s u : State} {ti : Nat} {f : Pkt → Bool} {p : Pkt} (h : s.gives ti f p u) : s.takeArrived ti f = (some p, u) := h

/-- Settles O38: what each row does once its packet is taken from the tile. -/
theorem masterAndDeliveryRowsAct : Obligations.MasterAndDeliveryRowsAct := by
  refine ⟨?_, ?_, ?_, ?_, ?_, ?_, ?_, ?_, ?_, ?_, ?_, ?_, ?_, ?_, ?_, ?_, ?_⟩
  · intro s kind a len pasid data hi hb hq hs
    exact row_to hs (by simp [hi]) (if_neg (by simp [hb, hq]))
  · intro s kind a len pasid data hi hw hs
    exact row_to hs (by simp [hi]) (if_pos (by simpa using hw))
  · rintro s ti u rfl hw hs
    refine act_to hs ?_
    dsimp only
    have hempty : (if ti = whTile ∧ (!(((s.resendAt ti).retry (fun h => h.tile == ti && retryable h)).ord.bars.any (fun b => b.tile == whTile))) = true
        then ((s.resendAt ti).retry (fun h => h.tile == ti && retryable h)).wh.accq else []) = [] := by
      split_ifs with hc
      · obtain ht | hb | hq := hw
        · exact absurd hc.1 ht
        · simp [hb] at hc
        · exact hq
      · rfl
    rw [hempty]
    cases ((s.resendAt ti).retry (fun h => h.tile == ti && retryable h)).waitNext ti with
    | none => rfl
    | some v => rfl
  · rintro s u x rest rfl hb hq hs
    refine act_to hs ?_
    dsimp only
    rw [if_pos ⟨rfl, by rw [hb]; rfl⟩, hq]
  · intro s ti p u h ha hs
    refine act_to hs ?_
    rw [gives_eq h]
    exact if_neg (by simp [ha])
  · intro s ti p u h ha hs
    refine act_to hs ?_
    rw [gives_eq h]
    exact if_pos ha
  · intro s ti p u h hs
    refine act_to hs ?_
    rw [gives_eq h]
  · intro s ti p u h ha hs
    refine act_to hs ?_
    rw [gives_eq h]
    exact if_neg (by simp [ha])
  · intro s ti p u h ha hs
    refine act_to hs ?_
    rw [gives_eq h]
    exact if_neg (by simp [ha])
  · intro s ti a op size o1 o2 p u v old st h hk hargs hr hat hs
    refine act_to hs ?_
    rw [gives_eq h]
    dsimp only
    rw [hargs]
    dsimp only
    rw [if_neg hk, hr]
    dsimp only
    rw [hat]
  · intro s ti a p u v bs st h hr hb hs
    refine act_to hs ?_
    rw [gives_eq h]
    dsimp only
    rw [hr]
    dsimp only
    rw [hb]
  · intro s ti a p u v st h hr hb hs
    refine act_to hs ?_
    rw [gives_eq h]
    dsimp only
    rw [hr]
    dsimp only
    rw [hb]
  · intro s ti e p u h ht hc hs
    refine act_to hs ?_
    rw [gives_eq h]
    dsimp only
    rw [ht]
    exact if_pos hc
  · intro s ti b p u h ht hc hs
    refine act_to hs ?_
    rw [gives_eq h]
    dsimp only
    rw [ht]
    exact if_pos hc
  · intro s ti p u h ht hc hs
    refine act_to hs ?_
    rw [gives_eq h]
    exact if_pos ⟨ht, hc⟩
  · intro s ti p u h ha hs
    refine act_to hs ?_
    rw [gives_eq h]
    exact if_pos ha
  · intro s ti p u h ha hs
    refine act_to hs ?_
    rw [gives_eq h]
    exact if_pos ha

/-- Settles O39: what each row does with the entry, packet or key that it finds. -/
theorem meshRowsAct : Obligations.MeshRowsAct := by
  refine ⟨?_, ?_, ?_, ?_, ?_, ?_, ?_, ?_, ?_, ?_, ?_, ?_⟩
  · intro s ti c u e h he hs
    refine act_to hs ?_
    rw [gives_eq h]
    dsimp only
    rw [he]
  · intro s ti c u h he hs
    refine act_to hs ?_
    rw [gives_eq h]
    dsimp only
    rw [he]
  · intro s ti tag e he hst htag ho hg hs
    refine act_to hs ?_
    rw [he]
    dsimp only
    rw [if_neg (by omega), if_neg (by simp [ho]), if_pos hg]
  · intro s ti tag e he hst htag ho hg hs
    refine act_to hs ?_
    rw [he]
    dsimp only
    rw [if_neg (by omega), if_neg (by simp [ho]), if_neg hg]
  · intro s ti tag e he hst htag hs
    refine act_to hs ?_
    rw [he]
    exact if_neg (by omega)
  · intro s src dt p vc f hf hr hs
    refine act_to hs ?_
    rw [hf]
    exact if_neg (by simp [hr])
  · intro s src dt p vc f hf hr hs
    refine act_to hs ?_
    rw [hf]
    exact if_pos (by simp [hr])
  · intro s ti tag seq x hx hs
    refine act_to hs ?_
    rw [hx]
  · intro s ti r hr hs
    refine act_to hs ?_
    rw [hr]
  · intro s ti dt hf hs
    exact act_to hs (if_pos hf)
  · intro s p ti dd vc hp hport hfar hvc hn hs
    exact (if_neg (credit_in_range hp hport hvc hfar)).trans ((if_neg (by simp [hn])).trans (act_to hs rfl))
  · intro s ti tag e he hst htag ho hs
    refine act_to hs ?_
    rw [he]
    exact (if_neg (by omega)).trans (if_pos ho)

end Sys2Proof.Machine
end

section
/-! SUPPORT. The rows of planes, routers and route banks, and of gates and shapers. -/
namespace Sys2Proof.Machine

/-- Settles O40: each row past the guard of its own event. -/
theorem planeRowsAct : Obligations.PlaneRowsAct := by
  refine ⟨?_, ?_, ?_, ?_, ?_, ?_, ?_, ?_, ?_, ?_, ?_, ?_, ?_⟩
  · intro s p hp hpl hk hf hs
    exact row_to hs (by simp [hp, hpl, hk, hf]) rfl
  · intro s p cause ti port vc f hp h1 h6 hport ho hf he hs
    refine row_to hs (by simp [hport, ho, hf]; omega) ?_
    rw [he]
  · intro s p cause ti port vc hp h1 h6 hport ho hf he hs
    refine row_to hs (by simp [hport, ho, hf]; omega) ?_
    rw [he]
  · intro s ti dt p hf hs
    refine act_to hs ?_
    rw [hf]
  · intro s p hp hpl he hk hs
    exact row_to hs (by simp [hp, hpl, hk]) rfl
  · intro s p hp hpl hd hs
    refine act_to hs (congrArg State.warmRelease ?_)
    exact (if_neg (by simp [hp, hpl])).trans ((if_neg (by decide)).trans (if_neg (by simp [hd])))
  · intro s p hp hpl hs
    refine act_to hs (congrArg State.warmRelease ?_)
    exact (if_neg (by simp [hp, hpl])).trans (if_pos rfl)
  · intro s p ti dd vc hp hport hvc hs
    exact row_to hs (by simp [hp, hport, hvc]) rfl
  · rintro s p ti dd u hp hport hf hd rfl he hs
    exact row_to hs (by simp [hp, hport]) ((if_pos ⟨hf, by simp [hd]⟩).trans (if_pos he))
  · rintro s ti u hu rfl hs
    exact row_to hs (by simpa using hu) rfl
  · intro s hb hs
    exact act_to hs (if_pos hb)
  · intro s ti n hb hn hs
    exact row_to hs (by omega) rfl
  · rintro s p ti dd u hp hport hf hd rfl he hs
    exact row_to hs (by simp [hp, hport]) ((if_pos ⟨hf, by simp [hd]⟩).trans (if_neg (by simp [he])))

/-- Settles O41: each command in the state of its bank (Table 5-3). -/
theorem routeCommandsAct : Obligations.RouteCommandsAct := by
  refine ⟨?_, ?_, ?_, ?_, ?_, ?_, ?_⟩
  · intro s mb c node tier set h hn ht hset hfree hs
    exact cmd_to h hs ((if_neg (by omega)).trans (if_neg (by simp [hfree])))
  · intro s mb c h hs
    exact cmd_to h hs rfl
  · intro s mb c bank ents grps h hb he hg hbank hs
    refine cmd_to h hs ((if_neg (Nat.not_le.2 hb)).trans ?_)
    rw [he, hg]
    exact if_neg (not_not.2 hbank)
  · intro s mb c bank h hb hbank hsync hfail hs
    refine cmd_to h hs ((if_neg (Nat.not_le.2 hb)).trans ((if_neg (by simp [hbank, hsync])).trans ?_))
    rw [hfail]
  · intro s mb c bank h hb hbank hs
    exact cmd_to h hs ((if_neg (Nat.not_le.2 hb)).trans (if_neg (not_not.2 hbank)))
  · intro s mb c h hs
    exact cmd_to h hs rfl
  · intro s mb c bank h hb hbank hsw hres hs
    exact cmd_to h hs ((if_neg (Nat.not_le.2 hb)).trans (if_pos ⟨hbank, hsw, hres⟩))

/-- The end of a flit on an ACTIVE Runnel link looks for the next packet. -/
theorem State.portStart_runnel (s : State) {p : Nat} (hr : (s.endPkt p).backIn.isRunnel p = true) (ha : (s.endPkt p).backIn.lst p = lkACTIVE)
    (hst : ((s.endPkt p).backIn.lk p).stopping = false) : s.portStart p = (s.endPkt p).backIn.runnelStart p :=
  (if_pos hr).trans (if_neg (by simp [ha, hst]))

/-- Settles O42: a port that starts a packet or stays idle, and each timer past its guard. -/
theorem gateAndShaperRowsAct : Obligations.GateAndShaperRowsAct := by
  refine ⟨?_, ?_, ?_, ?_, ?_, ?_, ?_, ?_, ?_, ?_⟩
  · rintro s p u v w x rfl hr ha hst rfl hb rfl hx hs
    refine act_to hs ((s.portStart_runnel hr ha hst).trans ((if_neg (by simp [hb])).trans ?_))
    rw [hx]
  · rintro s p u w x rfl hr hp ha hi rfl hx hs
    refine act_to hs ((if_neg (by simp [hr])).trans ((if_pos ⟨hp, ha, by rw [hi]; rfl⟩).trans ?_))
    dsimp only
    rw [hx]
  · intro s p x hp hu hx hr hs
    refine row_to hs (Nat.not_le.2 hp) ((if_neg (by simp [hu])).trans ?_)
    dsimp only
    rw [hx]
    exact if_pos hr
  · intro s p hp hu hx hs
    refine row_to hs (Nat.not_le.2 hp) ((if_neg (by simp [hu])).trans ?_)
    dsimp only
    rw [hx]
  · intro s p q n hp hq ht hn hs
    refine act_to hs ?_
    rw [if_neg (by simp [ht]; omega), hn]
  · intro s c w hw hr hs
    exact row_to hs (by simp [hw, hr]) rfl
  · rintro s p n u hp ht he hn rfl hs
    refine act_to hs ?_
    rw [if_neg (by simp [ht, he]; omega), hn]
  · intro s p u h hp hs
    refine act_to hs ?_
    rw [gives_eq h]
    exact if_neg (Nat.not_le.2 hp)
  · rintro s p u v rfl hr ha hst rfl hb hs
    exact act_to hs ((s.portStart_runnel hr ha hst).trans (if_pos hb))
  · rintro s p u v w rfl hr ha hst rfl hb rfl hx hs
    refine act_to hs ((s.portStart_runnel hr ha hst).trans ((if_neg (by simp [hb])).trans ?_))
    rw [hx]

end Sys2Proof.Machine
end

section
/-! SUPPORT. The rows of streams (group 4), of the cistern and of the cascade. -/
namespace Sys2Proof.Machine

/-- Settles O43: each command's checks pass, one after the other. -/
theorem streamCommandsAct : Obligations.StreamCommandsAct := by
  refine ⟨?_, ?_, ?_, ?_, ?_, ?_, ?_, ?_, ?_, ?_, ?_⟩
  · rintro s mb c r b u v h hrec harg hfail hblk rfl rfl hs
    refine cmd_to h hs ((if_pos hrec.symm).trans ((if_neg (by simp [harg])).trans ((if_neg (not_not.2 hfail)).trans ?_)))
    rw [hblk]
    rfl
  · rintro s mb c stream role path a u h ha hr rfl hs
    refine cmd_to h hs ?_
    dsimp only [State.streamDel]
    rw [ha]
    dsimp only
    rw [if_neg (by omega), if_neg (by omega)]
  · rintro s mb c stream role path a u h ha hr rfl hs
    refine cmd_to h hs ?_
    dsimp only [State.streamDel]
    rw [ha]
    dsimp only
    rw [if_pos hr]
  · rintro s mb c stream role path a v u h ha hr hany rfl rfl hs
    refine cmd_to h hs ?_
    dsimp only [State.streamDel]
    rw [ha]
    dsimp only
    rw [if_neg (by omega), if_pos ⟨hr, by rw [hany]; rfl⟩]
  · rintro s mb c stream role path ov a h ha rfl hs
    refine cmd_to h hs ?_
    dsimp only [State.streamQuery]
    rw [ha]
  · rintro s mb c p ents u h hp hk hf hlo hhi hpend rfl hfail hs
    have hne : ents ≠ [] := by
      rintro rfl
      exact absurd hlo (by decide)
    exact cmd_to h hs ((if_neg (by simp [hk, hf, hne]; omega)).trans ((if_neg (by simp [hpend])).trans (if_neg (not_not.2 hfail))))
  · intro s mb c ports frame h hp hq hl hs
    refine cmd_to h hs ?_
    dsimp only [State.gclSwap]
    rw [hp]
    dsimp only
    rw [hq]
    dsimp only
    rw [hl]
  · intro s mb c p q cfg quant burst h hp hq hqu hb hno hs
    exact cmd_to h hs ((if_neg (by omega)).trans (if_neg hno))
  · intro s mb c p w0 w1 h hp hs
    exact cmd_to h hs (if_neg (Nat.not_le.2 hp))
  · intro s mb c p cfg offset rings h hp hlo hhi hr hs
    refine cmd_to h hs ((if_neg (by omega)).trans ?_)
    rw [hr]
  · intro s mb c r h hrec harg hfail hs
    exact cmd_to h hs ((if_pos hrec.symm).trans ((if_neg (by simp [harg])).trans (if_pos hfail)))

/-! ### The cascade -/

/-- What an engine that is on looks at when it may start a job. -/
theorem State.jobStart_on (s : State) {e : Nat} (hon : s.on (KT_CTL_EN e) = true) (hf : s.ktState e ≠ ktFAULTED) (hst : s.kt.stopped = false) :
    ¬((!s.on (KT_CTL_EN e)) = true ∨ s.ktState e = ktFAULTED ∨ s.kt.stopped = true) := by simp [hon, hf, hst]

/-- A run whose last packet is out and whose status is known completes. -/
theorem State.jobComplete_known (s : State) {e : Nat} {r : RunJob} {j : Nat} (hr : s.runOf e = some r) (hw : r.waits = false)
    (hsc : s.kt.scat.any (fun x => x.job.e == e && x.job.id == r.id) = false) (hrun : s.ktState e = ktRUNNING)
    (hroom : s.postedRoom e 16 = true) (hj : r.jst = some j) :
    s.jobComplete e = if r.q = 0 then
        ((s.jobDone r j r.pst r.fin).fpNote e r.fp r.idx j).setRun e (some (newRun e 0 r.fp (r.idx + 1) ⟨e, 0, [], 0, 0⟩))
      else (s.jobDone r j r.pst r.fin).engNext e := by
  unfold State.jobComplete
  rw [hr]
  refine (if_neg (by simp [hw, hsc, hrun, hroom])).trans ?_
  rw [hj]

/-- Settles O44: each row past the guard of its own event. -/
theorem cisternAndCascadeRowsAct : Obligations.CisternAndCascadeRowsAct := by
  refine ⟨?_, ?_, ?_, ?_, ?_, ?_, ?_, ?_, ?_, ?_, ?_, ?_, ?_, ?_, ?_, ?_, ?_, ?_, ?_, ?_⟩
  · rintro s b row u v hb hen hret rfl rfl rfl hs
    exact row_to hs (Nat.not_le.2 hb) (if_neg (by simp [hen, hret]))
  · intro s b hb hs
    exact row_to hs (Nat.not_le.2 hb) rfl
  · intro s n x hx hp hs
    refine act_to hs ?_
    rw [hx]
    exact if_neg (by simp only [hp]; decide)
  · rintro s n u hn ht hon hm rfl hs
    exact row_to hs (by simp [ht, hon, hm]; omega) rfl
  · intro s e p u he h hf hen hq hb hg hfree hs
    refine row_to hs (Nat.not_le.2 he) ?_
    rw [gives_eq h]
    refine (if_neg hf).trans ((if_neg (by simp [hen]; omega)).trans ?_)
    rw [if_neg (by omega), if_neg (by simp [hb]), if_neg (by simp [hg]), if_neg hfree]
  · intro s e p u he h hf hq hen hsrc hfree hs
    refine row_to hs (Nat.not_le.2 he) ?_
    rw [gives_eq h]
    refine (if_neg hf).trans ?_
    rw [hq, if_neg (by simp [hen]), if_neg (by simp [hsrc]), if_neg (by omega), if_neg (by omega), if_neg hfree]
  · rintro s e j u v he hon hf hst hr hd hpick hord rfl hs
    refine row_to hs (Nat.not_le.2 he) ((if_neg (s.jobStart_on hon hf hst)).trans ?_)
    dsimp only
    rw [hr, hd]
    dsimp only
    rw [hpick]
    exact if_neg (by simpa using hord)
  · intro s e k he hon hf hst hr hd hq hs
    refine row_to hs (Nat.not_le.2 he) ((if_neg (s.jobStart_on hon hf hst)).trans ?_)
    dsimp only
    rw [hr, hd]
    exact if_pos hq
  · intro s e k r he hon hf hst hr hrq hg hd hq hs
    refine row_to hs (Nat.not_le.2 he) ((if_neg (s.jobStart_on hon hf hst)).trans ?_)
    dsimp only
    rw [hr]
    dsimp only
    rw [if_neg hrq, hd]
    exact if_pos ⟨hg, hq⟩
  · intro s e r he hon hf hst hr hrq hw hidx hq hs
    refine row_to hs (Nat.not_le.2 he) ((if_neg (s.jobStart_on hon hf hst)).trans ?_)
    dsimp only
    rw [hr]
    exact (if_pos hrq).trans (if_pos ⟨hw, hidx, hq⟩)
  · intro s e j r he hr hw hsc hrun hroom hj hq hs
    exact row_to hs (Nat.not_le.2 he) ((s.jobComplete_known hr hw hsc hrun hroom hj).trans (if_neg hq))
  · intro s e j r he hr hw hsc hrun hroom hj hq hs
    exact row_to hs (Nat.not_le.2 he) ((s.jobComplete_known hr hw hsc hrun hroom hj).trans (if_pos hq))
  · intro s e code he h1 h3 hf hs
    exact row_to hs (by omega) rfl
  · rintro s e p u he hp ht hen hlast hstart hreach hdue hout rfl hon hf hst hs
    refine row_to hs ?_ (if_neg (by simp [hon, hf, hst]))
    have hlast' : s.tm.last.isNone = false := by rw [Option.isNone_eq_false_iff]; exact hlast
    rw [ht, hen, hlast', hreach, hdue, hout]
    simp
    omega
  · intro s e r he hr hw hidx hq hs
    refine row_to hs (Nat.not_le.2 he) ?_
    unfold State.fpComplete
    rw [hr]
    exact if_neg (by simp [hw, hq, hidx])
  · intro s e p he hp ht hl hs
    exact row_to hs (by simp [ht, hl]; omega) rfl
  · intro s ti x hx hs
    refine act_to hs ?_
    rw [hx]
  · intro s e x hx hat hroom hs
    refine act_to hs ?_
    rw [hx]
    dsimp only
    rw [if_neg (by omega), if_neg (not_lt.2 hat)]
    exact if_neg (by simp [hroom])
  · rintro s e x u hx hat hreach rfl hroom hs
    refine act_to hs ?_
    rw [hx]
    dsimp only
    rw [if_neg (by simp [hreach]), if_pos hat]
    exact if_neg (by simp [hroom])
  · intro s e r he hr hj hs
    refine row_to hs (Nat.not_le.2 he) ?_
    unfold State.jobComplete
    rw [hr]
    dsimp only
    rw [hj]
    exact ite_self _

end Sys2Proof.Machine
end

section
/-! SUPPORT. The rows of group 5 and of barriers. -/
namespace Sys2Proof.Machine

/-- Settles O45: each command's checks pass, one after the other. -/
theorem cascadeCommandsAct : Obligations.CascadeCommandsAct := by
  refine ⟨?_, ?_, ?_, ?_, ?_, ?_, ?_, ?_, ?_, ?_, ?_, ?_⟩
  · intro s mb c e q cfg basin h he hq hcfg hb hsz hs
    exact cmd_to h hs (if_neg (by omega))
  · rintro s mb c e p pl ctl start weir est n descs u h rfl he hp hpl hctl hst hw hest hlen hsz hgo hen hfail rfl hs
    refine cmd_to h hs ((if_neg ?_).trans ((if_neg (by simp [hen])).trans (if_neg (not_not.2 hfail))))
    rintro (hc | hc | hc | hc | hc | hc | hc | hc | hc | hc)
    · omega
    · omega
    · omega
    · omega
    · omega
    · omega
    · omega
    · exact hc hlen
    · exact absurd hsz (Nat.not_le.2 hc)
    · exact hgo hc
  · intro s mb c ons offs frame h hi hf hw hs
    refine cmd_to h hs ?_
    rw [hi]
    exact if_neg (by simp [hf, hw])
  · intro s mb c n base ctl h hn hb hc hlo hhi hal hlock hnm hs
    exact cmd_to h hs ((if_neg (by simp [hal]; omega)).trans ((if_neg hlock).trans (if_neg (by simp [hnm]))))
  · intro s mb c e h he hs
    exact cmd_to h hs (if_neg (Nat.not_le.2 he))
  · intro s mb c g nodes h hg hok hs
    exact cmd_to h hs (if_neg (by simp [hok]; omega))
  · intro s mb c n base units ctl h hn hal hend hu hc hw hm hseal hlock hmeet hs
    have hend' : base + units * 65536 ≤ 0x6000000 := hend
    exact cmd_to h hs ((if_neg (by omega)).trans ((if_neg (by simp [hseal, hlock])).trans ((if_neg (by simp [hmeet])).trans
      ((if_neg (Nat.not_lt.2 hend)).trans (if_neg (fun hc => hc.1 hm))))))
  · intro s mb c n base units ctl h hn hal hu hc hw hm1 hm2 hend hseal hlock hmeet hmeet2 hr hs
    have hend' : base + bits ctl 4 5 * 0x400000 + units * 65536 ≤ 0x6000000 := hend
    refine cmd_to h hs ((if_neg (by omega)).trans ((if_neg (by simp [hseal, hlock])).trans ((if_neg (by simp [hmeet])).trans
      ((if_neg (Nat.not_lt.2 (le_trans (by omega) hend))).trans (if_neg ?_)))))
    rintro ⟨-, hc | hc | hc | hc⟩
    · omega
    · exact absurd hend (Nat.not_le.2 hc)
    · simp [hmeet2] at hc
    · simp [hr] at hc
  · intro s mb c n h hn hs
    exact cmd_to h hs (if_neg (Nat.not_le.2 hn))
  · intro s mb c n h hn hd hm hl hb hs
    refine cmd_to h hs ((if_neg (by simp [hd, hm]; omega)).trans ?_)
    dsimp only
    rw [if_pos hl]
    exact if_neg (Bool.eq_false_iff.1 hb)
  · intro s mb c n h hn hd hm hl hb hs
    refine cmd_to h hs ((if_neg (by simp [hd, hm]; omega)).trans ?_)
    dsimp only
    rw [if_neg (Bool.eq_false_iff.1 hl)]
    exact if_neg (Bool.eq_false_iff.1 hb)
  · intro s mb c e h he hs
    exact cmd_to h hs (if_neg (Nat.not_le.2 he))

/-- Settles O46: each row with the barrier, request or acknowledgement that it finds. -/
theorem barrierRowsAct : Obligations.BarrierRowsAct := by
  refine ⟨?_, ?_, ?_, ?_, ?_, ?_, ?_, ?_, ?_⟩
  · intro s ti b hb hs
    refine act_to hs ?_
    rw [hb]
  · intro s ti o hb ho hs
    refine act_to hs ?_
    rw [hb]
    dsimp only
    rw [ho]
  · intro s ti p u h hbit hs
    refine act_to hs ?_
    rw [gives_eq h]
    exact if_pos hbit
  · intro s ti p u h hbit ht hs
    refine act_to hs ?_
    rw [gives_eq h]
    exact (if_neg (by simp [hbit])).trans (if_pos ht)
  · rintro s r rest q u v hd hq hn rfl hs
    refine act_to hs ?_
    rw [hd, hq]
    dsimp only
    rw [hn]
  · rintro s ti p u v h ht htag hdie hseq hnode hleft rfl hs
    refine act_to hs ?_
    rw [gives_eq h]
    exact if_pos ⟨ht, htag, hdie, hseq, hnode, hleft⟩
  · intro s ti p u b h ht hb hs
    refine act_to hs ?_
    rw [gives_eq h]
    refine (if_neg (fun hc => ht hc.1)).trans ((if_neg (fun hc => ht hc.1)).trans ?_)
    rw [hb]
  · intro s ti p u h ht hb hs
    refine act_to hs ?_
    rw [gives_eq h]
    refine (if_neg (fun hc => ht hc.1)).trans ((if_neg (fun hc => ht hc.1)).trans ?_)
    rw [hb]
  · intro s n hsys hleft hs
    exact act_to hs (if_pos ⟨hsys, hleft⟩)

end Sys2Proof.Machine
end

section
/-! SUPPORT. The rows of a Runnel link in ACTIVE: flits and acknowledgements, lane maps and markers. -/
namespace Sys2Proof.Machine

/-- A Runnel link in ACTIVE passes the guard of its rows. -/
theorem active_guard {s : State} {p : Nat} (hr : s.isRunnel p = true) (ha : s.lst p = lkACTIVE) :
    ¬((!s.isRunnel p) = true ∨ s.lst p ≠ lkACTIVE) := by simp [hr, ha]

/-- A NAK on an ACTIVE link whose number is fresh and that leaves the link ACTIVE. -/
theorem State.nakIn_fresh (s : State) {p a : Nat} (hr : s.isRunnel p = true) (ha : s.lst p = lkACTIVE)
    (hf : (s.pcount C_LNK_NAK_RX p).ackFresh p (a % 65536) = true) (hu : ((s.pcount C_LNK_NAK_RX p).ackTo p (a % 65536)).lst p = lkACTIVE)
    (hnew : ∀ b n, (((s.pcount C_LNK_NAK_RX p).ackTo p (a % 65536)).lk p).lastNak = some (b, n) →
      ¬(b = a % 65536 ∧ ((s.pcount C_LNK_NAK_RX p).ackTo p (a % 65536)).ns < n + ((s.pcount C_LNK_NAK_RX p).ackTo p (a % 65536)).tAck p)) :
    s.nakIn p a = ((s.pcount C_LNK_NAK_RX p).ackTo p (a % 65536)).replay p (a % 65536) := by
  refine (if_neg (active_guard hr ha)).trans ((if_neg (by simp [hf])).trans ((if_neg (not_not.2 hu)).trans ?_))
  cases hl : (((s.pcount C_LNK_NAK_RX p).ackTo p (a % 65536)).lk p).lastNak with
  | none => rfl
  | some x => exact if_neg (hnew x.1 x.2 hl)

/-- Settles O47: each row past the guard of an ACTIVE link. -/
theorem flitAndAckRowsAct : Obligations.FlitAndAckRowsAct := by
  refine ⟨?_, ?_, ?_, ?_, ?_, ?_, ?_, ?_, ?_, ?_, ?_, ?_⟩
  · intro s p header payload crc par0 par1 par2 hr ha hs
    exact row_to hs (active_guard hr ha) rfl
  · intro s p a hr ha hs
    exact act_to hs (if_neg (active_guard hr ha))
  · rintro s p a u hr ha hf rfl hu hl hs
    exact act_to hs (s.nakIn_fresh hr ha hf hu (by simp [hl]))
  · rintro s p a b n u hr ha hf rfl hu hl hnew hs
    refine act_to hs (s.nakIn_fresh hr ha hf hu fun b' n' h => ?_)
    obtain ⟨rfl, rfl⟩ := Prod.mk.inj (Option.some.inj (hl.symm.trans h))
    exact hnew
  · intro s p k rest hr ha hk hs
    refine row_to hs (active_guard hr ha) ?_
    rw [hk]
  · rintro s p u hr ha hn rfl hs
    exact row_to hs (by simp [hr, ha, hn]) rfl
  · intro s p vn cum hr ha hvn h1 h2 hs
    exact act_to hs ((if_neg (by simp [hr, ha]; omega)).trans (if_neg (by omega)))
  · rintro s p vn x u hx hd hq hsp rfl hs
    refine act_to hs ?_
    rw [hx]
    dsimp only
    rw [if_neg (by simp [hd, hq]), hsp]
    rfl
  · intro s p hr ha hst hs
    exact act_to hs ((if_neg (by simp [hr])).trans ((if_neg (not_not.2 ha)).trans (if_neg (by simp [hst]))))
  · intro s p hr ha hs
    exact act_to hs ((if_neg (by simp [hr])).trans (if_pos ha))
  · intro s p hr hst hl hsel hs
    refine row_to hs (by simp [hr]) (if_neg ?_)
    rintro (⟨h1, h2⟩ | h | h)
    · exact hst.elim h1 h2
    · rw [Option.isNone_iff_eq_none] at h
      simp [h] at hl
    · simp [hsel] at h
  · rintro s p vn a x u hx hd hq hsp rfl hs
    refine act_to hs ?_
    rw [hx]
    dsimp only
    rw [if_neg (by simp [hd, hq]), hsp]

/-- A map request on an ACTIVE link looks at the change under way. -/
theorem State.mapReqIn_active (s : State) {p : Nat} (rid kind lane m node : Nat) {c : MapChg} (hr : s.isRunnel p = true)
    (ha : s.lst p = lkACTIVE) (hc : (s.lk p).chg = some c) :
    s.mapReqIn p rid kind lane m node = if c.mine ∧ c.phase = 0 then
        (if node % 4096 < s.node then s else (s.crossLost p).mapAnswer p (rid % 256) kind lane (m % 2 ^ 16))
      else s.mapAnswer p (rid % 256) kind lane (m % 2 ^ 16) := by
  refine (if_neg (active_guard hr ha)).trans ?_
  rw [hc]

/-- Settles O48: each row with the change, map or lane that it finds. -/
theorem laneAndMapRowsAct : Obligations.LaneAndMapRowsAct := by
  refine ⟨?_, ?_, ?_, ?_, ?_, ?_, ?_, ?_, ?_, ?_, ?_, ?_, ?_, ?_, ?_, ?_, ?_⟩
  · intro s p rid kind lane m node hr ha hc hs
    refine act_to hs ((if_neg (active_guard hr ha)).trans ?_)
    rw [hc]
  · intro s p rid kind lane m node c hr ha hc hm hp hn hs
    exact act_to hs ((s.mapReqIn_active rid kind lane m node hr ha hc).trans ((if_pos ⟨hm, hp⟩).trans (if_neg (Nat.not_lt.2 hn))))
  · intro s p rid ok c hr ha hc hm hp hrid hs
    refine act_to hs ((if_neg (active_guard hr ha)).trans ?_)
    rw [hc]
    exact if_pos ⟨hm, hp, hrid⟩
  · intro s p rid c hr hc hp hrid hs
    refine act_to hs ?_
    unfold State.readyIn
    rw [hc]
    exact if_pos ⟨hp, hrid, hr⟩
  · intro s p c hr hc hp hs
    refine act_to hs ?_
    rw [hc]
    exact if_pos ⟨hp, hr⟩
  · intro s p m hr ha hf hs
    refine row_to hs (active_guard hr ha) ?_
    rw [hf]
  · rintro s p c u hr ha hf hc hp hm rfl htx hrpl hs
    refine row_to hs (active_guard hr ha) ?_
    rw [hf]
    dsimp only
    rw [hc]
    exact (if_pos ⟨hp, hm⟩).trans (if_neg (by simp [htx, hrpl]))
  · intro s p m bytes hr ha hm hs
    refine row_to hs (active_guard hr ha) ?_
    rw [hm]
  · intro s p hr hl hs
    exact row_to hs (by simp [hr, hl]) rfl
  · intro s p l hr ha hl hs
    exact act_to hs (if_neg (by simp [hr, ha, hl]))
  · intro s p l hr ha hl hs
    exact row_to hs (by simp [hr, ha, hl]) rfl
  · rintro s p l u hr hper rfl rfl hs
    exact row_to hs (by simp [hr, hper]) rfl
  · intro s p l hr hrec hsp hs
    refine act_to hs ?_
    rw [hrec]
    exact (if_neg (by simp [hr])).trans (if_pos hsp)
  · rintro s p l u hr hrec hsp rfl hs
    refine act_to hs ?_
    rw [hrec]
    exact (if_neg (by simp [hr])).trans (if_neg hsp)
  · intro s p l k hr hrec hk hs
    refine act_to hs ?_
    rw [hrec]
    exact if_neg (by simp [hr, hk])
  · intro s p rid kind lane m node c hr ha hc hm hp hn hs
    exact act_to hs ((s.mapReqIn_active rid kind lane m node hr ha hc).trans ((if_pos ⟨hm, hp⟩).trans (if_pos hn)))
  · intro s p rid kind lane m node c hr ha hc hno hs
    exact act_to hs ((s.mapReqIn_active rid kind lane m node hr ha hc).trans (if_neg hno))

end Sys2Proof.Machine
end

section
/-! SUPPORT. The rows of a Runnel link's states (training to idle) and the port commands of group 2. -/
namespace Sys2Proof.Machine

/-- A training block that decodes, in a state of the link that takes it. -/
theorem State.trainBlock_some (s : State) {p : Nat} (l : Nat) (b : TrainBlk)
    (h : s.lst p = lkACTIVE ∨ s.lst p = lkEIDLE ∨ s.lst p = lkCONFIG ∨ s.lst p = lkRETRAIN) {u : State}
    (hu : u = s.lkMap p (fun x => { x with echo := b.tstamp, echoAt := s.lclk })) :
    s.trainBlock p l (some b) = if s.lst p = lkACTIVE ∨ s.lst p = lkEIDLE then
        ((u.pput LNK_LANES_OK p (laneSub (u.pget LNK_LANES_OK p ||| 2 ^ l) (u.pget LNK_LANES_FAILED p))).toRetrain p).trainStep p l b
      else (u.pput LNK_LANES_OK p (laneSub (u.pget LNK_LANES_OK p ||| 2 ^ l) (u.pget LNK_LANES_FAILED p))).trainStep p l b := by
  subst hu
  exact if_neg (by tauto)

/-- Settles O49: each row in the state of the link that takes it. -/
theorem linkStateRowsAct : Obligations.LinkStateRowsAct := by
  refine ⟨?_, ?_, ?_, ?_, ?_, ?_, ?_, ?_, ?_, ?_, ?_, ?_, ?_, ?_, ?_⟩
  · intro s p lanes hr hl hw hs
    exact row_to hs (by simp [hr]) (if_pos ⟨hl, hw⟩)
  · rintro s p lanes good u v hr hl rfl hw rfl rfl hs
    exact row_to hs (by simp [hr]) (if_pos ⟨hl, hw⟩)
  · intro s p hr hl hs
    exact row_to hs (by simp [hr]) (if_pos hl)
  · rintro s p l now magic ctl node port nonce pnonce nextRx offers lanes tstamp echoed age crc rsv b u hr hl hst hb rfl hu hs
    refine row_to hs (by simp [hr, hl]) ?_
    rw [hb]
    refine (s.trainBlock_some l b (by tauto) hu).trans (if_neg ?_)
    obtain h | h := hst
    · rw [h]
      decide
    · rw [h]
      decide
  · rintro s p l now magic ctl node port nonce pnonce nextRx offers lanes tstamp echoed age crc rsv b u hr hl hst hb rfl hu hs
    refine row_to hs (by simp [hr, hl]) ?_
    rw [hb]
    exact (s.trainBlock_some l b (by tauto) hu).trans (if_pos hst)
  · intro s p hr hl hs
    exact row_to hs (by simp [hr]) (if_pos hl)
  · intro s p hr hh hl hs
    exact row_to hs (by simp [hr]) (if_pos ⟨hh, hl⟩)
  · intro s p hr hl hi hs
    exact row_to hs (by simp [hr]) (if_pos ⟨hl, by simp [hi]⟩)
  · intro s p hr hst hs
    exact row_to hs (by simp [hr, hst]) rfl
  · rintro s mb c p ctl rtt crit mem en u v h hr hl rfl hfail rfl hs
    refine cmd_to h hs ((if_neg (by simp [hr])).trans ((if_neg (by simp [hl])).trans ?_))
    dsimp only
    rw [if_pos hl]
    exact if_neg (not_not.2 hfail)
  · intro s mb c p h hr hs
    exact cmd_to h hs (if_neg (by simp [hr]))
  · rintro s mb c p w m h hr hw hl hc rfl hle hne hs
    exact cmd_to h hs ((if_neg (by simp [hr])).trans ((if_neg (by rw [hw]; decide)).trans ((if_neg (by simp [hl, hc])).trans
      ((if_neg (Nat.not_lt.2 hle)).trans (if_neg hne)))))
  · intro s mb c p l h hr hl hc hs
    exact cmd_to h hs ((if_neg (by simp [hr, hl])).trans (if_neg (by simp [hc])))
  · intro s mb c p l h hr hl hs
    exact cmd_to h hs (if_neg (by simp [hr, hl]))
  · intro s mb c p h hr hs
    exact cmd_to h hs (if_neg (by simp [hr]))

/-- Settles O52: each command's checks pass, one after the other. -/
theorem portCommandsAct : Obligations.PortCommandsAct := by
  refine ⟨?_, ?_, ?_, ?_, ?_, ?_, ?_⟩
  · rintro s mb c p cfg pcfg tcmap u h hp hcfg hal h1 h29 hfail hoff rfl hs
    exact cmd_to h hs ((if_neg (by simp [hal]; omega)).trans ((if_neg (not_not.2 hfail)).trans (if_neg (by simp [hoff]))))
  · rintro s mb c n ctl hostA hostB vs u h h1 hn hA hB hno hv hlen rfl hs
    refine cmd_to h hs ((if_neg (by omega)).trans ((if_neg hno).trans ?_))
    rw [hv]
    exact if_neg (Nat.not_lt.2 hlen)
  · intro s mb c p ents h hd hsh he hs
    refine cmd_to h hs ((if_neg (by simp [hd, hsh])).trans ?_)
    rw [he]
  · intro s mb c n cfg tim tim2 pmb h hn hcfg ht ht2 hpmb hk hs
    refine cmd_to h hs (if_neg ?_)
    rintro (hc | hc | hc | hc | hc | ⟨hb, hc⟩)
    · omega
    · omega
    · omega
    · omega
    · omega
    · obtain hk | hk := hk
      · simp [hk] at hb
      · exact hc hk
  · intro s mb c n op h hn hop hs
    exact cmd_to h hs (if_neg (by omega))
  · intro s mb c p h hd hs
    exact cmd_to h hs (if_neg (by simp [hd]))
  · intro s mb c p h hp hk hs
    exact cmd_to h hs (if_neg (by simp [hk]; omega))

end Sys2Proof.Machine
end

section
/-! SUPPORT. The rows of PCI Express ports and of slots. -/
namespace Sys2Proof.Machine

/-! ### TLPs -/

theorem State.tlpIn_faulty {s u : State} {p : Nat} {x : Tlp} (data : List Word) (h : s.faulty p x = some u) :
    s.tlpIn p x data = u.fcBack p x.cls data.length := by
  unfold State.tlpIn
  rw [h]

theorem State.tlpIn_homeless {s : State} {p : Nat} {x : Tlp} (data : List Word) (h : s.faulty p x = none) (hh : s.tlpHpart p x = none) :
    s.tlpIn p x data = (s.urTlp p (s.linkParts p) x).fcBack p x.cls data.length := by
  unfold State.tlpIn
  rw [h]
  dsimp only
  rw [hh]

section
variable {s : State} {p hp : Nat} {x y : Tlp} (data : List Word) (h : s.faulty p x = none) (hh : s.tlpHpart p x = some hp)
  (hy : y = { x with part := hp, pasid := x.pasid.filter (· != 0) })
include h hh hy

/-- A TLP of host partition `hp` that must wait. -/
theorem State.tlpIn_waits (hw : s.tlpWaits p y = true) :
    s.tlpIn p x data = { s with pc := { s.pc with wait := s.pc.wait ++ [(⟨p, y, data, s.wh.rstBusy⟩ : WaitTlp)] } } := by
  subst hy
  unfold State.tlpIn
  rw [h]
  dsimp only
  rw [hh]
  exact if_pos hw

/-- A TLP of host partition `hp` that goes on. -/
theorem State.tlpIn_goes (hw : s.tlpWaits p y = false) : s.tlpIn p x data = (s.tlpGo p y data).fcBack p y.cls data.length := by
  subst hy
  unfold State.tlpIn
  rw [h]
  dsimp only
  rw [hh]
  exact if_neg (Bool.eq_false_iff.1 hw)

end

/-- A host link that served no partition leaves nothing more to do. -/
theorem State.hostGone_none {s : State} {p : Nat} (h : s.hostPart p = none) : s.hostGone p = s := by
  unfold State.hostGone
  rw [h]

theorem State.hostGone_some {s : State} {p hp : Nat} (h : s.hostPart p = some hp) :
    s.hostGone p = if (s.showOnB hp).hostUp hp then s.showOnB hp else (s.showOnB hp).freeSems (0x20 + hp) := by
  unfold State.hostGone
  rw [h]

/-- Settles O50: a TLP by its kind, and each other row past the guard of its port. -/
theorem pcieRowsAct : Obligations.PcieRowsAct := by
  refine ⟨?_, ?_, ?_, ?_, ?_, ?_, ?_, ?_, ?_, ?_, ?_, ?_, ?_, ?_, ?_, ?_, ?_, ?_, ?_, ?_⟩
  · intro s p hp x y data hh hl hf hpart hy hw hs
    exact act_to hs ((if_pos ⟨hh, hl⟩).trans (State.tlpIn_goes data hf hpart hy hw))
  · intro s p hp x y data hh hl hf hpart hy hw hs
    exact act_to hs ((if_pos ⟨hh, hl⟩).trans (State.tlpIn_waits data hf hpart hy hw))
  · intro s p hp x y data hd hl hf hpart hy hw hs
    exact act_to hs ((if_pos ⟨hd, hl⟩).trans (State.tlpIn_goes data hf hpart hy hw))
  · intro s p tag o ho hs
    refine act_to hs ?_
    rw [ho]
  · intro s p hp x y data hh hl ht hf hpart hy hw hs
    exact act_to hs ((if_pos ⟨hh, hl, ht⟩).trans (State.tlpIn_goes data hf hpart hy hw))
  · rintro s p hp rid sub scope token x y hl hport rfl hf hpart hy hw hs
    exact act_to hs ((if_pos ⟨hl, hport⟩).trans (State.tlpIn_goes [] hf hpart hy hw))
  · rintro s p hp rid sub scope token x y hl hport rfl hf hpart hy hw hs
    exact act_to hs ((if_pos ⟨hl, hport⟩).trans (State.tlpIn_waits [] hf hpart hy hw))
  · intro s p cause hd hl h1 h3 hnf hs
    exact row_to hs (by simp [hd, hl]; omega) (if_neg (by simpa using hnf))
  · rintro s p n hl hh hd hv rfl hs
    exact row_to hs (by simp [hl, hd]) ((if_neg (by simp [hh])).trans (if_pos hv))
  · intro s p hl hh hd hv hs
    exact row_to hs (by simp [hl, hd]) ((if_neg (by simp [hh])).trans (if_neg (by simp [hv])))
  · intro s h dev v hv hn hs
    refine act_to hs ?_
    rw [hv]
    exact if_pos hn
  · intro s p rid hd hr hs
    exact row_to hs (by simp [hd]) (if_neg (by simp [hr]))
  · rintro s p u hh hl rfl hpart hs
    exact row_to hs (by simp [hh, hl]) (State.hostGone_none hpart)
  · rintro s p hp u hh hl rfl hpart hs
    exact row_to hs (by simp [hh, hl]) (State.hostGone_some hpart)
  · rintro s p width rate en flit ten u hh hl hfit rfl hs
    exact row_to hs (by simp [hh, hl, hfit]) rfl
  · intro s p cls hdr data hport hl hcls hs
    exact row_to hs (by rw [hport, hl]; simp; omega) rfl
  · intro s p x data u hh hl hf hs
    exact act_to hs ((if_pos ⟨hh, hl⟩).trans (State.tlpIn_faulty data hf))
  · intro s p x data hh hl hf hpart hs
    exact act_to hs ((if_pos ⟨hh, hl⟩).trans (State.tlpIn_homeless data hf hpart))
  · intro s p x data u hd hl hf hs
    exact act_to hs ((if_pos ⟨hd, hl⟩).trans (State.tlpIn_faulty data hf))
  · intro s p rid hd hr hs
    exact row_to hs (by simp [hd]) (if_pos hr)

/-! ### Slots -/

/-- Settles O51: each row in the state of the slot that takes it. -/
theorem slotRowsAct : Obligations.SlotRowsAct := by
  refine ⟨?_, ?_, ?_, ?_, ?_, ?_, ?_, ?_, ?_, ?_, ?_, ?_, ?_, ?_, ?_, ?_, ?_, ?_, ?_, ?_⟩
  · rintro s n lvl hn hst hp rfl hs
    exact row_to hs (Nat.not_le.2 hn) ((if_neg (by simp [hp])).trans (if_pos ⟨hst, rfl⟩))
  · rintro s n lvl hn hst hp rfl hs
    exact row_to hs (Nat.not_le.2 hn) ((if_neg (by simp [hp])).trans ((if_neg (by simp)).trans (if_pos ⟨hst, rfl⟩)))
  · rintro s n lvl hn hst hp rfl hs
    refine row_to hs (Nat.not_le.2 hn) ((if_neg (by simp [hp])).trans ((if_neg (by simp)).trans ((if_neg ?_).trans (if_pos ⟨hst, rfl⟩))))
    rw [hst]
    decide
  · intro s n hn hst hp hw hs
    exact row_to hs (Nat.not_le.2 hn) (if_pos ⟨hst, hp, hw⟩)
  · rintro s n lvl hn hst rfl hs
    exact row_to hs (Nat.not_le.2 hn) (if_pos ⟨hst, rfl⟩)
  · rintro s n lvl hn hst rfl hs
    exact row_to hs (Nat.not_le.2 hn) ((if_neg (by simp)).trans (if_pos ⟨hst, rfl⟩))
  · intro s n hn hst hs
    exact row_to hs (Nat.not_le.2 hn) (if_pos hst)
  · rintro s n u hn hst rfl hs
    exact row_to hs (Nat.not_le.2 hn) (if_pos hst)
  · intro s n width rate en flit ten hn hst hd hl hfit hs
    exact row_to hs (Nat.not_le.2 hn) (if_pos ⟨hst, hd, hl, hfit⟩)
  · intro s n width rate en flit ten hn hst hd hl hfit hs
    refine row_to hs (Nat.not_le.2 hn) ((if_neg ?_).trans (if_pos ⟨hst, hd, hl, hfit⟩))
    rw [hst]
    exact fun h => absurd h.1 (by decide)
  · intro s n hn hst hs
    exact row_to hs (Nat.not_le.2 hn) (if_pos hst)
  · intro s n gone hn hst hs
    exact row_to hs (Nat.not_le.2 hn) (if_pos hst)
  · intro s n lvl hn hl hs
    exact row_to hs (by omega) (if_pos hl)
  · rintro s n lvl hn rfl hst hs
    exact row_to hs (by omega) ((if_neg (by decide)).trans (if_pos hst))
  · intro s n hn hst hs
    exact row_to hs (Nat.not_le.2 hn) (if_pos hst)
  · intro s n hn hst hg hs
    exact row_to hs (Nat.not_le.2 hn) (if_pos ⟨hst, hg⟩)
  · rintro s n u hn hst hleft hp rfl hs
    exact row_to hs (Nat.not_le.2 hn) (if_pos ⟨hst, hleft, hp⟩)
  · rintro s n u hn hst rfl hon hs
    exact row_to hs (by omega) (if_pos hon)
  · rintro s n u hn hst rfl hon hs
    exact row_to hs (by omega) (if_neg (by simp [hon]))
  · rintro s n vin vout iout pin vmode e u v hn hen rfl hr hs
    refine row_to hs (by simp [hen]; omega) ?_
    dsimp only
    rw [hr]

end Sys2Proof.Machine
end


section

/-!
SUPPORT. The rows of the basins and of the guards.
-/

namespace Sys2Proof.Machine

/-! ### Doorbells -/

/-- A store through an open BAR enters in the partition of its host. -/
theorem State.tlpHpart_bell {s : State} {p h : Nat} (hopen : s.bellOpen p h = true) (rid : Nat) (pasid : Option Nat)
    (ptc a : Nat) (data : List Word) : s.tlpHpart p (s.bellMemWr h rid pasid ptc a data) = some h := by
  simp only [State.bellOpen, Bool.and_eq_true, beq_iff_eq] at hopen
  obtain ⟨⟨⟨hhost, -⟩, hpart⟩, -⟩ := hopen
  exact (if_neg Bool.false_ne_true).trans ((if_pos hhost).trans hpart)

/-! ### The end of a basin's flush -/

theorem State.flushAnswer_none {s : State} {b : Nat} {destroy : Bool} (f : Flush)
    (h : s.parkedOn (fun w => w == .basin b destroy) = none) : s.flushAnswer b destroy f = s := by
  unfold State.flushAnswer
  rw [h]

theorem State.flushAnswer_some {s : State} {b mb : Nat} {destroy : Bool} (f : Flush)
    (h : s.parkedOn (fun w => w == .basin b destroy) = some mb) :
    s.flushAnswer b destroy f = if f.worst = .ok then s.ok mb [] else s.reply mb mFABRIC f.worst.code 0 0 [] := by
  unfold State.flushAnswer
  rw [h]

/-- Settles O53: each row in the state that takes it. -/
theorem basinRowsAct : Obligations.BasinRowsAct := by
  refine ⟨?_, ?_, ?_, ?_, ?_, ?_, ?_, ?_, ?_⟩
  · rintro s p h rid ptc a pasid data x y hopen rfl hf hy hw hs
    exact act_to hs ((if_pos hopen).trans (State.tlpIn_goes data hf (State.tlpHpart_bell hopen rid pasid ptc a data) hy hw))
  · rintro s p h rid ptc a pasid tail x y hopen rfl hf hy hw hs
    exact act_to hs ((if_pos hopen).trans (State.tlpIn_goes [tail] hf (State.tlpHpart_bell hopen rid pasid ptc a [tail]) hy hw))
  · rintro s e i p u he h rfl hgen hen heng hring hs
    refine row_to hs (Nat.not_le.2 he) ?_
    rw [gives_eq h]
    exact (if_neg (not_not.2 hgen)).trans (if_neg (by simp [hen, heng, hring]))
  · rintro s b e u hc he rfl hs
    refine act_to hs ?_
    rw [hc, he]
  · intro s b p u hb h hs
    refine row_to hs (Nat.not_le.2 hb) ?_
    rw [gives_eq h]
  · rintro s b f u hf hst rfl hpark hs
    refine act_to hs ?_
    rw [hf]
    exact (if_neg (not_not.2 hst)).trans (State.flushAnswer_none f hpark)
  · rintro s b mb f u hf hst rfl hpark hs
    refine act_to hs ?_
    rw [hf]
    exact (if_neg (not_not.2 hst)).trans (State.flushAnswer_some f hpark)
  · rintro s b f u hf hst rfl hpark hs
    refine act_to hs ?_
    rw [hf]
    exact (if_neg (not_not.2 hst)).trans (State.flushAnswer_none f hpark)
  · rintro s b mb f u hf hst rfl hpark hs
    refine act_to hs ?_
    rw [hf]
    exact (if_neg (not_not.2 hst)).trans (State.flushAnswer_some f hpark)

/-! ### Group 6 -/

/-- A command of group 6 that runs on an active basin does what it says. -/
theorem basin_to {s u : State} {mb op b : Nat} {own : Bool} {c : OpenCmd} {f : OpenCmd → State → State} (h : s.runs mb op c)
    (hb : b < 1024) (hown : own = true → s.basinIssuer c = true) (hst : s.basinSt b = bACTIVE) (hbusy : s.basinBusy b = false)
    (hs : s.stopped = false) (hf : f c s = u) : act s (s.basinCmd mb op b own f) = .next u.settle := by
  refine cmd_to h hs ?_
  have hissuer : ¬((own && !s.basinIssuer c) = true) := by
    cases own <;> simp_all
  exact (if_neg (Nat.not_le.2 hb)).trans ((if_neg hissuer).trans ((if_neg (by simp [hst, hbusy])).trans hf))

/-- An element at its place of a list without repetitions stands not before it. -/
theorem not_mem_take_of_nodup {α β : Type} {l : List α} {f : α → β} (hnd : (l.map f).Nodup) {x : α} {i : Nat}
    (hx : (x, i) ∈ l.zipIdx) : f x ∉ (l.take i).map f := by
  obtain ⟨hi, hxi⟩ : ∃ hi : i < l.length, l[i] = x := by
    have := List.mem_zipIdx_iff_getElem?.1 hx
    exact List.getElem?_eq_some_iff.1 this
  rw [List.map_take]
  intro hmem
  obtain ⟨j, hj, hjx⟩ := List.mem_take_iff_getElem.1 hmem
  have hlen : j < i ∧ j < (l.map f).length := by
    simp only [List.length_map] at hj ⊢
    omega
  have heq : (l.map f)[j]'hlen.2 = (l.map f)[i]'(by simpa using hi) := by
    rw [hjx]
    simp [hxi]
  exact absurd ((hnd.getElem_inj_iff).1 heq) (Nat.ne_of_lt hlen.1)

/-- Settles O54: each command on a basin in the state it needs. -/
theorem basinCommandsAct : Obligations.BasinCommandsAct := by
  refine ⟨?_, ?_, ?_, ?_, ?_, ?_, ?_, ?_, ?_⟩
  · intro s mb c b h pasid qbase qsize cons binds vecs hr hb hbusy hfail hs
    exact cmd_to hr hs ((if_neg (Nat.not_le.2 hb)).trans ((if_neg (by simp [hbusy])).trans (if_neg (not_not.2 hfail))))
  · intro s mb c b hr hb hown hst hbusy h0 hs
    exact basin_to hr hb (fun _ => hown) hst hbusy hs (if_neg h0)
  · intro s mb c b hr hb hown hst hbusy h0 hs
    exact basin_to hr hb (fun _ => hown) hst hbusy hs (if_neg h0)
  · intro s mb c b ents hr hb hown hst hbusy hmap hlen hrange hnd hs
    refine basin_to hr hb (fun _ => hown) hst hbusy hs ?_
    dsimp only
    split
    case h_1 x hfind =>
      have hbad := List.find?_some hfind
      have hmem := List.mem_of_find?_eq_some hfind
      obtain ⟨e, i⟩ := x
      have hrep := not_mem_take_of_nodup hnd hmem
      have hi : i < ents.length := (List.mem_zipIdx' hmem).1
      have he := List.all_eq_true.1 hrange e ((List.mem_zipIdx' hmem).2 ▸ List.getElem_mem _)
      simp only [hmap, List.map_nil, List.contains_nil, Bool.or_false, List.length_nil, Nat.zero_add, Bool.or_eq_true, beq_iff_eq,
        decide_eq_true_eq, List.contains_iff_mem] at hbad
      simp only [Bool.and_eq_true, bne_iff_ne, ne_eq, decide_eq_true_eq] at he
      obtain ⟨⟨⟨hne, hle⟩, hrid⟩, hpasid⟩ := he
      rcases hbad with ((h | h) | h) | h
      · exact absurd h hne
      · omega
      · exact absurd h hrep
      · omega
    case h_2 => rfl
  · intro s mb c b ents hr hb hown hst hbusy hfind hs
    refine basin_to hr hb (fun _ => hown) hst hbusy hs ?_
    dsimp only
    rw [hfind]
  · rintro s mb c b base size buf0 buf1 en hr hb hown hst hbusy hon rfl hs
    exact basin_to hr hb (fun _ => hown) hst hbusy hs ((if_pos hon).trans (if_neg (by decide)))
  · intro s mb c b base size buf0 buf1 en hr hb hown hst hbusy hoff h0 hlo hhi hal hbase h1 h2 hmeet hs
    refine basin_to hr hb (fun _ => hown) hst hbusy hs ((if_neg (by simp [hoff])).trans (if_neg ?_))
    simp [h0, hal, h1, h2, hmeet]
    omega
  · rintro s mb c b id engs u v w hr hb hst hbusy hlog rfl rfl rfl hfl hs
    refine basin_to hr hb (fun h => absurd h (by decide)) hst hbusy hs ((if_neg (by simp [hlog])).trans ?_)
    dsimp only at hfl ⊢
    rw [hfl]
  · intro s mb c b hr hb hst hbusy hs
    exact basin_to hr hb (fun h => absurd h (by decide)) hst hbusy hs rfl

/-! ### Group 9 -/

/-- Settles O55: each command of group 9 and the limit of GUARD_SWAP. -/
theorem guardRowsAct : Obligations.GuardRowsAct := by
  refine ⟨?_, ?_, ?_, ?_, ?_, ?_, ?_⟩
  · intro s mb c n ctl rgns hr hn hctl hfind hlock hfail hs
    refine cmd_to hr hs ((if_neg (by omega)).trans ?_)
    rw [hfind]
    exact (if_neg (by simp [hlock])).trans (if_neg (not_not.2 hfail))
  · intro s mb c mask limit hr hmask hflag hlock hfence hs
    refine cmd_to hr hs ((if_neg (by simp [hflag]; omega)).trans ?_)
    dsimp only
    rw [hlock]
    dsimp only
    rw [hfence]
    exact if_neg (by simp [hflag])
  · intro s mb c mask limit hr hmask hflag hlo hhi hlock hfence hs
    refine cmd_to hr hs ((if_neg (by omega)).trans ?_)
    dsimp only
    rw [hlock]
    dsimp only
    rw [hfence]
    exact if_pos hflag
  · rintro s mb c n body hr hn rfl hs
    exact cmd_to hr hs (if_neg (Nat.not_le.2 hn))
  · intro s mb c v hr hv hs
    exact cmd_to hr hs (if_neg (Nat.not_le.2 hv))
  · intro s mb c hr hs
    exact cmd_to hr hs rfl
  · intro s mb mask c ho hw hs
    refine act_to hs ?_
    rw [ho]
    dsimp only
    rw [hw]

end Sys2Proof.Machine
end


section

/-!
SUPPORT. The rows of the power domains, of the levels and of the supply.
-/

namespace Sys2Proof.Machine

/-- The rows that act while the clocks stand still too. -/
theorem fin_to {t u : State} (h : t = u) : fin t = .next u.settle := h ▸ rfl

/-! ### Entries to sleep -/

section
variable {s u : State} {d : Nat} (hu : u = (s.fullPlanes).syncVotes d) (hon : u.dom d = dON) (hlost : u.pw.lost.contains d = false)
  (hback : u.bankBack d = false)
include hu hon hlost hback

/-- A domain that is due and that nothing refuses closes. -/
theorem State.tryEntry_closes (hd : d < 62) (hfull : u.pw.full ≠ 1) (hvotes : u.votes d = 0) (htg : u.targetOf d ≠ tgON)
    (hshed : u.shedBank d = false) (href : u.refuser d = 0) : s.tryEntry d = u.closeDom d := by
  subst hu
  have hcore : d ≠ domCore := Nat.ne_of_lt hd
  exact (if_neg (by simpa [hon, hback] using hlost)).trans ((if_neg (by simp [hshed])).trans
    ((if_neg (by simp [hfull, hd, hvotes, htg])).trans ((if_neg (not_not.2 href)).trans (if_neg hcore))))

/-- A bank that is to be shed closes whatever else stands against it. -/
theorem State.tryEntry_sheds (hshed : u.shedBank d = true) : s.tryEntry d = u.shedEntry d := by
  subst hu
  exact (if_neg (by simpa [hon, hback] using hlost)).trans (if_pos hshed)

end

theorem State.entryStep_goes {s : State} {d st : Nat} (f : State → State) (h : s.dom d = st) (hv : (s.syncVotes d).dom d = st) :
    s.entryStep d st f = f (s.syncVotes d) := (if_neg (not_not.2 h)).trans (if_pos hv)

theorem State.entryStep_voted {s : State} {d st : Nat} (f : State → State) (h : s.dom d = st) (hv : (s.syncVotes d).dom d ≠ st) :
    s.entryStep d st f = s.syncVotes d := (if_neg (not_not.2 h)).trans (if_neg hv)

/-- What is done on a condition that does not hold. -/
theorem State.doIf_of_false {c : Bool} (s : State) (g : State → State) (h : c = false) : s.doIf c g = s := by
  rw [h]
  rfl

/-- A domain that no bank's return waits in and that no lost Wellhead starts again in comes up and the accesses run. -/
theorem State.wake_completes {s : State} {d : Nat} (hw : s.dom d = dWAKING) (hlost : s.pw.lost.contains d = false)
    (hback : s.bankBack d = false) (hwh : (d == 60 && (s.domUp d).wh.whLost) = false) :
    (if s.dom d ≠ dWAKING ∨ s.pw.lost.contains d then s.pwIgnored
      else
        let s := (s.doIf (s.bankBack d) (fun s => s.bankWipe (d - 16))).domUp d
        let again := d == 60 && s.wh.whLost
        let s := s.doIf again (fun s => ({ s with wh := { s.wh with whLost := false } }).doIf s.wh.booted (·.whRestart))
        s.cxRun) = (s.domUp d).cxRun := by
  have hup : (s.doIf (s.bankBack d) (fun s => s.bankWipe (d - 16))).domUp d = s.domUp d :=
    congrArg (·.domUp d) (s.doIf_of_false _ hback)
  refine (if_neg (by simpa [hw] using hlost)).trans (congrArg State.cxRun ?_)
  rw [hup]
  exact State.doIf_of_false _ _ hwh

/-- Settles O56: each row of Table 13-4 in the state that takes it. -/
theorem domainRowsAct : Obligations.DomainRowsAct := by
  refine ⟨?_, ?_, ?_, ?_, ?_, ?_, ?_, ?_, ?_, ?_, ?_, ?_, ?_, ?_, ?_, ?_, ?_⟩
  · intro s d u hd hu hfull hon hvotes htg hlost hback hshed href hs
    exact row_to hs (by omega) (State.tryEntry_closes hu hon hlost hback hd hfull hvotes htg hshed href)
  · intro s d u hd hu hfull hon hvotes htg hlost hback hshed href hs
    exact row_to hs (by omega) (State.tryEntry_closes hu hon hlost hback hd hfull hvotes htg hshed href)
  · intro s d hd h hv hs
    exact row_to hs (Nat.not_le.2 hd) (State.entryStep_goes _ h hv)
  · intro s d hd h hv hdr hs
    exact row_to hs (Nat.not_le.2 hd) ((State.entryStep_goes _ h hv).trans (if_pos hdr))
  · intro s d hd h hback hs
    exact row_to hs (Nat.not_le.2 hd) (if_pos ⟨h, by simp [hback]⟩)
  · rintro s d u v hd h rfl hv hback rfl hs
    refine row_to hs (Nat.not_le.2 hd) ((State.entryStep_goes _ h hv).trans ((if_neg (by simp [hback])).trans ?_))
    by_cases hio : 52 ≤ d ∧ d < 60
    · simp [hio]
    · simp only [if_neg hio]
      split <;> rfl
  · intro s d hd h htg hs
    exact row_to hs (Nat.not_le.2 hd) (if_pos ⟨h, htg⟩)
  · rintro s d u hd hback rfl hasl hfull hhalt hlost _ hshed hvote hs
    refine row_to hs (Nat.not_le.2 hd) ((if_neg (by simp [hback])).trans ((if_neg (by simpa [hasl, hfull, hhalt] using hlost)).trans
      ((if_neg (by simp [hshed])).trans (if_neg ?_))))
    rintro ⟨hnone, hedge⟩
    rcases hvote with hv | he
    · exact hv hnone
    · simp [he] at hedge
  · rintro s d u hd rfl hst hvotes hclosing hs
    refine row_to hs (Nat.not_le.2 hd) ((if_neg (not_not.2 hst)).trans (if_neg ?_))
    rintro (hnone | ⟨hc, hd, hi⟩)
    · exact hvotes hnone
    · exact hclosing.elim hc (fun h => h.elim hd hi)
  · intro s d hd hw hlost hback hs
    exact row_to hs (by omega) (State.wake_completes hw hlost hback (by simp [Nat.ne_of_lt hd]))
  · rintro s d u rfl hw hlost hback rfl hwh hs
    exact row_to hs (by omega) (State.wake_completes hw hlost hback (by simp [hwh]))
  · intro s d hd hv hs
    exact row_to hs (Nat.not_le.2 hd) (if_pos hv)
  · intro s d hd hon hlost
    have hcore : d ≠ domCore := Nat.ne_of_lt hd
    exact fin_to ((if_neg (by omega)).trans ((if_neg (by simpa [hon] using hlost)).trans (if_neg hcore)))
  · intro s hon hlost
    exact fin_to ((if_neg (by decide)).trans ((if_neg (by simpa [hon] using hlost)).trans (if_pos rfl)))
  · intro s d hd hw hlost
    exact fin_to ((if_neg (by omega)).trans (if_neg (by simpa [hw] using hlost)))
  · intro s d u hd hu hon hlost hback hshed hs
    exact row_to hs (by omega) (State.tryEntry_sheds hu hon hlost hback hshed)
  · intro s d hd h hv hs
    exact row_to hs (Nat.not_le.2 hd) (State.entryStep_voted _ h hv)

/-! ### Levels and supply -/

/-- Settles O57: each row in the state that takes it. -/
theorem powerRowsAct : Obligations.PowerRowsAct := by
  refine ⟨?_, ?_, ?_, ?_, ?_, ?_, ?_, ?_, ?_, ?_, ?_, ?_, ?_, ?_, ?_, ?_, ?_, ?_, ?_, ?_, ?_, ?_, ?_⟩
  · rintro s n u v hchg hhalt hfull rfl hlt rfl rfl hs
    refine act_to hs ((if_neg (by simp [hchg, hhalt, hfull]; omega)).trans ?_)
    simp [State.doIf, Nat.not_lt.2 (Nat.le_of_lt hlt)]
  · rintro s n u hchg hhalt hfull rfl hlt rfl hs
    refine act_to hs ((if_neg (by simp [hchg, hhalt, hfull]; omega)).trans ?_)
    simp [State.doIf, hlt]
  · intro s hchg hack
    refine fin_to ?_
    rw [hchg]
    exact if_neg (by simp [hack])
  · intro s n fast hchg
    refine fin_to ?_
    rw [hchg]
  · intro s x hchg
    refine fin_to ?_
    rw [hchg]
  · intro s hfull hhalt
    exact fin_to ((if_neg (by simp [hfull, hhalt])).trans (if_pos hfull))
  · rintro s u hfull hhalt rfl
    exact fin_to ((if_neg (by simp [hfull, hhalt])).trans (if_neg (by simp [hfull])))
  · intro s arefs htclk hhalt hentry
    exact fin_to ((if_pos rfl).trans (if_neg (by simp [htclk, hhalt, Option.isSome_iff_ne_none.1 hentry])))
  · rintro s i b arefs u hi hb hon rfl hexit
    refine fin_to ((if_neg hi).trans ?_)
    rw [hb]
    exact (if_neg (by simp [hon])).trans (if_pos (by simpa using hexit))
  · intro s i b hb hon
    refine fin_to ?_
    rw [hb]
    exact if_neg (by simp [hon])
  · intro s htclk
    exact fin_to (if_neg (by simp [htclk]))
  · intro s h hs
    exact act_to hs (if_neg (by omega))
  · intro s h hs
    exact act_to hs (if_neg (Nat.not_le.2 h))
  · intro s h hs
    exact act_to hs (if_neg (Nat.not_le.2 h))
  · intro s low hhalt h
    refine fin_to (if_neg ?_)
    rcases h with h | h <;> simp [hhalt, h]
  · intro s arefs hhalt hcrit hsag
    refine fin_to (congrArg State.warmRelease ((if_neg (by simp [hhalt])).trans ((if_neg (by simp [hcrit])).trans ?_)))
    rw [hsag]
    rfl
  · rintro s arefs u hhalt hlost rfl
    exact fin_to (congrArg State.warmRelease ((if_pos hhalt).trans (if_neg (Bool.eq_false_iff.1 hlost))))
  · intro s vals hs
    exact act_to hs rfl
  · intro s x hhot hlt hlim hs
    refine act_to hs ?_
    rw [hhot]
    exact (if_pos hlt).trans (if_neg hlim)
  · intro s x hhot hlt hs
    refine act_to hs ?_
    rw [hhot]
    exact (if_neg (by omega)).trans (if_pos hlt)
  · intro s n hn hs
    exact row_to hs (Nat.not_le.2 hn) rfl
  · intro s p hp hs
    exact act_to hs (if_neg (by simpa using hp))
  · rintro s i b arefs u v hi hb hon rfl hexit rfl
    refine fin_to ((if_neg hi).trans ?_)
    rw [hb]
    exact (if_neg (by simp [hon])).trans (if_neg (by simpa using hexit))

/-! ### Group 7 -/

/-- Settles O58: each command of group 7 with a body in range. -/
theorem powerCommandsAct : Obligations.PowerCommandsAct := by
  refine ⟨?_, ?_, ?_, ?_, ?_, ?_, ?_, ?_, ?_⟩
  · intro s mb c mask set hr hmask hs
    exact cmd_to hr hs (if_neg (Nat.not_le.2 hmask))
  · intro s mb c mask cfg hr hmask hcfg hs
    exact cmd_to hr hs (if_neg (by omega))
  · rintro s mb c pl u hr hpl hfail rfl hs
    refine cmd_to hr hs ((if_neg (Nat.not_le.2 hpl)).trans ((if_neg (not_not.2 hfail)).trans ?_))
    rfl
  · rintro s mb c u hr hok rfl hs
    exact cmd_to hr hs (if_neg (by simp [hok]))
  · rintro s mb c body hr rfl hflag hs
    exact cmd_to hr hs (if_neg (by simp [hflag]))
  · rintro s mb c body hr rfl hflag hs
    exact cmd_to hr hs (if_pos hflag)
  · intro s mb c hr hs
    exact cmd_to hr hs rfl
  · intro s mb c w hr hw hs
    exact cmd_to hr hs (if_neg (Nat.not_le.2 hw))
  · intro s mb c hr hs
    exact cmd_to hr hs rfl

end Sys2Proof.Machine
end


section

/-!
SUPPORT. The rows of the Wellhead, of the updates, of the faults and of the resets.
-/

namespace Sys2Proof.Machine

/-- What a command that the Wellhead takes leaves: it runs, or is answered with its first failed check. -/
theorem State.takeCommand_takes {s u : State} {mb : Nat} {rest : List Nat} (hup : s.whState = whUP) (hdom : s.dom 60 ≤ dDRAINING)
    (hidle : s.wh.cmds.any (fun e => s.get (MB_STAT_STATE e.1) == mbRUNNING) = false) (hrung : s.wh.rung = mb :: rest)
    (hu : u = { s.put (MB_STAT_STATE mb) mbRUNNING with wh := { s.wh with cmds := tset s.wh.cmds mb (s.cmdHeader mb), rung := rest } }) :
    s.takeCommand = if u.cmdCheck mb (s.cmdHeader mb) = mOK then u else u.reply mb (u.cmdCheck mb (s.cmdHeader mb)) 0 0 0 [] := by
  subst hu
  unfold State.takeCommand
  rw [if_neg (by simpa [hup, hidle] using hdom), hrung]

/-- What UPDATE_WRITE answers when the write of the image is accepted. -/
theorem State.updateWrite_ok {s u : State} {offset : Nat} {data : List Nat} (mb : Nat) (hupd : s.upd = uOPEN ∨ s.upd = uVERIFIED)
    (hlen : offset + data.length ≤ 0x100000) (hw : s.imgWrite (slotBase s.updSlot + offset) data = (.ok, u)) :
    s.updateWrite mb offset data = (u.put GLB_WH_STAT_UPD uOPEN).ok mb [] := by
  refine (if_neg (not_and_or.2 (hupd.imp not_not.2 not_not.2))).trans ((if_neg (Nat.not_lt.2 hlen)).trans ?_)
  rw [hw]
  rfl

/-- Settles O59: each row in the state that takes it. -/
theorem firmwareRowsAct : Obligations.FirmwareRowsAct := by
  refine ⟨?_, ?_, ?_, ?_, ?_, ?_, ?_, ?_, ?_, ?_, ?_, ?_, ?_, ?_, ?_, ?_, ?_, ?_, ?_, ?_⟩
  · intro s mb rest u hup hdom hidle hrung hu hok hs
    exact act_to hs ((State.takeCommand_takes hup hdom hidle hrung hu).trans (if_pos hok))
  · intro s mb rest u hup hdom hidle hrung hu hbad hs
    exact act_to hs ((State.takeCommand_takes hup hdom hidle hrung hu).trans (if_neg hbad))
  · intro s mb c hr hs
    exact cmd_to hr hs rfl
  · intro s mb c ws u hr hfree hs
    refine cmd_to hr hs ?_
    rw [hfree]
  · intro s mb c body hr hbody hs
    exact cmd_to hr hs (if_pos hbody)
  · intro s mb c ws u hr hfree hs
    refine cmd_to hr hs ?_
    rw [hfree]
  · intro s hst hwait hent hon hs
    refine row_to hs ?_ rfl
    rintro (⟨hb, hr⟩ | h | h | h)
    · exact hst.elim hb hr
    · simp [hwait] at h
    · simp [hent] at h
    · simp [hon] at h
  · intro s hr hs
    exact row_to hs (by simp [hr]) rfl
  · intro s hr hs
    exact row_to hs (by simp [hr]) rfl
  · intro s mb c hr hidle hseal hs
    exact cmd_to hr hs ((if_neg (not_not.2 hidle)).trans (if_neg (Bool.eq_false_iff.1 hseal)))
  · rintro s mb c offset body data u hr hupd rfl hoff hdata hlen hw hs
    exact cmd_to hr hs ((if_pos ⟨hoff, hdata⟩).trans (State.updateWrite_ok mb hupd hlen hw))
  · intro s mb c i u hr hopen himg hok hs
    refine cmd_to hr hs ((if_neg (not_not.2 hopen)).trans ?_)
    rw [himg]
    exact if_neg (not_not.2 hok)
  · rintro s mb c frame u hr hframe hfail htick rfl hs
    exact cmd_to hr hs ((if_pos hframe.symm).trans ((if_neg (not_not.2 hfail)).trans (if_pos htick)))
  · intro s mb c frame hr hframe hfail htick hs
    exact cmd_to hr hs ((if_pos hframe.symm).trans ((if_neg (not_not.2 hfail)).trans (if_neg (Bool.eq_false_iff.1 htick))))
  · rintro s mb c u hr hopen rfl hs
    exact cmd_to hr hs (if_pos hopen)
  · rintro s mb c u hr hupd rfl hs
    have hopen : s.upd ≠ uOPEN := by
      rcases hupd with h | h <;> rw [h] <;> decide
    exact cmd_to hr hs ((if_neg hopen).trans (if_pos hupd))
  · intro s mb c hr hs
    exact cmd_to hr hs rfl
  · rintro s r u v hupd hboot hopen rfl hslot hs
    refine row_to hs (by simp [hupd, hboot, hopen]) ?_
    dsimp only at hslot ⊢
    rw [hslot]
    rfl
  · intro s hupd hboot hopen hs
    exact row_to hs (by simp [hupd, hboot, hopen]) rfl
  · rintro s r u v hupd hboot rfl hslot hs
    refine row_to hs (by simp [hupd, hboot]) ?_
    dsimp only at hslot ⊢
    rw [hslot]
    rfl

/-- Settles O60: each row in the state that takes it. -/
theorem faultAndResetRowsAct : Obligations.FaultAndResetRowsAct := by
  refine ⟨?_, ?_, ?_, ?_, ?_, ?_, ?_, ?_, ?_, ?_, ?_, ?_, ?_⟩
  · rintro s mb c body hr rfl hs
    exact cmd_to hr hs rfl
  · intro s mb c mask hr hmask hs
    exact cmd_to hr hs (if_neg (Nat.not_le.2 hmask))
  · intro s mb c maps sat hr hmaps hsat hs
    refine cmd_to hr hs ?_
    rw [hmaps]
    exact if_neg (Nat.not_le.2 hsat)
  · intro s mb c offs ws u hr hlen hoffs hfold hs
    refine cmd_to hr hs ((if_neg (Nat.not_lt.2 hlen)).trans ?_)
    rw [hoffs]
    dsimp only
    rw [hfold]
  · intro s mb c cls un kind place f hr hinj hs
    refine cmd_to hr hs ?_
    rw [hinj]
  · rintro s b ok u hb hon rfl hs
    exact row_to hs (by simpa [hon] using hb) rfl
  · intro s
    exact fin_to rfl
  · intro s fuses ack unl
    exact fin_to rfl
  · intro s hbusy hlow hfull hhalt
    exact fin_to ((if_neg (by simp [hbusy, hlow])).trans (if_neg (by simp [hfull, hhalt])))
  · intro s hbusy hs
    exact act_to hs (if_pos hbusy)
  · rintro s slot addr lo hi u hready hwait hslot haddr rfl
    exact fin_to (if_neg (by simp [hready, hwait]; omega))
  · intro s slot hwait hslot hready
    exact fin_to ((if_neg (by simp [hwait]; omega)).trans (if_neg (by simp [hready])))
  · intro s slot hwait hslot hready
    exact fin_to ((if_neg (by simp [hwait]; omega)).trans (if_pos (by simp [hready])))

end Sys2Proof.Machine
end
